-- ==== Sys2Proof/Word.lean ====
section
/-! DEFINITION. The words of the Elzorin 7208: the widths the manual gives its fields. -/

namespace Sys2Proof

/-- One byte of memory or of a frame. -/
abbrev Byte := BitVec 8

/-- A memory word (00_scope.md, Conventions, "Memory words are 32 bits"). -/
abbrev Word := BitVec 32

/-- A free-running 16-bit count, or a 16-bit serial (00_scope.md, "Numbers"). -/
abbrev Count := BitVec 16

/-- A tag identity, a 64-bit value; 0 stands for "no tag" (00_scope.md, "Plates and tags"). -/
abbrev Tag := BitVec 64

/-- Plate text, character by character. -/
abbrev Plate := List Byte

/-- A field port, 0 to 10. -/
abbrev PortId := Fin 11

/-- A bay, 0 to 7. -/
abbrev BayId := Fin 8

/-- A tank, 0 to 3. -/
abbrev TankId := Fin 4

/-- A visit slot, 0 to 63. -/
abbrev Slot := Fin 64

/-- An account, 0 to 255. -/
abbrev AccountId := Fin 256

end Sys2Proof
end

