-- ==== Sys2Proof/Syntax.lean ====
section
/-! DEFINITION. The commands of the 7208: one constructor per row of spec/opcode_table.json. A command carries only what
comes from outside the part; what a step works on inside the part (a value handed, data read, a frame queued, a timer
that ran out) stands in State (log 1). -/

namespace Sys2Proof

/-- A frame as it stands on a link (R39, R183): the length byte is the payload's length. -/
structure Frame where
  kind : Byte
  payload : List Byte
  check : BitVec 16
  deriving DecidableEq, Repr

/-- The two gates: port 0 and port 1 (R38). -/
inductive Gate where
  | entry
  | exit
  deriving DecidableEq, Repr

/-- A host transaction covers one word or one aligned 32-byte line (R1). -/
inductive Span where
  | word
  | line
  deriving DecidableEq, Repr

/-- The commands, in the table's order. -/
inductive Instr where
  /-- HOST_READ (R2): the host issues a read of a word or line. -/
  | hostRead (span : Span) (addr : Word)
  /-- HOST_WRITE (R6): the host issues a write; `none` marks a byte its mask leaves out. -/
  | hostWrite (span : Span) (addr : Word) (bytes : List (Option Byte))
  /-- MEMORY_PORT_FREE (R18). -/
  | memoryPortFree
  /-- START_VALUE (R25): the start value handed from START is acted on. -/
  | startValue
  /-- STOP_VALUE (R28): the stop value handed from START is acted on. -/
  | stopValue
  /-- HOST_HALF_READ (R23): the host-half read has returned and is acted on. -/
  | hostHalfRead
  /-- TABLE_READ (R141). -/
  | tableRead
  /-- BALANCE_READ (R151). -/
  | balanceRead
  /-- ORDER_POST (R30). -/
  | orderPost
  /-- UNKNOWN_ORDER_KIND (R32). -/
  | unknownOrderKind
  /-- NOTICE_TAKEN (R34). -/
  | noticeTaken
  /-- POOL_POST (R161). -/
  | poolPost
  /-- SERVICE_FIRST_KEY (R176). -/
  | serviceFirstKey
  /-- SERVICE_SECOND_KEY (R176). -/
  | serviceSecondKey
  /-- SERVICE_WRONG_VALUE (R176). -/
  | serviceWrongValue
  /-- OPEN_FIRST_KEY (R142). -/
  | openFirstKey
  /-- OPEN_SECOND_KEY (R142). -/
  | openSecondKey
  /-- CLOSE_KEY (R142). -/
  | closeKey
  /-- WRONG_EDIT_KEY (R142). -/
  | wrongEditKey
  /-- COMMIT (R146). -/
  | commit
  /-- COMMIT_READBACK (R147). -/
  | commitReadback
  /-- RESET_INPUT (R20). -/
  | resetInput
  /-- BAD_FRAME (R40): a frame arrives on a port; the Port Unit judges it. -/
  | badFrame (port : PortId) (frame : Frame)
  /-- GOOD_FRAME_ARRIVAL (R41). -/
  | goodFrameArrival (port : PortId) (frame : Frame)
  /-- STATUS (R42). -/
  | status (port : PortId) (frame : Frame)
  /-- LINK_FREE (R50). -/
  | linkFree (port : PortId)
  /-- LINK_TIMER (R42). -/
  | linkTimer (port : PortId)
  /-- SIGHT_TAG (R56, R69): the gate's unit takes a tag sighting from the head of its queue. -/
  | sightTag (gate : Gate)
  /-- SIGHT_PLATE (R56, R69). -/
  | sightPlate (gate : Gate)
  /-- PAIRING_TIMER (R59). -/
  | pairingTimer
  /-- RECENT_EXIT_EXPIRY (R71). -/
  | recentExitExpiry
  /-- ADMIT_VISIT (R67): the order read back from the order ring is acted on; so for every order below. -/
  | admitVisit
  /-- TURN_AWAY (R68). -/
  | turnAway
  /-- SET_PROGRAMME (R88). -/
  | setProgramme
  /-- CANCEL_VISIT (R89). -/
  | cancelVisit
  /-- CALL_TIMER (R86). -/
  | callTimer (slot : Slot)
  /-- PRESENCE (R94). -/
  | presence (bay : BayId)
  /-- BAY_TAG (R96). -/
  | bayTag (bay : BayId)
  /-- METER (R103). -/
  | meter (bay : BayId)
  /-- STAGE_TIMER (R102). -/
  | stageTimer (bay : BayId)
  /-- ABORT_SESSION (R108). -/
  | abortSession
  /-- HOLD_BAY (R113). -/
  | holdBay
  /-- OPEN_BAY (R114). -/
  | openBay
  /-- LEVEL (R126). -/
  | level
  /-- SAMPLE (R127). -/
  | sample
  /-- CALIBRATE (R130). -/
  | calibrate
  /-- PUMP_DONE (R133). -/
  | pumpDone
  /-- PUMP_TIMER (R133). -/
  | pumpTimer
  /-- CIRCULATION_DUE (R131). -/
  | circulationDue (tank : TankId)
  /-- TANK_STALE (R131). -/
  | tankStale (tank : TankId)
  /-- PAYMENT (R157). -/
  | payment
  /-- CLOSE_PERIOD (R158). -/
  | closePeriod
  /-- STOP_ACCOUNT (R159). -/
  | stopAccount
  /-- RESUME_ACCOUNT (R159). -/
  | resumeAccount
  /-- POOL_ENTRY_READ (R162). -/
  | poolEntryRead
  /-- CUT_PAGE (R169). -/
  | cutPage
  /-- DEPOT_SECOND_BOUNDARY (R171). -/
  | depotSecondBoundary
  /-- SET_CLOCK (R174). -/
  | setClock
  /-- MONITOR_COUNTDOWN (R176). -/
  | monitorCountdown
  /-- LIFETIME_TIMER (R143). -/
  | lifetimeTimer
  /-- LOCKOUT_TIMER (R143). -/
  | lockoutTimer
  /-- RESET_PORT (R51). -/
  | resetPort
  deriving DecidableEq, Repr

end Sys2Proof
end

