-- ==== Sys2Proof/Config.lean ====
section
/-! DEFINITION. What the part fixes (addresses, sizes, key values) and the free values: constants without a body for the
values the manual leaves open. -/

namespace Sys2Proof.Config

/-- A value the manual leaves open, drawn afresh for each count of `State.free` (logs 11, 13, 14). No body: nothing can
be proved of it. -/
opaque freeWord : Nat → BitVec 32

/-- Base of the layout page's host half (00_scope.md, "layout page"; R180). -/
def hostHalf : Nat := 0x00100000
/-- Base of the status half (R180). -/
def statusHalf : Nat := 0x00100800
/-- Bytes in each half of the layout page. -/
def halfSize : Nat := 2048

/-- The start and stop values (R25). -/
def startKey : BitVec 32 := 0x53A70C11
def stopKey : BitVec 32 := 0x53A70CEE
/-- The two service keys (R176). -/
def serviceFirst : BitVec 32 := 0x61C30A5D
def serviceSecond : BitVec 32 := 0x1F4E7B02
/-- The edit keys (R142): open-first(t) and open-second(t) are these plus t. -/
def openFirst : BitVec 32 := 0x4B3D0000
def openSecond : BitVec 32 := 0x2E910000
def closeValue : BitVec 32 := 0x0C1A0000

/-- Region sizes (R24). -/
def orderRingSize : Nat := 2048
def noticeRingSize : Nat := 4096
def visitAreaSize : Nat := 4096
def balanceAreaSize : Nat := 4096
def vehicleTableSize : Nat := 131072
def accountTableSize : Nat := 8192
def programmeTableSize : Nat := 2048
def tariffTableSize : Nat := 1024
def poolRingSize : Nat := 256
def pageSize : Nat := 4096

/-- The commit word that declares an entry present (R139). -/
def presentWord : Nat := 0xC0DE

/-- Places in the internal request queue (R14). -/
def queuePlaces : Nat := 64
/-- Places in an inbound and an outbound queue (R46, R49). -/
def inboundPlaces : Nat := 32
def outboundPlaces : Nat := 16
/-- Entries on the touched list (R144) and lines with reservations in the pending list (R166). -/
def touchedPlaces : Nat := 32
def pendingPlaces : Nat := 16
/-- The pending count at which the pause flag is set (R168). -/
def pauseCount : Nat := 8
/-- Order ring and notice ring entries (sections 2.3, 2.4), page pool entries (section 10.1). -/
def orderEntries : Nat := 64
def noticeEntries : Nat := 256
def poolEntries : Nat := 32
/-- Room a page must keep for one more line (R163). -/
def lineRoom : Nat := 80
/-- The lockout, in seconds (R142). -/
def lockoutSeconds : Nat := 60

end Sys2Proof.Config
end

