-- ==== Sys2Proof/Machine/State.lean ====
section
/-! DEFINITION. Everything the manual gives the 7208 to hold, as plain data, unit by unit, and the state the reset input
leaves. Names follow the manual; the rule that names a piece of state is cited at its type or field. -/

namespace Sys2Proof.Machine

/-- Why a step stops. -/
inductive Fault where
  /-- Raised by HOST_READ and HOST_WRITE for an address not aligned to its word or line, or a byte list of the wrong
  length: that is no host transaction (R1). Safe: the manual gives such a thing no meaning (log 9). -/
  | malformedTransaction
  deriving DecidableEq, Repr

/-- Why a command has no meaning. -/
inductive Refusal where
  /-- Raised by `exec` for a row that has no meaning yet; safe. No arm answers it in this model. -/
  | notModelled (mnemonic : String)
  deriving DecidableEq, Repr

/-! ### Names shared by several units -/

/-- A depot day and second of day (00_scope.md, "Time"). -/
structure Stamp where
  day : BitVec 16
  second : Nat
  deriving DecidableEq, Repr

/-- Part states (section 2.2). -/
inductive PartState where
  | dormant | loading | running | stopping | halted
  deriving DecidableEq, Repr

/-- LOAD_ERROR, less NONE (R23, R24, R25). -/
inductive LoadError where
  | fieldRange | fieldRelation | regionAlign | regionBounds | regionLayoutOverlap | regionOverlap | monitorLapsed
  deriving DecidableEq, Repr

/-- The four guarded tables (section 8.1). -/
inductive TableId where
  | vehicles | accounts | programmes | tariffs
  deriving DecidableEq, Repr

/-- Classes of dropped writes, less NONE (R12). -/
inductive DropClass where
  | statusHalf | noticeRing | visitArea | balanceArea
  | guarded (t : TableId)
  | tallyPage | orderEntry
  deriving DecidableEq, Repr

/-- The records the Exchange Unit refreshes (R14, R36). -/
inductive Rec where
  | line (k : Fin 64)
  | visit (slot : Slot)
  | balance (account : AccountId)
  deriving DecidableEq, Repr

/-- What an internal read is for (R14). -/
inductive ReadTag where
  | hostHalf
  | table (t : TableId) (chunk : Nat)
  | balances (chunk : Nat)
  | order
  | pool
  | readback (t : TableId) (entry : Nat)
  deriving DecidableEq, Repr

/-- The units that issue internal requests (R14). -/
inductive UnitId where
  | path | exchange | table | tally
  deriving DecidableEq, Repr

/-- A request as its unit presents it. A refresh carries no content yet: it takes its record's content when it joins
the queue (R14, R15). -/
inductive Issue where
  | read (tag : ReadTag) (addr lines : Nat)
  | place (addr : Nat) (bytes : List Byte)
  | refresh (record : Rec)
  deriving DecidableEq, Repr

/-- A request in the internal request queue (R14). -/
inductive Request where
  | read (tag : ReadTag) (addr lines : Nat)
  | place (addr : Nat) (bytes : List Byte)
  | refresh (record : Rec) (addr : Nat) (bytes : List Byte)
  deriving DecidableEq, Repr

/-- A request that found the queue full, with the unit that holds it (R14). -/
structure Held where
  unit : UnitId
  issue : Issue
  deriving DecidableEq, Repr

/-- What the Table Unit or the Tally Unit is told of (R28, R143, R164). -/
inductive Told where
  /-- The open window's lifetime, or LOCKOUT's time, has run out. -/
  | lifetime
  | lockout
  | fallback
  | stopping
  /-- HALTED, for the Table Unit's window and for the Tally Unit's page. -/
  | windowHalted
  | pageHalted
  deriving DecidableEq, Repr

/-- A value of a control word, or a commit, on its way to its owner (R8, R10, R11). -/
inductive Handed where
  | start
  | stop
  | serviceFirst
  | serviceSecond
  /-- Any other SERVICE value; `none` for a partial write, which is handed as a wrong value (R11). -/
  | serviceWrong (value : Option Word)
  | openFirst (t : TableId)
  | openSecond (t : TableId)
  | closeWindow
  | wrongKey
  | orderPost (v : Count)
  | noticeTaken (v : Count)
  | poolPost (v : Count)
  /-- A commit, with the value its write gave the entry's commit word (R8). -/
  | commit (t : TableId) (entry : Nat) (value : Word)
  deriving DecidableEq, Repr

/-- The notice kinds, in code order (R181). -/
inductive NoticeKind where
  | writeDropped | started | stopping | halted | orderPostInvalid | takenInvalid | poolPostInvalid
  | portUp | portDown | portOverflow | sightingInvalid | entryPairDiscarded | gateBlocked | visitHeld
  | exitUnmatched | exitMismatch | barrierUnsent | queueUnservable | callExpired | visitReleased
  | callWithdrawn | wrongVehicle | uncalledVehicle | stationStopped | meterInvalid | sessionAborted
  | allowanceReserve | allowanceExhausted | grantRevoked | plantFrameInvalid | probeExpired | tankQuality
  | tankStale | pumpFailed | editWindow | editIncomplete | editRefused | loadEntryRejected
  | balanceRejected | accountCredit | poolEntryInvalid | poolEmpty | pageClosed | tallyPause | dayRolled | monitor
  deriving DecidableEq, Repr

/-- A notice as it is asked for (section 2.4, R181): the reason is a code of its kind. -/
structure Notice where
  kind : NoticeKind
  reason : Nat := 0
  subject : Nat := 0
  first : Nat := 0
  second : Nat := 0
  deriving DecidableEq, Repr

/-- What the Exchange Unit is asked for by other units: a notice, with the clock at its ask (R33), a refresh (R36), the
completion of LOADING (R26; log 47), the wind-down test (R28; log 43). -/
inductive ExItem where
  | notice (n : Notice) (asked : Stamp)
  | refresh (record : Rec)
  | complete
  | windDown
  deriving DecidableEq, Repr

/-- An event of a unit that issues requests (R14). -/
inductive Event where
  /-- A value or a commit handed (R8, R10). -/
  | value (h : Handed)
  /-- An internal read performed, with its data (R14). -/
  | read (tag : ReadTag) (data : List Byte)
  /-- Something asked of the Exchange Unit. -/
  | ask (i : ExItem)
  /-- Something the Table Unit or the Tally Unit is told of. -/
  | told (e : Told)
  /-- A closing handed to the Tally Unit (R73). -/
  | closing (slot : Slot)
  deriving DecidableEq, Repr

/-- An event that has reached its unit and is not yet taken. It is late when the unit could not take it at once, or when a
later event has had to wait behind it (R14; log 10). -/
structure Arrival where
  event : Event
  late : Bool
  /-- ORDER TAKEN as it stood when the event reached its unit: a post is judged by it (R10, R30). -/
  orderTaken : Count := 0
  deriving DecidableEq, Repr

/-- A host transaction (R1). -/
inductive HostOp where
  | read (span : Span) (addr : Word)
  | write (span : Span) (addr : Word) (bytes : List (Option Byte))
  deriving DecidableEq, Repr

/-- The transaction the processor port holds: what it will hand once performed, judged at its arrival, and how many
requests of the queue must be granted before it may be presented (R1, R10, R16). -/
structure HostTxn where
  op : HostOp
  hands : List Handed
  behind : Nat
  deriving DecidableEq, Repr

/-- The transaction in progress at the memory port (R18, R19). -/
inductive PortTxn where
  | host
  | internal (request : Request)
  deriving DecidableEq, Repr

/-- How much of the region map is installed (R4). -/
inductive RegionMap where
  | clear | provisional | full
  deriving DecidableEq, Repr

/-- The bases of the latched regions (R3, R24). -/
structure Bases where
  orderRing : Nat
  noticeRing : Nat
  visitArea : Nat
  balanceArea : Nat
  vehicles : Nat
  accounts : Nat
  programmes : Nat
  tariffs : Nat
  poolRing : Nat
  tally : Nat
  tallyPages : Nat
  deriving DecidableEq, Repr

/-- The Path Unit (chapter 1). -/
structure PathUnit where
  map : RegionMap
  bases : Bases
  /-- DROPPED_WRITES, LAST_DROPPED_ADDRESS, LAST_DROP_CLASS (R12). -/
  dropped : Word
  dropAddr : Word
  dropClass : Option DropClass
  /-- The producer position of the last WRITE_DROPPED (R13). -/
  dropPos : Option Count
  /-- The internal request queue, head first (R14). -/
  queue : List Request
  /-- Requests held for want of a place, in the order presented, but that a refresh makes way for the placements its
  record tells of (R14, R15; log 53). -/
  held : List Held
  /-- The host run count, 0 to 4 (R18). -/
  hostRun : Nat
  /-- The transaction at the processor port (R1). -/
  host : Option HostTxn
  /-- Host transactions issued while the port held another (R1). -/
  waiting : List HostOp
  /-- The transaction in progress at the memory port (R18). -/
  port : Option PortTxn
  /-- The data of the last host read (R2). -/
  readData : List Byte
  /-- What has reached a unit and is not yet taken, in the order it fell (R10, R14). -/
  arrived : List Arrival
  deriving DecidableEq, Repr

/-! ### Exchange Unit (chapter 2) -/

structure ExchangeUnit where
  part : PartState
  loadError : Option LoadError
  loadErrorField : Nat
  /-- ORDER TAKEN and the host's posted order count (R26, R30). -/
  orderTaken : Count
  orderPosted : Count
  /-- The notice producer count and the host's NOTICE TAKEN (R33, R34). -/
  producer : Count
  taken : Count
  /-- The producer count the loading started from, carried by STARTED (R26). -/
  startProducer : Count
  overrun : Bool
  /-- An order is in execution (R31). -/
  inExecution : Bool
  /-- The attention line (R35). -/
  attention : Bool
  deriving DecidableEq, Repr

/-- A fitted bay's descriptor (R22, R23). -/
structure BayDesc where
  axleLimit : Nat
  mask : BitVec 16
  pulses : Nat
  deriving DecidableEq, Repr

/-- MONITOR_ACTION (R176). -/
inductive MonitorAction where
  | noticeOnly | fallback
  deriving DecidableEq, Repr

/-- The parameters latched at LOADING (R22, R23). -/
structure Latched where
  baysFitted : Nat
  tanksFitted : Nat
  tankCapacity : Vector Nat 4
  pairWindow : Nat
  plateThreshold : Nat
  callLimit : Nat
  linkTimeout : Nat
  holdMargin : Nat
  goLevel : Nat
  editLifetime : Nat
  periodCode : Nat
  action : MonitorAction
  turnover : Nat
  pumpTimeout : Nat
  qualityLimit : Nat
  tolBase : Nat
  tolTemp : Nat
  tolAge : Nat
  tolCeiling : Nat
  freshAllowance : Nat
  freshReserve : Nat
  secondDivider : Nat
  bays : Vector BayDesc 8
  deriving DecidableEq, Repr

/-! ### Port Unit (chapter 3) -/

inductive LinkState where
  | down | up | held
  deriving DecidableEq, Repr

/-- LAST_DOWN_REASON, less NONE (R43). -/
inductive DownReason where
  | linkTimeout | badFrames | outboundOverflow | resetOrder | halted
  deriving DecidableEq, Repr

/-- LAST_STATION_STATE, less NONE (R39). -/
inductive StationState where
  | normal | local | faulted
  deriving DecidableEq, Repr

/-- A flow frame (R48). -/
inductive Flow where
  | hold | go
  deriving DecidableEq, Repr

/-- A frame in a queue: its check has been judged, or will be made when it is sent. -/
structure QFrame where
  kind : Byte
  payload : List Byte
  /-- A PUMP_DONE that stood untaken when the pump timer ended the run it answers: it answers no run (R133; log 59). -/
  overtaken : Bool := false
  deriving DecidableEq, Repr

structure Port where
  link : LinkState
  inbound : List QFrame
  outbound : List QFrame
  /-- The bytes of the frame whose transmission has begun, as sent (R43, R50, R183). -/
  sending : Option (List Byte)
  /-- The bad-frame run (R40). -/
  badRun : Nat
  /-- The link timer: boundaries left (R42, R173). -/
  timer : Option Nat
  hold : Bool
  overflow : Bool
  /-- The pending flow frame (R48). -/
  flow : Option Flow
  /-- The pending flow frame is the one whose transmission has begun (R50; log 24). -/
  flowSending : Bool
  downReason : Option DownReason
  station : Option StationState
  inGood : Count
  inBad : Count
  inDiscarded : Count
  outSent : Count
  outDiscarded : Count
  deriving DecidableEq, Repr

/-! ### Gate Unit (chapter 4) -/

inductive EntryState where
  | ready | pairing | blocked | down
  deriving DecidableEq, Repr

/-- A pair: at most one tag sighting and one plate sighting with its confidence (section 4.3). -/
structure Pair where
  tag : Option Tag
  plate : Option (Plate × Nat)
  deriving DecidableEq, Repr

inductive Basis where
  | both | tag | plate
  deriving DecidableEq, Repr

/-- Identification outcomes (R60). -/
inductive Ident where
  | identified (basis : Basis) (entry : Nat)
  | unknown | uncertain | conflict
  deriving DecidableEq, Repr

/-- An entry of the recent-exit list (R71); `left` counts the boundaries to its expiry. -/
structure RecentExit where
  tags : List Tag
  plates : List Plate
  serial : Option Count
  left : Nat
  deriving DecidableEq, Repr

structure GateUnit where
  /-- The vehicle index (R53). -/
  tagMap : List (Tag × Nat)
  plateMap : List (Plate × Nat)
  entry : EntryState
  pair : Option Pair
  /-- The outcome of a pair held while BLOCKED (R62). -/
  outcome : Option Ident
  timer : Option Nat
  /-- The exit gate is READY (R69). -/
  exitReady : Bool
  /-- The recent-exit list, in the order its entries were made (R71). -/
  recent : List RecentExit
  deriving DecidableEq, Repr

/-! ### Yard Unit (chapter 5) -/

inductive VisitState where
  | atGate | queued | called | washing | washed | released | closing
  deriving DecidableEq, Repr

/-- Hold and release reasons, in code order (R77, R179). -/
inductive VisitReason where
  | unknown | uncertain | conflict | barred | accountStopped | credit | depotPaused | noShow | cancelled
  deriving DecidableEq, Repr

inductive Outcome where
  | complete | aborted | unwashed | released | turnedAway
  deriving DecidableEq, Repr

inductive AbortReason where
  | order | vehicleLeft | portLost | fallback | noProgramme
  deriving DecidableEq, Repr

/-- The session summary (R77, R107). -/
structure Summary where
  completed : Nat
  total : Nat
  fresh : Nat
  reclaim : Nat
  detergent : Nat
  overrun : Nat
  abort : Option AbortReason
  deriving DecidableEq, Repr

/-- A visit (R77). -/
structure Visit where
  serial : Count
  state : VisitState
  reason : Option VisitReason
  outcome : Option Outcome
  vehicle : Option Nat
  account : Option AccountId
  programme : Option Nat
  axles : Option Nat
  tag : Option Tag
  plate : Option Plate
  priority : Bool
  bay : Option BayId
  callCount : Nat
  entered : Stamp
  admitted : Option Stamp
  summary : Option Summary
  left : Option Stamp
  /-- The call timer: boundaries left (R85). -/
  callTimer : Option Nat
  /-- The identification basis VISIT_HELD carries (R63). -/
  basis : Option Basis
  /-- Its places in creation order (R65) and in admission order (R80). -/
  created : Nat
  admission : Nat
  deriving DecidableEq, Repr

structure YardUnit where
  slots : Vector (Option Visit) 64
  /-- The serial counter (R78). -/
  serial : Count
  /-- The bay queue, first visit first (R80). -/
  queue : List Slot
  /-- How many visits have been created and admitted: the orders of R65 and R80 (log 35). -/
  created : Nat
  admitted : Nat
  deriving DecidableEq, Repr

/-! ### Bay Unit (chapter 6) -/

inductive BayState where
  | closed | free | calling | waitingWater | running | settling | clearing | fault
  deriving DecidableEq, Repr

inductive Presence where
  | unknown | on | off
  deriving DecidableEq, Repr

inductive StageKind where
  | preRinse | foam | brush | rinse | finalRinse | dry
  deriving DecidableEq, Repr

inductive WaterClass where
  | none | reclaimOk | freshOnly
  deriving DecidableEq, Repr

/-- Where a part's water comes from (R118); `none` for a stage of class NONE. -/
inductive Source where
  | tank (k : TankId)
  | fresh
  | none
  deriving DecidableEq, Repr

/-- A stage of a programme (R99, R139). -/
structure Stage where
  kind : StageKind
  water : WaterClass
  flow : Nat
  duration : Nat
  rate : Nat
  deriving DecidableEq, Repr

/-- A stage in a session's copied list (R99). -/
structure StageRun where
  stage : Stage
  elapsed : Nat
  short : Bool
  complete : Bool
  deriving DecidableEq, Repr

/-- The part in flight (R99); `grant` is absent for a stage of class NONE (R100). -/
structure Part where
  grant : Option Nat
  source : Source
  granted : Nat
  last : Nat
  revoked : Bool
  deriving DecidableEq, Repr

/-- The session record (R99). -/
structure Session where
  slot : Slot
  serial : Count
  programme : Nat
  stages : List StageRun
  current : Nat
  part : Option Part
  completed : Nat
  fresh : Nat
  reclaim : Nat
  overrun : Nat
  detergent : Nat
  abort : Option AbortReason
  deriving DecidableEq, Repr

structure Bay where
  state : BayState
  bound : Option Slot
  presence : Presence
  lastTag : Option Tag
  session : Option Session
  /-- The stage timer: boundaries left (R102). -/
  timer : Option Nat
  holdAfter : Bool
  deriving DecidableEq, Repr

/-! ### Water Unit (chapter 7) -/

inductive Quality where
  | certified | uncertain | failed
  deriving DecidableEq, Repr

/-- A tank record (R116). Owed litres are computed from the grants (`owed`). -/
structure Tank where
  capacity : Nat
  reported : Nat
  book : Nat
  quality : Quality
  stale : Bool
  pumpPending : Bool
  pumpRunning : Bool
  age : Nat
  /-- The bays whose grants on the tank are not settled, in issue order (R116). -/
  grants : List BayId
  /-- The circulation and the staleness thresholds reached and not yet acted on (R131; log 3). -/
  circulationDue : Bool
  staleDue : Bool
  deriving DecidableEq, Repr

/-- A grant record; its place gives the bay (R118). -/
structure Grant where
  number : Nat
  source : Source
  granted : Nat
  metered : Nat
  revoked : Bool
  day : BitVec 16
  reserve : Bool
  deriving DecidableEq, Repr

/-- A refused request on the wait list (R122). -/
structure WaitEntry where
  bay : BayId
  water : WaterClass
  litres : Nat
  stageDone : Bool
  deriving DecidableEq, Repr

inductive PumpKind where
  | circulate | treat
  deriving DecidableEq, Repr

/-- A pump request with the time it joined (R132). -/
structure PumpReq where
  tank : TankId
  kind : PumpKind
  joined : Stamp
  deriving DecidableEq, Repr

structure WaterUnit where
  tanks : Vector Tank 4
  grants : Vector (Option Grant) 8
  /-- The grant counter (R118). -/
  counter : Nat
  waitList : List WaitEntry
  /-- Fresh settled today (R121). -/
  settled : Nat
  /-- ALLOWANCE_RESERVE and ALLOWANCE_EXHAUSTED have been given today (R120). -/
  reserveGiven : Bool
  exhaustedGiven : Bool
  /-- CAL_STATE is CALIBRATED; CAL_DAY; CAL_TEMP (R127). -/
  calibrated : Bool
  calDay : BitVec 16
  calTemp : Int
  probeExpired : Bool
  pumpQueue : List PumpReq
  run : Option PumpReq
  pumpTimer : Option Nat
  deriving DecidableEq, Repr

/-! ### Table Unit (chapter 8) -/

structure Vehicle where
  tag : Tag
  plate : Option Plate
  account : AccountId
  programme : Nat
  axles : Nat
  barred : Bool
  deriving DecidableEq, Repr

structure Account where
  haulier : List Byte
  tariff : Nat
  priority : Bool
  limit : Nat
  deriving DecidableEq, Repr

structure Programme where
  stages : List Stage
  deriving DecidableEq, Repr

structure Tariff where
  gateFee : Nat
  prices : List Nat
  axle : Nat
  fresh : Nat
  reclaim : Nat
  detergent : Nat
  unwashed : Nat
  abortPercent : Nat
  deriving DecidableEq, Repr

inductive Window where
  | shut
  | primed (t : TableId)
  | opened (t : TableId)
  | lockout
  deriving DecidableEq, Repr

/-- A table's entries accepted as present and rejected at a LOADING (R141). -/
structure LoadCount where
  present : Nat
  rejected : Nat
  deriving DecidableEq, Repr

/-- The load counts of the four tables (R141). -/
structure LoadCounts where
  vehicles : LoadCount
  accounts : LoadCount
  programmes : LoadCount
  tariffs : LoadCount
  deriving DecidableEq, Repr

structure TableUnit where
  /-- The internal copies: the committed entries, by index, rising (R138). -/
  vehicles : List (Nat × Vehicle)
  accounts : List (Nat × Account)
  programmes : List (Nat × Programme)
  tariffs : List (Nat × Tariff)
  window : Window
  lifetime : Option Nat
  lockout : Option Nat
  /-- The touched list, in the order entries joined (R144). -/
  touched : List Nat
  /-- EDIT_REFUSED given in this opening, by reason (R145). -/
  refusedTouched : Bool
  refusedTally : Bool
  /-- Commits whose readbacks are in flight (R146). -/
  commits : List (TableId × Nat)
  /-- What the present LOADING has counted so far (R141). -/
  counting : LoadCounts
  /-- The load counts last posted, which the status half shows (R138, R141, R149). -/
  loadCounts : LoadCounts
  deriving DecidableEq, Repr

/-! ### Tally Unit (chapters 9 and 10) -/

/-- An account's state (R150). -/
structure AccountState where
  balance : Nat
  charges : Nat
  payments : Nat
  visitCount : Nat
  paymentCount : Nat
  partialPeriod : Bool
  creditStop : Bool
  hostStop : Bool
  deriving DecidableEq, Repr

/-- The current page (R162, R163). -/
structure Page where
  addr : Nat
  seq : Word
  used : Nat
  lines : Nat
  hostRef : Word
  firstTime : Option Stamp
  lastTime : Option Stamp
  deriving DecidableEq, Repr

/-- A composed line, complete with its number and time (R165, R166). -/
structure TallyLine where
  header : List Byte
  items : List Byte
  time : Stamp
  deriving DecidableEq, Repr

structure TallyUnit where
  accounts : Vector AccountState 256
  invoice : Word
  pageSeq : Word
  lineNumber : Word
  poolPos : Count
  poolPosted : Count
  page : Option Page
  poolRead : Bool
  lines : List TallyLine
  reservations : Nat
  closings : List Slot
  pause : Bool
  poolEmptyGiven : Bool
  deriving DecidableEq, Repr

/-! ### Clock and Monitor (chapter 11) -/

inductive MonitorState where
  | idle | primed | armed | armedPrimed | lapsed
  deriving DecidableEq, Repr

structure ClockUnit where
  /-- The divider count, and whether it runs (R171). -/
  divider : Nat
  running : Bool
  /-- The depot clock (R172). -/
  now : Stamp
  monitor : MonitorState
  /-- The countdown, while armed (R176). -/
  countdown : Option Nat
  /-- The countdown as loaded at the last arming or reload; none before the first arming (R176, R178). -/
  loaded : Option Nat
  /-- The period code and action latched at arming (R176). -/
  latchedPeriod : Option Nat
  latchedAction : Option MonitorAction
  faultLine : Bool
  fallback : Bool
  deriving DecidableEq, Repr

/-! ### The whole part -/

structure State where
  mem : List Host.Cell
  path : PathUnit
  exch : ExchangeUnit
  latched : Latched
  ports : Vector Port 11
  gate : GateUnit
  yard : YardUnit
  bays : Vector Bay 8
  water : WaterUnit
  table : TableUnit
  tally : TallyUnit
  clock : ClockUnit
  /-- How many free values have been drawn (logs 11, 13, 14). -/
  free : Nat
  /-- The commands that are waiting, first in, first out. -/
  pending : List Instr
  deriving DecidableEq, Repr

/-! ### The reset input (R20, R29, R45, R76, R91, R115, R137, R149, R160, R170, R178); what no rule gives is log 5 -/

def Bases.reset : Bases :=
  { orderRing := 0, noticeRing := 0, visitArea := 0, balanceArea := 0, vehicles := 0, accounts := 0,
    programmes := 0, tariffs := 0, poolRing := 0, tally := 0, tallyPages := 0 }

/-- R20. -/
def PathUnit.reset : PathUnit :=
  { map := .clear, bases := .reset, dropped := 0, dropAddr := 0, dropClass := none, dropPos := none,
    queue := [], held := [], hostRun := 0, host := none, waiting := [], port := none, readData := [],
    arrived := [] }

/-- R29. -/
def ExchangeUnit.reset : ExchangeUnit :=
  { part := .dormant, loadError := none, loadErrorField := 0, orderTaken := 0, orderPosted := 0,
    producer := 0, taken := 0, startProducer := 0, overrun := false, inExecution := false,
    attention := false }

def Latched.reset : Latched :=
  { baysFitted := 0, tanksFitted := 0, tankCapacity := Vector.replicate 4 0, pairWindow := 0,
    plateThreshold := 0, callLimit := 0, linkTimeout := 0, holdMargin := 0, goLevel := 0,
    editLifetime := 0, periodCode := 0, action := .noticeOnly, turnover := 0, pumpTimeout := 0,
    qualityLimit := 0, tolBase := 0, tolTemp := 0, tolAge := 0, tolCeiling := 0, freshAllowance := 0,
    freshReserve := 0, secondDivider := 0,
    bays := Vector.replicate 8 { axleLimit := 0, mask := 0, pulses := 0 } }

/-- R45. -/
def Port.reset : Port :=
  { link := .down, inbound := [], outbound := [], sending := none, badRun := 0, timer := none,
    hold := false, overflow := false, flow := none, flowSending := false, downReason := none, station := none,
    inGood := 0, inBad := 0, inDiscarded := 0, outSent := 0, outDiscarded := 0 }

/-- R76. -/
def GateUnit.reset : GateUnit :=
  { tagMap := [], plateMap := [], entry := .ready, pair := none, outcome := none, timer := none,
    exitReady := true, recent := [] }

/-- R91. -/
def YardUnit.reset : YardUnit :=
  { slots := Vector.replicate 64 none, serial := 0, queue := [], created := 0, admitted := 0 }

/-- R115. -/
def Bay.reset : Bay :=
  { state := .closed, bound := none, presence := .unknown, lastTag := none, session := none,
    timer := none, holdAfter := false }

def Tank.reset : Tank :=
  { capacity := 0, reported := 0, book := 0, quality := .uncertain, stale := false,
    pumpPending := false, pumpRunning := false, age := 0, grants := [], circulationDue := false,
    staleDue := false }

/-- R137. -/
def WaterUnit.reset : WaterUnit :=
  { tanks := Vector.replicate 4 Tank.reset, grants := Vector.replicate 8 none, counter := 0,
    waitList := [], settled := 0, reserveGiven := false, exhaustedGiven := false, calibrated := false,
    calDay := 0, calTemp := 0, probeExpired := false, pumpQueue := [], run := none, pumpTimer := none }

/-- Load counts of 0. -/
def LoadCounts.zero : LoadCounts :=
  { vehicles := ⟨0, 0⟩, accounts := ⟨0, 0⟩, programmes := ⟨0, 0⟩, tariffs := ⟨0, 0⟩ }

/-- R149. -/
def TableUnit.reset : TableUnit :=
  { vehicles := [], accounts := [], programmes := [], tariffs := [], window := .shut,
    lifetime := none, lockout := none, touched := [], refusedTouched := false, refusedTally := false,
    commits := [], counting := .zero, loadCounts := .zero }

/-- R160. -/
def AccountState.reset : AccountState :=
  { balance := 0, charges := 0, payments := 0, visitCount := 0, paymentCount := 0,
    partialPeriod := false, creditStop := false, hostStop := false }

/-- R160, R170. -/
def TallyUnit.reset : TallyUnit :=
  { accounts := Vector.replicate 256 AccountState.reset, invoice := 0, pageSeq := 0, lineNumber := 0,
    poolPos := 0, poolPosted := 0, page := none, poolRead := false, lines := [], reservations := 0,
    closings := [], pause := false, poolEmptyGiven := false }

/-- R178. -/
def ClockUnit.reset : ClockUnit :=
  { divider := 0, running := false, now := ⟨0, 0⟩, monitor := .idle, countdown := none, loaded := none,
    latchedPeriod := none, latchedAction := none, faultLine := false, fallback := false }

/-- The part after the reset input, with nothing in memory and no command waiting. -/
def State.reset : State :=
  { mem := [], path := .reset, exch := .reset, latched := .reset,
    ports := Vector.replicate 11 Port.reset, gate := .reset, yard := .reset,
    bays := Vector.replicate 8 Bay.reset, water := .reset, table := .reset, tally := .reset,
    clock := .reset, free := 0, pending := [] }

end Sys2Proof.Machine
end

