-- ==== Sys2Proof/Machine/Bytes.lean ====
section
/-! DEFINITION. Byte order, fields of byte strings, the frame check, and the two sparse stores: memory by byte address
and the internal copies by entry index. -/

namespace Sys2Proof.Machine

/-- The low byte of a number. -/
def byte (v : Nat) : Byte := BitVec.ofNat 8 v

/-- A number as `n` bytes, least significant first (R179). -/
def le : Nat → Nat → List Byte
  | 0, _ => []
  | n + 1, v => byte v :: le n (v / 256)

/-- The number some bytes hold, least significant first (R179). -/
def leNat : List Byte → Nat
  | [] => 0
  | b :: bs => b.toNat + 256 * leNat bs

/-- The number at `off`, `n` bytes wide (R179). -/
def field (off n : Nat) (bs : List Byte) : Nat := leNat ((bs.drop off).take n)

/-- A number of `bits` bits read as two's complement (R179). -/
def signed (bits v : Nat) : Int := if 2 ^ (bits - 1) ≤ v then (v : Int) - 2 ^ bits else v

/-- A signed number as one byte (R179). -/
def signedByte (v : Int) : Byte := BitVec.ofInt 8 v

/-- Bytes followed by zeros up to `n` (R179: unassigned bytes are written zero). -/
def pad (n : Nat) (bs : List Byte) : List Byte := bs ++ List.replicate (n - bs.length) 0

/-- A flag as a number (R179). -/
def bit (b : Bool) : Nat := if b then 1 else 0

/-- The smallest whole number not less than a / b (00_scope.md, "ceil"). -/
def ceilDiv (a b : Nat) : Nat := (a + (b - 1)) / b

/-- The distance from one free-running count to another (00_scope.md, "Numbers"). -/
def dist (a b : Count) : Nat := (b - a).toNat

/-! ### The frame check (R39) -/

/-- One bit of the reduction by x^16 + x^15 + x^2 + 1, least significant bit first. -/
def crcBit (r : BitVec 16) : BitVec 16 :=
  if r.getLsbD 0 then (r >>> 1) ^^^ 0xA001#16 else r >>> 1

def crcBits : Nat → BitVec 16 → BitVec 16
  | 0, r => r
  | n + 1, r => crcBits n (crcBit r)

def crcByte (r : BitVec 16) (b : Byte) : BitVec 16 := crcBits 8 (r ^^^ b.zeroExtend 16)

/-- The check over the kind byte, the length byte and the payload (R39). -/
def frameCheck (kind : Byte) (payload : List Byte) : BitVec 16 :=
  (kind :: byte payload.length :: payload).foldl crcByte 0xFFFF#16

/-! ### Memory (R1, R14; log 4) -/

abbrev Memory := List Host.Cell

/-- What an address no write has reached reads as: DESIGN CHOICE (log 4). -/
def Memory.blank : Byte := 0

/-- One byte of memory. -/
def Memory.read : Memory → Nat → Byte
  | [], _ => Memory.blank
  | (a', b) :: m, a => if a' = a then b else Memory.read m a

/-- Write one byte, keeping the canonical form. -/
def Memory.write : Memory → Nat → Byte → Memory
  | [], a, b => if b = Memory.blank then [] else [(a, b)]
  | (a', b') :: m, a, b =>
    if a < a' then (if b = Memory.blank then (a', b') :: m else (a, b) :: (a', b') :: m)
    else if a = a' then (if b = Memory.blank then m else (a, b) :: m)
    else (a', b') :: Memory.write m a b

/-- Addresses rise strictly from `lo`, and no cell holds the blank byte. -/
def Memory.wfFrom : Nat → Memory → Bool
  | _, [] => true
  | lo, (a, b) :: m => decide (lo ≤ a) && (b != Memory.blank) && Memory.wfFrom (a + 1) m

/-- The canonical form: addresses strictly rising, no blank byte listed. -/
def Memory.wf (m : Memory) : Bool := Memory.wfFrom 0 m

/-- `n` bytes from an address. -/
def Memory.readBytes (m : Memory) (a : Nat) : Nat → List Byte
  | 0 => []
  | n + 1 => m.read a :: Memory.readBytes m (a + 1) n

/-- Write bytes from an address up. -/
def Memory.writeBytes (m : Memory) (a : Nat) : List Byte → Memory
  | [] => m
  | b :: bs => Memory.writeBytes (m.write a b) (a + 1) bs

/-- Write the bytes a host write's mask names (R1). -/
def Memory.writeMasked (m : Memory) (a : Nat) : List (Option Byte) → Memory
  | [] => m
  | none :: bs => Memory.writeMasked m (a + 1) bs
  | some b :: bs => Memory.writeMasked (m.write a b) (a + 1) bs

/-! ### Entries by index (R138) -/

/-- The entry held at an index. -/
def lookup {α : Type} : List (Nat × α) → Nat → Option α
  | [], _ => none
  | (j, x) :: m, i => if j = i then some x else lookup m i

/-- Remove the entry at an index. -/
def remove {α : Type} : List (Nat × α) → Nat → List (Nat × α)
  | [], _ => []
  | (j, x) :: m, i => if j = i then m else (j, x) :: remove m i

/-- Put an entry at its index, indices rising. -/
def insert {α : Type} : List (Nat × α) → Nat → α → List (Nat × α)
  | [], i, x => [(i, x)]
  | (j, y) :: m, i, x =>
    if i < j then (i, x) :: (j, y) :: m else if i = j then (i, x) :: m else (j, y) :: insert m i x

/-- An entry put in or taken out. -/
def store {α : Type} (m : List (Nat × α)) (i : Nat) : Option α → List (Nat × α)
  | none => remove m i
  | some x => insert m i x

/-! ### Fixed ranges and fixed arrays -/

/-- Apply a function to every element of a fixed array. -/
def mapVec {α β : Type} {n : Nat} (f : α → β) (v : Vector α n) : Vector β n :=
  ⟨⟨v.toList.map f⟩, by simp⟩

def allPorts : List PortId := List.finRange 11
def allBays : List BayId := List.finRange 8
def allTanks : List TankId := List.finRange 4
def allSlots : List Slot := List.finRange 64
def allLines : List (Fin 64) := List.finRange 64

/-- The bay's port (R38). -/
def bayPort (b : BayId) : PortId := ⟨b.val + 2, by omega⟩

/-- The entry gate's, the exit gate's and the plant's ports (R38). -/
def entryPort : PortId := 0
def exitPort : PortId := 1
def plantPort : PortId := 10

/-- The port of a gate (R38). -/
def gatePort : Gate → PortId
  | .entry => entryPort
  | .exit => exitPort

/-- One boundary counted by a timer; 0 left means due (R173; log 3). -/
def countDown : Option Nat → Option Nat
  | none => none
  | some n => some (n - 1)

end Sys2Proof.Machine
end

