-- ==== Sys2Proof/Machine/Flags.lean ====
section
/-! DEFINITION. The flags that are computed from the state: what is accepted, paused, held, full, issuable. -/

namespace Sys2Proof.Machine

/-- The part judges writes, handles frames and takes orders: RUNNING or STOPPING. -/
def working (s : State) : Bool := s.exch.part == .running || s.exch.part == .stopping

/-- The notice ring's location is accepted: LOADING after acceptance, RUNNING, STOPPING (R26, R28, R33). -/
def accepted (s : State) : Bool := (s.exch.part == .loading && s.path.map == .full) || working s

/-- Frames are judged and counted, and port records refreshed: LOADING, RUNNING, STOPPING (R44, R52). -/
def supervised (s : State) : Bool := s.exch.part == .loading || working s

/-- A unit holds a request that found the queue full (R14). -/
def holds (u : UnitId) (s : State) : Bool := s.path.held.any (fun h => h.unit == u)

/-! ### Events that have reached their unit (R10, R14; log 10) -/

/-- The unit that is told. -/
def Told.owner : Told → UnitId
  | .lifetime | .lockout | .fallback | .stopping | .windowHalted => .table
  | .pageHalted => .tally

/-- The unit a handed value or commit goes to (R8, R10): none that issues requests for the Clock and Monitor. -/
def Handed.owner : Handed → Option UnitId
  | .start | .stop | .orderPost _ | .noticeTaken _ => some .exchange
  | .openFirst _ | .openSecond _ | .closeWindow | .wrongKey | .commit _ _ _ => some .table
  | .poolPost _ => some .tally
  | .serviceFirst | .serviceSecond | .serviceWrong _ => none

/-- The units an order's entry acts on: the Exchange Unit, and the Tally Unit for TURN_AWAY, PAYMENT, CLOSE_PERIOD,
STOP_ACCOUNT, RESUME_ACCOUNT and CUT_PAGE (R32, R181). -/
def orderUnits (entry : List Byte) : List UnitId :=
  if [2, 9, 10, 11, 12, 13].contains (field 0 1 entry) then [.exchange, .tally] else [.exchange]

/-- The units an event belongs to, of those that issue requests: a commit's readback is the Table Unit's and the Tally
Unit's (R147, R148). -/
def Event.units : Event → List UnitId
  | .value h => h.owner.toList
  | .read .hostHalf _ => [.exchange]
  | .read .order entry => orderUnits entry
  | .read (.table _ _) _ => [.table]
  | .read (.readback _ _) _ => [.table, .tally]
  | .read (.balances _) _ => [.tally]
  | .read .pool _ => [.tally]
  | .ask _ => [.exchange]
  | .told e => [e.owner]
  | .closing _ => [.tally]

/-- The event is one of the unit's. -/
def Event.isFor (u : UnitId) (e : Event) : Bool := e.units.contains u

def Event.asValue : Event → Option Handed
  | .value h => some h
  | .read _ _ | .ask _ | .told _ | .closing _ => none

def Event.asRead : Event → Option (ReadTag × List Byte)
  | .read tag data => some (tag, data)
  | .value _ | .ask _ | .told _ | .closing _ => none

/-- The event has no row of its own: it is taken as soon as its unit can take it. -/
def Event.unattended : Event → Bool
  | .ask _ | .told _ | .closing _ => true
  | .value _ | .read _ _ => false

/-- The values and commits handed and not yet taken (R10). -/
def PathUnit.handed (p : PathUnit) : List Handed := p.arrived.filterMap (fun a => a.event.asValue)

/-- The internal reads performed, their data not yet taken by their unit (R14). -/
def PathUnit.returned (p : PathUnit) : List (ReadTag × List Byte) := p.arrived.filterMap (fun a => a.event.asRead)

/-- Late events wait for the unit (R14). -/
def waits (u : UnitId) (s : State) : Bool := s.path.arrived.any (fun a => a.late && a.event.isFor u)

/-- A unit that takes no new event at once: it holds a request, or late events wait for it (R14; log 10). -/
def busy (u : UnitId) (s : State) : Bool := holds u s || waits u s

/-- The first event that stands for the unit. -/
def firstFor (u : UnitId) (s : State) : Option Event :=
  (s.path.arrived.find? (fun a => a.event.isFor u)).map Arrival.event

/-- The unit can take the event: it holds no request, and while late events wait for it they go first, in the order they
fell (R14). -/
def canTake (u : UnitId) (e : Event) (s : State) : Bool :=
  !holds u s && (!waits u s || firstFor u s == some e)

/-- Every unit the event belongs to can take it (R14). -/
def ready (e : Event) (s : State) : Bool := e.units.all (fun u => canTake u e s)

/-- The next handed value: the first that its owner can take (R10, R14). -/
def nextHanded (s : State) : Option Handed := s.path.handed.find? (fun h => ready (.value h) s)

/-- The next event without a row that its units can take (R14). -/
def nextDue (s : State) : Option Event :=
  (s.path.arrived.map Arrival.event).find? (fun e => e.unattended && ready e s)

/-! ### Counts and levels -/

/-- The count by which the pending list is judged: lines and reservations (R166). -/
def pendingCount (s : State) : Nat := s.tally.lines.length + s.tally.reservations

/-- The pending list is full (R168). -/
def tallyFull (s : State) : Bool := Config.pendingPlaces ≤ pendingCount s

/-- The depot is paused (R64). -/
def paused (s : State) : Bool := s.tally.pause || s.clock.fallback

/-- A port's link is UP. -/
def linkUp (p : PortId) (s : State) : Bool := s.ports[p].link == .up

/-- A bay is fitted (R93). -/
def bayFitted (b : BayId) (s : State) : Bool := b.val < s.latched.baysFitted

/-- A tank is fitted (R116). -/
def tankFitted (k : TankId) (s : State) : Bool := k.val < s.latched.tanksFitted

/-- A tank is issuable (R117). -/
def issuable (k : TankId) (s : State) : Bool :=
  tankFitted k s && s.water.tanks[k].quality == .certified && !s.water.tanks[k].stale
    && !s.water.tanks[k].pumpPending && !s.water.tanks[k].pumpRunning && linkUp plantPort s

/-- What a bay's grant still owes its tank: nothing unless it is active and from that tank (R116). -/
def grantOwes (k : TankId) : Option Grant → Nat
  | none => 0
  | some g => if g.source == .tank k && !g.revoked then g.granted - g.metered else 0

/-- Owed litres of a tank (R116). -/
def owed (k : TankId) (s : State) : Nat := (s.water.grants.toList.map (grantOwes k)).sum

/-- What a bay's grant counts in fresh drawn today: its granted litres while it is in the table (R121). -/
def grantFresh : Option Grant → Nat
  | none => 0
  | some g => if g.source == .fresh then g.granted else 0

/-- Fresh drawn today (R121). -/
def freshDrawn (s : State) : Nat := s.water.settled + (s.water.grants.toList.map grantFresh).sum

/-- Visits that are not free. -/
def openVisits (s : State) : Nat := (s.yard.slots.toList.filter Option.isSome).length

/-- The page pool offers a page (section 10.1). -/
def pageOffered (s : State) : Bool := s.tally.poolPos != s.tally.poolPosted

/-- A rise of the attention line's level in a state that drives it (R35). -/
def attentionLevel (s : State) : Bool := s.exch.producer != s.exch.taken

end Sys2Proof.Machine
end

