-- ==== Sys2Proof/Machine/Records.lean ====
section
/-! DEFINITION. The records the part writes (12_record_formats.md): codes of names, notices, the status half's lines,
visit and balance records, tally page and line headers. -/

namespace Sys2Proof.Machine

/-! ### Codes (R179: 1, 2, 3 and onward in the order listed; 0 for NONE or absent) -/

/-- The code of an optional name: 0 when absent. -/
def codeOr {α : Type} (code : α → Nat) : Option α → Nat
  | none => 0
  | some x => code x

def PartState.code : PartState → Nat
  | .dormant => 1 | .loading => 2 | .running => 3 | .stopping => 4 | .halted => 5

def LoadError.code : LoadError → Nat
  | .fieldRange => 1 | .fieldRelation => 2 | .regionAlign => 3 | .regionBounds => 4
  | .regionLayoutOverlap => 5 | .regionOverlap => 6 | .monitorLapsed => 7

def TableId.code : TableId → Nat
  | .vehicles => 1 | .accounts => 2 | .programmes => 3 | .tariffs => 4

def DropClass.code : DropClass → Nat
  | .statusHalf => 1 | .noticeRing => 2 | .visitArea => 3 | .balanceArea => 4
  | .guarded t => 4 + t.code
  | .tallyPage => 9 | .orderEntry => 10

def LinkState.code : LinkState → Nat
  | .down => 1 | .up => 2 | .held => 3

def DownReason.code : DownReason → Nat
  | .linkTimeout => 1 | .badFrames => 2 | .outboundOverflow => 3 | .resetOrder => 4 | .halted => 5

def StationState.code : StationState → Nat
  | .normal => 1 | .local => 2 | .faulted => 3

def VisitState.code : VisitState → Nat
  | .atGate => 1 | .queued => 2 | .called => 3 | .washing => 4 | .washed => 5 | .released => 6 | .closing => 7

def VisitReason.code : VisitReason → Nat
  | .unknown => 1 | .uncertain => 2 | .conflict => 3 | .barred => 4 | .accountStopped => 5 | .credit => 6
  | .depotPaused => 7 | .noShow => 8 | .cancelled => 9

def Outcome.code : Outcome → Nat
  | .complete => 1 | .aborted => 2 | .unwashed => 3 | .released => 4 | .turnedAway => 5

def AbortReason.code : AbortReason → Nat
  | .order => 1 | .vehicleLeft => 2 | .portLost => 3 | .fallback => 4 | .noProgramme => 5

def Basis.code : Basis → Nat
  | .both => 1 | .tag => 2 | .plate => 3

def BayState.code : BayState → Nat
  | .closed => 1 | .free => 2 | .calling => 3 | .waitingWater => 4 | .running => 5 | .settling => 6
  | .clearing => 7 | .fault => 8

def Presence.code : Presence → Nat
  | .unknown => 0 | .on => 1 | .off => 2

def StageKind.code : StageKind → Nat
  | .preRinse => 1 | .foam => 2 | .brush => 3 | .rinse => 4 | .finalRinse => 5 | .dry => 6

def Source.code : Source → Nat
  | .tank k => k.val | .fresh => 4 | .none => 0xFF

def Quality.code : Quality → Nat
  | .certified => 1 | .uncertain => 2 | .failed => 3

def PumpKind.code : PumpKind → Nat
  | .circulate => 1 | .treat => 2

def MonitorAction.code : MonitorAction → Nat
  | .noticeOnly => 1 | .fallback => 2

def MonitorState.code : MonitorState → Nat
  | .idle => 1 | .primed => 2 | .armed => 3 | .armedPrimed => 4 | .lapsed => 5

def Window.code : Window → Nat
  | .shut => 1 | .primed _ => 2 | .opened _ => 3 | .lockout => 4

/-- The table a window names. -/
def Window.table : Window → Option TableId
  | .primed t => some t
  | .opened t => some t
  | .shut => none
  | .lockout => none

/-- Notice kinds in the order of R181's table. -/
def NoticeKind.code : NoticeKind → Nat
  | .writeDropped => 1 | .started => 2 | .stopping => 3 | .halted => 4 | .orderPostInvalid => 5
  | .takenInvalid => 6 | .poolPostInvalid => 7 | .portUp => 8 | .portDown => 9 | .portOverflow => 10
  | .sightingInvalid => 11 | .entryPairDiscarded => 12 | .gateBlocked => 13 | .visitHeld => 14
  | .exitUnmatched => 15 | .exitMismatch => 16 | .barrierUnsent => 17 | .queueUnservable => 18
  | .callExpired => 19 | .visitReleased => 20 | .callWithdrawn => 21 | .wrongVehicle => 22
  | .uncalledVehicle => 23 | .stationStopped => 24 | .meterInvalid => 25 | .sessionAborted => 26
  | .allowanceReserve => 27 | .allowanceExhausted => 28 | .grantRevoked => 29 | .plantFrameInvalid => 30
  | .probeExpired => 31 | .tankQuality => 32 | .tankStale => 33 | .pumpFailed => 34 | .editWindow => 35
  | .editIncomplete => 36 | .editRefused => 37 | .loadEntryRejected => 38 | .balanceRejected => 39
  | .accountCredit => 40 | .poolEntryInvalid => 41 | .poolEmpty => 42 | .pageClosed => 43
  | .tallyPause => 44 | .dayRolled => 45 | .monitor => 46

/-- Two items in one word: the first in the low 16 bits (R179). -/
def twoItems (low high : Nat) : Nat := low % 65536 + 65536 * (high % 65536)

/-- The low and high words of a 64-bit value (R181). -/
def lowWord (v : Nat) : Nat := v % 2 ^ 32
def highWord (v : Nat) : Nat := v / 2 ^ 32 % 2 ^ 32

/-- A plate's first eight characters as a 64-bit value (R181). -/
def plateValue (plate : Plate) : Nat := leNat (plate.take 8)

/-- An optional bay in a value word: 0xFF when absent (R179; log 15). -/
def bayValue : Option BayId → Nat
  | none => 0xFF
  | some b => b.val

/-! ### Notices (R181) -/

def Notice.bytes (n : Notice) (asked : Stamp) : List Byte :=
  le 4 (asked.second % 2 ^ 17 + 2 ^ 17 * (n.reason % 128) + 2 ^ 24 * n.kind.code)
    ++ le 2 n.subject ++ le 2 asked.day.toNat ++ le 4 n.first ++ le 4 n.second

/-! ### Optional fields (R179) -/

/-- A time's second and day: absent is second 0xFFFF_FFFF and day 0. -/
def stampSecond : Option Stamp → Nat
  | none => 0xFFFFFFFF
  | some t => t.second
def stampDay : Option Stamp → Nat
  | none => 0
  | some t => t.day.toNat

/-- A plate field: ten bytes, zero after the plate (R179). -/
def plateField : Option Plate → List Byte
  | none => pad 10 []
  | some p => pad 10 (p.take 10)

/-! ### The status half (R180) -/

def partLine (s : State) : List Byte :=
  [byte s.exch.part.code, byte (bit s.exch.overrun)] ++ le 2 s.exch.loadErrorField
    ++ [byte (codeOr LoadError.code s.exch.loadError), 0, 0, 0]
    ++ le 2 s.exch.orderTaken.toNat ++ le 2 s.exch.producer.toNat

def dropLine (s : State) : List Byte :=
  le 4 s.path.dropped.toNat ++ le 4 s.path.dropAddr.toNat ++ [byte (codeOr DropClass.code s.path.dropClass)]

def clockLine (s : State) : List Byte :=
  le 2 s.clock.now.day.toNat ++ [0, 0] ++ le 4 s.clock.now.second
    ++ [byte s.clock.monitor.code, byte (s.clock.latchedPeriod.getD 0xFF),
        byte (codeOr MonitorAction.code s.clock.latchedAction), byte (bit s.clock.fallback)]
    ++ le 2 (s.clock.loaded.getD 0xFFFF)

def countBytes (c : LoadCount) : List Byte := le 2 c.present ++ le 2 c.rejected

def windowLine (s : State) : List Byte :=
  [byte s.table.window.code, byte (codeOr TableId.code s.table.window.table), byte s.table.touched.length, 0]
    ++ countBytes s.table.loadCounts.vehicles ++ countBytes s.table.loadCounts.accounts
    ++ countBytes s.table.loadCounts.programmes ++ countBytes s.table.loadCounts.tariffs

def tallyLineBytes (s : State) : List Byte :=
  (match s.tally.page with
    | none => le 4 0 ++ le 4 0
    | some p => le 4 p.addr ++ le 4 p.seq.toNat)
    ++ le 4 s.tally.pageSeq.toNat ++ le 4 s.tally.invoice.toNat ++ le 4 s.tally.lineNumber.toNat
    ++ le 2 s.tally.poolPos.toNat ++ le 2 s.tally.poolPosted.toNat
    ++ [byte s.tally.lines.length, byte s.tally.reservations, byte s.tally.closings.length,
        byte (bit s.tally.pause), byte (bit s.tally.page.isSome)]

def Port.bytes (p : Port) : List Byte :=
  [byte p.link.code, byte (codeOr DownReason.code p.downReason), byte (codeOr StationState.code p.station),
   byte p.inbound.length, byte (bit p.hold), 0]
    ++ le 2 p.inGood.toNat ++ le 2 p.inBad.toNat ++ le 2 p.inDiscarded.toNat
    ++ le 2 p.outSent.toNat ++ le 2 p.outDiscarded.toNat

def tankLine (k : TankId) (s : State) : List Byte :=
  if tankFitted k s then
    let t := s.water.tanks[k]
    le 4 t.capacity ++ le 4 t.reported ++ le 4 t.book ++ le 4 (owed k s) ++ le 4 t.age
      ++ [byte t.quality.code, byte (bit t.stale + 2 * bit t.pumpPending + 4 * bit t.pumpRunning), 1]
  else []

def pumpReqBytes : Option PumpReq → List Byte
  | none => [0xFF, 0]
  | some r => [byte r.tank.val, byte r.kind.code]

def waterLine (s : State) : List Byte :=
  le 4 (freshDrawn s) ++ le 4 s.water.settled ++ le 2 s.water.calDay.toNat
    ++ [byte (if s.water.calibrated then 2 else 1), signedByte s.water.calTemp,
        byte (if s.water.probeExpired then 2 else 1), byte s.water.waitList.length]
    ++ pumpReqBytes s.water.run
    ++ pumpReqBytes s.water.pumpQueue[0]? ++ pumpReqBytes s.water.pumpQueue[1]?
    ++ pumpReqBytes s.water.pumpQueue[2]? ++ pumpReqBytes s.water.pumpQueue[3]?

/-- A grant place (R180). An empty place shows grant number 0 and source NONE (R179), and zeros after them (log 46). -/
def grantLine (b : BayId) (s : State) : List Byte :=
  match s.water.grants[b] with
  | none => [0, 0, byte Source.none.code]
  | some g =>
    le 2 g.number ++ [byte g.source.code, byte (if g.revoked then 2 else 1)]
      ++ le 4 g.granted ++ le 4 g.metered ++ le 2 g.day.toNat ++ [byte (bit g.reserve)]

/-- The source of the part in flight; NONE when there is none (R93, R180). -/
def partSource (bay : Bay) : Source :=
  match bay.session with
  | none => .none
  | some ses => match ses.part with
    | none => .none
    | some p => p.source

/-- The serial of the visit in a slot; absent when the slot is free (R179). -/
def slotSerial (slot : Slot) (s : State) : Nat :=
  match s.yard.slots[slot] with
  | none => 0xFFFF
  | some v => v.serial.toNat

/-- A bay (R180); without a session its stage and stage count, and without a bound visit its serial and slot, are absent
(R179). -/
def bayLine (b : BayId) (s : State) : List Byte :=
  let bay := s.bays[b]
  [byte bay.state.code, byte bay.presence.code, byte (bit bay.holdAfter),
   byte (match bay.session with | none => 0xFF | some ses => ses.current),
   byte (match bay.session with | none => 0xFF | some ses => ses.stages.length),
   byte (partSource bay).code]
    ++ (match bay.bound with
        | none => le 2 0xFFFF ++ [0xFF]
        | some slot => le 2 (slotSerial slot s) ++ [byte slot.val])

/-- The status half's lines (R180); what a line shows of something absent is log 46. -/
def statusBytes (k : Fin 64) (s : State) : List Byte :=
  if k.val = 0 then partLine s
  else if k.val = 1 then dropLine s
  else if k.val = 2 then clockLine s
  else if k.val = 3 then windowLine s
  else if k.val = 4 then tallyLineBytes s
  else if h : k.val < 16 then (s.ports[k.val - 5]'(by omega)).bytes
  else if h : k.val < 20 then tankLine ⟨k.val - 16, by omega⟩ s
  else if k.val = 20 then waterLine s
  else if h : k.val < 29 then grantLine ⟨k.val - 21, by omega⟩ s
  else if h : k.val < 37 then bayLine ⟨k.val - 29, by omega⟩ s
  else []

/-- A line of the status half, whole (R180). -/
def statusLine (k : Fin 64) (s : State) : List Byte := pad 32 (statusBytes k s)

/-- The lines of a port, a tank, a grant place and a bay (R180). -/
def portLine (p : PortId) : Fin 64 := ⟨5 + p.val, by omega⟩
def tankLineNo (k : TankId) : Fin 64 := ⟨16 + k.val, by omega⟩
def grantLineNo (b : BayId) : Fin 64 := ⟨21 + b.val, by omega⟩
def bayLineNo (b : BayId) : Fin 64 := ⟨29 + b.val, by omega⟩

/-! ### Visit and balance records (R182) -/

/-- A visit's bytes (R182); without a session summary its fields are zero and its flag is clear (log 46). -/
def Visit.bytes (v : Visit) : List Byte :=
  [byte v.state.code, byte (codeOr VisitReason.code v.reason), byte (codeOr Outcome.code v.outcome),
   byte (bit v.priority + 2 * bit v.account.isSome + 4 * bit v.summary.isSome)]
    ++ le 2 v.serial.toNat ++ le 2 (v.vehicle.getD 0xFFFF)
    ++ [byte (match v.account with | none => 0xFF | some a => a.val), byte (v.programme.getD 0xFF),
        byte (v.axles.getD 0), byte (bayValue v.bay), byte v.callCount]
    ++ (match v.summary with
        | none => [0, 0, 0]
        | some m => [byte m.completed, byte m.total, byte (codeOr AbortReason.code m.abort)])
    ++ le 8 (match v.tag with | none => 0 | some t => t.toNat)
    ++ plateField v.plate
    ++ le 2 v.entered.day.toNat ++ le 4 v.entered.second
    ++ le 2 (stampDay v.admitted) ++ le 2 (stampDay v.left)
    ++ le 4 (stampSecond v.admitted) ++ le 4 (stampSecond v.left)
    ++ (match v.summary with
        | none => le 2 0 ++ le 2 0 ++ le 4 0 ++ le 4 0
        | some m => le 2 m.detergent ++ le 2 (min m.overrun 65535) ++ le 4 m.fresh ++ le 4 m.reclaim)

def visitRecord : Option Visit → List Byte
  | none => pad 64 []
  | some v => pad 64 v.bytes

def balanceRecord (a : AccountState) : List Byte :=
  le 8 a.balance ++ le 4 (bit a.hostStop + 2 * bit a.creditStop) ++ le 4 0

/-! ### Refreshed records (R14, R36) -/

def recAddr (r : Rec) (s : State) : Nat :=
  match r with
  | .line k => Config.statusHalf + 32 * k.val
  | .visit slot => s.path.bases.visitArea + 64 * slot.val
  | .balance a => s.path.bases.balanceArea + 16 * a.val

def recBytes (r : Rec) (s : State) : List Byte :=
  match r with
  | .line k => statusLine k s
  | .visit slot => visitRecord s.yard.slots[slot]
  | .balance a => balanceRecord s.tally.accounts[a]

/-! ### Tally pages and lines (R182) -/

/-- A page header; `closed` gives the page state. -/
def Page.header (p : Page) (closed : Bool) : List Byte :=
  le 4 p.seq.toNat ++ [byte (if closed then 2 else 1), 0, 0, 0]
    ++ le 2 p.used ++ le 2 p.lines ++ le 4 p.hostRef.toNat
    ++ le 2 (stampDay p.firstTime) ++ le 2 (stampDay p.lastTime)
    ++ le 4 (stampSecond p.firstTime) ++ le 4 (stampSecond p.lastTime) ++ le 4 0

inductive LineKind where
  | visit | payment | period | edit
  deriving DecidableEq, Repr

def LineKind.code : LineKind → Nat
  | .visit => 1 | .payment => 2 | .period => 3 | .edit => 4

inductive ItemKind where
  | gate | programme | unwashed | axle | fresh | reclaim | detergent | payment | charges | payments | balance
  deriving DecidableEq, Repr

def ItemKind.code : ItemKind → Nat
  | .gate => 1 | .programme => 2 | .unwashed => 3 | .axle => 4 | .fresh => 5 | .reclaim => 6
  | .detergent => 7 | .payment => 8 | .charges => 9 | .payments => 10 | .balance => 11

/-- One item of a line (R154, R155). -/
structure Item where
  kind : ItemKind
  clamped : Bool
  quantity : Nat
  amount : Nat
  deriving DecidableEq, Repr

def Item.bytes (i : Item) : List Byte :=
  [byte i.kind.code, byte (bit i.clamped)] ++ le 2 i.quantity ++ le 4 i.amount

/-- A line header's fields as bytes 0 to 23 (R182): bytes 8 to 11 hold the serial and vehicle index, the invoice number,
or 0 and the entry index. -/
def lineHeader (kind : LineKind) (items second third subject : Nat) (asked : Stamp) (mid total : Nat)
    (number : Word) : List Byte :=
  [byte kind.code, byte items, byte second, byte third] ++ le 2 subject ++ le 2 asked.day.toNat
    ++ le 4 mid ++ le 4 asked.second ++ le 4 total ++ le 4 number.toNat

end Sys2Proof.Machine
end

