-- ==== Sys2Proof/Machine/Ops.lean ====
section
/-! DEFINITION. The shared operations: the internal request queue (R14, R15), the Exchange Unit's notices and refreshes
(R33, R36), records written with their refresh, values handed taken off their list, and the draw of a free value. -/

namespace Sys2Proof.Machine

/-! ### The internal request queue (R14, R15) -/

/-- A post, not a read (R14). -/
def Request.isPlacement : Request → Bool
  | .place _ _ => true
  | .refresh _ _ _ => false
  | .read _ _ _ => false

/-- A refresh of the given record. -/
def Request.refreshes (r : Rec) : Request → Bool
  | .refresh r' _ _ => r' == r
  | .place _ _ => false
  | .read _ _ _ => false

/-- The merging of R15: newer content replaces the last queued refresh of the record, in its place, when no placement
stands behind it; `none` when that cannot be done. -/
def mergeRefresh (r : Rec) (new : Request) : List Request → Option (List Request)
  | [] => none
  | q :: rest =>
    match mergeRefresh r new rest with
    | some rest' => some (q :: rest')
    | none => if q.refreshes r && !rest.any Request.isPlacement then some (new :: rest) else none

/-- An issue that becomes a placement. -/
def Issue.isPlacement : Issue → Bool
  | .place _ _ => true
  | .refresh _ => false
  | .read _ _ _ => false

/-- A placement is held, and will join the queue before what is held after it (R14). -/
def placementHeld (s : State) : Bool := s.path.held.any (fun h => h.issue.isPlacement)

/-- The request a unit's issue becomes when it joins the queue: a refresh takes its record's content then (R14, R15). -/
def asRequest (i : Issue) (s : State) : Request :=
  match i with
  | .read tag addr lines => .read tag addr lines
  | .place addr bytes => .place addr bytes
  | .refresh r => .refresh r (recAddr r s) (recBytes r s)

/-- The queue with an issue merged in place, when it is a refresh that can be (R15). -/
def mergeInPlace (i : Issue) (s : State) : Option (List Request) :=
  match i with
  | .refresh r => mergeRefresh r (asRequest i s) s.path.queue
  | .read _ _ _ => none
  | .place _ _ => none

/-- The queue with an issue at its tail, when there is a place (R14). -/
def appendIssue (i : Issue) (s : State) : Option (List Request) :=
  if s.path.queue.length < Config.queuePlaces then some (s.path.queue ++ [asRequest i s]) else none

/-- The queue after an issue, when it merges or finds a place; `none` when it must be held (R14, R15). -/
def joinQueue (i : Issue) (s : State) : Option (List Request) := (mergeInPlace i s).or (appendIssue i s)

/-- The queue after a unit presents a request: behind requests that are held it only merges in place, and that with no
placement among them, for what is held joins first (R14, R15). -/
def presented (i : Issue) (s : State) : Option (List Request) :=
  if s.path.held.isEmpty then joinQueue i s
  else if placementHeld s then none
  else mergeInPlace i s

/-- A unit presents a request: it joins or merges into the queue, or is held behind the requests held before it (R14,
R15). -/
def present (u : UnitId) (i : Issue) (s : State) : State :=
  match presented i s with
  | some q => { s with path := { s.path with queue := q } }
  | none => { s with path := { s.path with held := s.path.held ++ [⟨u, i⟩] } }

/-- A placement that a unit holds: of its present event, since it takes no other while it holds one (R14). -/
def Held.placedBy (u : UnitId) (h : Held) : Bool := h.unit == u && h.issue.isPlacement

/-- A held request put behind the last placement that a unit holds. -/
def behindPlacements (u : UnitId) (x : Held) : List Held → List Held
  | [] => [x]
  | h :: hs =>
    if (h :: hs).any (Held.placedBy u) then h :: behindPlacements u x hs else x :: h :: hs

/-- The requests held, a record's refreshes among them put behind the placements that a unit holds. -/
def giveWay (u : UnitId) (r : Rec) : List Held → List Held
  | [] => []
  | h :: hs => if h.issue == .refresh r then behindPlacements u h (giveWay u r hs) else h :: giveWay u r hs

/-- A record has come to tell of the placements of a unit's present event. A held refresh of it takes its content when it
joins, so it joins behind those of them that are held: the content depends on no placement still to come (R14, R15;
log 53). -/
def makeWay (u : UnitId) (r : Rec) (s : State) : State :=
  { s with path := { s.path with held := giveWay u r s.path.held } }

/-- A unit issues a placement that a record tells of from this event on (R15). -/
def placeTold (u : UnitId) (r : Rec) (addr : Nat) (bytes : List Byte) (s : State) : State :=
  makeWay u r (present u (.place addr bytes) s)

/-! ### Notices and the attention line (R33, R35) -/

/-- Drive the attention line from the two counts (R35). -/
def driveAttention (s : State) : State :=
  { s with exch := { s.exch with attention := attentionLevel s } }

/-- Keep the position of a WRITE_DROPPED (R13). -/
def keepDropPos (n : Notice) (pos : Option Count) (s : State) : State :=
  if n.kind == .writeDropped then { s with path := { s.path with dropPos := pos } } else s

/-- Place a notice at the producer count, which line 0 shows behind it (R15), or set OVERRUN when the ring is full
(R33). -/
def writeNotice (n : Notice) (asked : Stamp) (s : State) : State :=
  if dist s.exch.taken s.exch.producer < Config.noticeEntries then
    let at_ := s.path.bases.noticeRing + 16 * (s.exch.producer.toNat % Config.noticeEntries)
    let s1 := placeTold .exchange (.line 0) at_ (n.bytes asked) s
    let s2 := keepDropPos n (some s.exch.producer)
      (driveAttention { s1 with exch := { s1.exch with producer := s1.exch.producer + 1 } })
    present .exchange (.refresh (.line 0)) s2
  else
    let s1 := keepDropPos n none { s with exch := { s.exch with overrun := true } }
    if s.exch.overrun then s1 else present .exchange (.refresh (.line 0)) s1

/-- The Exchange Unit refreshes a record at an event of its own (R14, R36). -/
def refreshNow (r : Rec) (s : State) : State := present .exchange (.refresh r) s

/-- The Exchange Unit refreshes records one after another at an event of its own. -/
def refreshAll : List Rec → State → State
  | [], s => s
  | r :: rs, s => refreshAll rs (refreshNow r s)

/-- An arrival of one of the units is late from now on. -/
def Arrival.passed (us : List UnitId) (a : Arrival) : Arrival :=
  { a with late := a.late || us.any (fun u => a.event.isFor u) }

/-- An event reaches its units. When one of them takes no event at once, it waits behind every event that stands for them,
and all of these are late (R14; log 10). It keeps ORDER TAKEN as it stands now (R30). -/
def reach (e : Event) (s : State) : State :=
  let late := e.units.any (fun u => busy u s)
  let standing := if late then s.path.arrived.map (Arrival.passed e.units) else s.path.arrived
  { s with path := { s.path with arrived := standing ++ [⟨e, late, s.exch.orderTaken⟩] } }

/-- The Exchange Unit is asked for a notice: written at once, or its turn waits (R14, R33). -/
def askNotice (n : Notice) (s : State) : State :=
  if busy .exchange s then reach (.ask (.notice n s.clock.now)) s else writeNotice n s.clock.now s

/-- The lines of a list whose content an event has changed (R36). -/
def changedLines (ks : List (Fin 64)) (before after : State) : List Rec :=
  (ks.filter (fun k => statusLine k after != statusLine k before)).map Rec.line

/-- The Exchange Unit asks itself for a notice at an event of its own (R33). -/
def notifyNow (n : Notice) (s : State) : State :=
  if accepted s then writeNotice n s.clock.now s else s

/-- A unit asks for a notice (R33): nothing happens while the ring's location is not accepted. -/
def notify (n : Notice) (s : State) : State := if accepted s then askNotice n s else s

/-- A unit tells of a change to a record (R36): the refresh is issued at once, or its turn waits (R14). -/
def post (r : Rec) (s : State) : State :=
  if busy .exchange s then reach (.ask (.refresh r)) s else refreshNow r s

/-- A unit tells of a change to a line of the status half (R36). -/
def postLine (k : Fin 64) (s : State) : State := post (.line k) s

/-- Tell of a line only if the event changed its content (R36). -/
def postChanged (k : Fin 64) (before after : State) : State :=
  if statusLine k after = statusLine k before then after else postLine k after

/-- The same for several lines, in order. -/
def postChangedLines : List (Fin 64) → State → State → State
  | [], _, after => after
  | k :: ks, before, after => postChangedLines ks before (postChanged k before after)

/-- The requests held, as places free: each joins or the rest stay held, in the order they stand, and a refresh takes its
record's content then (R14, R15). -/
def drainHeld : List Held → State → State
  | [], s => { s with path := { s.path with held := [] } }
  | h :: hs, s =>
    match joinQueue h.issue s with
    | some q => drainHeld hs { s with path := { s.path with queue := q } }
    | none => { s with path := { s.path with held := h :: hs } }

/-- A place has freed: the held requests join (R14). -/
def drainQueue (s : State) : State := drainHeld s.path.held s

/-! ### Records written with their refresh (R36, R52) -/

/-- Write a port's record; its line is posted when it changed, in the part states that post it (R52). -/
def setPort (p : PortId) (x : Port) (s : State) : State :=
  let s1 := { s with ports := s.ports.set p x }
  if supervised s then postChanged (portLine p) s s1 else s1

/-- Write a bay's record and post its line when it changed (R93). -/
def setBay (b : BayId) (x : Bay) (s : State) : State :=
  postChanged (bayLineNo b) s { s with bays := s.bays.set b x }

/-- Write a tank's record and post its line when it changed (R116). -/
def setTank (k : TankId) (x : Tank) (s : State) : State :=
  postChanged (tankLineNo k) s { s with water := { s.water with tanks := s.water.tanks.set k x } }

/-- Write a grant place; the tank lines (owed litres), the fresh account and the place's own line are posted when they
changed (R116, R118, R121). -/
def setGrant (b : BayId) (g : Option Grant) (s : State) : State :=
  postChangedLines [16, 17, 18, 19, 20, grantLineNo b] s
    { s with water := { s.water with grants := s.water.grants.set b g } }

/-- Change the Water Unit's other fields and post their line when it changed (R136). -/
def setWater (w : WaterUnit) (s : State) : State := postChanged 20 s { s with water := w }

/-- Change the Tally Unit's posted items and post their line when it changed (R170). -/
def setTally (t : TallyUnit) (s : State) : State := postChanged 4 s { s with tally := t }

/-- Change the edit window and post its line when it changed (R142). -/
def setTable (t : TableUnit) (s : State) : State := postChanged 3 s { s with table := t }

/-- Write a slot of the visit table without a refresh: the event's end asks for it. -/
def putVisit (slot : Slot) (v : Option Visit) (s : State) : State :=
  { s with yard := { s.yard with slots := s.yard.slots.set slot v } }

/-- Ask for the refresh of a visit's whole record (R77). -/
def postVisit (slot : Slot) (s : State) : State := post (.visit slot) s

/-- Write a slot and ask for the refresh of its record (R77). -/
def setVisit (slot : Slot) (v : Option Visit) (s : State) : State := postVisit slot (putVisit slot v s)

/-- Write an account's state; the balance record is posted by the event (R150). -/
def putAccount (a : AccountId) (x : AccountState) (s : State) : State :=
  { s with tally := { s.tally with accounts := s.tally.accounts.set a x } }

/-! ### Events taken, free values -/

/-- An event is taken: its first arrival leaves the list. -/
def dropArrival (e : Event) (s : State) : State :=
  { s with path := { s.path with arrived := s.path.arrived.eraseP (fun a => a.event == e) } }

/-- Take a value handed off the list. -/
def dropHanded (h : Handed) (s : State) : State := dropArrival (.value h) s

/-- The first returned read a row's tag test accepts. -/
def findReturned (want : ReadTag → Bool) (s : State) : Option (ReadTag × List Byte) :=
  s.path.returned.find? (fun r => want r.1)

/-- Take a returned read off the list. -/
def dropReturned (r : ReadTag × List Byte) (s : State) : State := dropArrival (.read r.1 r.2) s

/-- A value the manual leaves open (logs 11, 13, 14). -/
def freeValue (s : State) : Nat := (Config.freeWord s.free).toNat

/-- Count the draw. -/
def drawn (s : State) : State := { s with free := s.free + 1 }

end Sys2Proof.Machine
end

