-- ==== Sys2Proof/Machine/Operands.lean ====
section
/-! DEFINITION. What the part reads: frames and their payloads (R39, R183), order entries (R181) and guarded entries
(R139, R182). -/

namespace Sys2Proof.Machine

/-! ### Frame kinds (R183) -/

namespace Kind
def status : Byte := 0x01
def sightTag : Byte := 0x02
def sightPlate : Byte := 0x03
def presence : Byte := 0x04
def bayTag : Byte := 0x05
def meter : Byte := 0x06
def level : Byte := 0x07
def sample : Byte := 0x08
def pumpDone : Byte := 0x09
def hold : Byte := 0x21
def go : Byte := 0x22
def raise : Byte := 0x23
def sign : Byte := 0x24
def stageStart : Byte := 0x25
def stageStop : Byte := 0x26
def pumpRun : Byte := 0x27
end Kind

/-- The kind is an inbound kind of the port's role (R38, R39 test 2). -/
def kindValid (p : PortId) (k : Byte) : Bool :=
  k == Kind.status
    || (if p.val ≤ 1 then k == Kind.sightTag || k == Kind.sightPlate
        else if p.val ≤ 9 then k == Kind.presence || k == Kind.bayTag || k == Kind.meter
        else k == Kind.level || k == Kind.sample || k == Kind.pumpDone)

/-- The payload length is one the kind allows (R39 test 3). -/
def lengthValid (k : Byte) (n : Nat) : Bool :=
  if k == Kind.sightPlate then 2 ≤ n && n ≤ 11
  else if k == Kind.status then n == 2
  else if k == Kind.presence then n == 1
  else if k == Kind.sightTag || k == Kind.bayTag then n == 8
  else if k == Kind.meter || k == Kind.level then n == 5
  else if k == Kind.sample then n == 4
  else k == Kind.pumpDone && n == 3

/-- The four tests of R39. -/
def goodFrame (p : PortId) (f : Frame) : Bool :=
  f.check == frameCheck f.kind f.payload && kindValid p f.kind && lengthValid f.kind f.payload.length
    && (f.kind != Kind.status || field 0 1 f.payload == p.val)

/-- The station state a STATUS carries: a code outside 1 to 3 is recorded as FAULTED (R179). -/
def stationOf (payload : List Byte) : StationState :=
  if field 1 1 payload = 1 then .normal else if field 1 1 payload = 2 then .local else .faulted

/-- A tag identity in a payload (R183). -/
def tagOf (payload : List Byte) : Tag := BitVec.ofNat 64 (field 0 8 payload)

/-- A character of a plate: A to Z or 0 to 9 (R179). -/
def plateChar (b : Byte) : Bool :=
  (0x41 ≤ b.toNat && b.toNat ≤ 0x5A) || (0x30 ≤ b.toNat && b.toNat ≤ 0x39)

/-! ### Order entries (R181) -/

/-- The order kind, byte 0. -/
def orderKind (entry : List Byte) : Nat := field 0 1 entry

/-- A 16-bit argument. -/
def arg16 (off : Nat) (entry : List Byte) : Nat := field off 2 entry

/-- An optional 16-bit argument: absent when it holds 0xFFFF (R181). -/
def optArg (off : Nat) (entry : List Byte) : Option Nat :=
  if field off 2 entry = 0xFFFF then none else some (field off 2 entry)

/-- The 32-bit argument at 16. -/
def arg32 (entry : List Byte) : Nat := field 16 4 entry

/-- A number as a slot, a bay, an account, a port, when it is in range. -/
def slotOf (n : Nat) : Option Slot := if h : n < 64 then some ⟨n, h⟩ else none
def bayOf (n : Nat) : Option BayId := if h : n < 8 then some ⟨n, h⟩ else none
def accountOf (n : Nat) : Option AccountId := if h : n < 256 then some ⟨n, h⟩ else none
def portOf (n : Nat) : Option PortId := if h : n < 11 then some ⟨n, h⟩ else none
def tankOf (n : Nat) : Option TankId := if h : n < 4 then some ⟨n, h⟩ else none

/-! ### Guarded entries (R139, R182) -/

/-- Reasons for rejecting an entry, in code order (R148, R179). -/
inductive EntryReason where
  | invalid | field | noIdentity | duplicate | missing | referenced | openVisit
  deriving DecidableEq, Repr

def EntryReason.code : EntryReason → Nat
  | .invalid => 1 | .field => 2 | .noIdentity => 3 | .duplicate => 4 | .missing => 5 | .referenced => 6
  | .openVisit => 7

/-- Bytes in an entry, entries in a table (section 8.1). -/
def TableId.entrySize : TableId → Nat
  | .vehicles => 32 | .accounts => 32 | .programmes => 128 | .tariffs => 128
def TableId.size : TableId → Nat
  | .vehicles => Config.vehicleTableSize | .accounts => Config.accountTableSize
  | .programmes => Config.programmeTableSize | .tariffs => Config.tariffTableSize

/-- A table's base (R3). -/
def Bases.table (b : Bases) : TableId → Nat
  | .vehicles => b.vehicles | .accounts => b.accounts | .programmes => b.programmes | .tariffs => b.tariffs

/-- A plate field: the plate it holds, or `none` when a byte after its first zero is not zero, or a character is not one
of a plate's (R139, R179). -/
def plateOf (bs : List Byte) : Option (Option Plate) :=
  let plate := bs.takeWhile (fun b => b != 0)
  let rest := bs.dropWhile (fun b => b != 0)
  if rest.all (fun b => b == 0) && plate.all plateChar then
    some (if plate.isEmpty then none else some plate)
  else none

/-- The sum of an entry's words, mod 2^32 (R141, R148). -/
def checksum (entry : List Byte) : Nat :=
  ((List.range (entry.length / 4)).map (fun i => field (4 * i) 4 entry)).sum % 2 ^ 32

def stageKindOf : Nat → Option StageKind
  | 1 => some .preRinse | 2 => some .foam | 3 => some .brush | 4 => some .rinse
  | 5 => some .finalRinse | 6 => some .dry | _ => none

def waterClassOf : Nat → Option WaterClass
  | 0 => some .none | 1 => some .reclaimOk | 2 => some .freshOnly | _ => none

/-- A stage of a programme entry, within R139's ranges. -/
def stageOf (bs : List Byte) : Option Stage :=
  match stageKindOf (field 0 1 bs), waterClassOf (field 1 1 bs) with
  | some kind, some water =>
    let flow := field 2 2 bs
    let duration := field 4 2 bs
    let rate := field 6 1 bs
    if flow ≤ 400 ∧ 10 ≤ duration ∧ duration ≤ 900 ∧ rate ≤ 20 ∧ (flow = 0 → water = .none) then
      some { kind := kind, water := water, flow := flow, duration := duration, rate := rate }
    else none
  | _, _ => none

/-- The first `n` stages of a programme entry. -/
def stagesOf (entry : List Byte) : Nat → Nat → Option (List Stage)
  | 0, _ => some []
  | n + 1, s =>
    match stageOf (entry.drop (8 + 8 * s)), stagesOf entry n (s + 1) with
    | some x, some xs => some (x :: xs)
    | _, _ => none

def vehicleOf (e : List Byte) : Except EntryReason Vehicle :=
  match plateOf ((e.drop 8).take 10) with
  | none => .error .field
  | some plate =>
    if 15 < field 19 1 e ∨ field 20 1 e < 2 ∨ 9 < field 20 1 e ∨ 1 < field 21 1 e then .error .field
    else if field 0 8 e = 0 ∧ plate = none then .error .noIdentity
    else .ok { tag := BitVec.ofNat 64 (field 0 8 e), plate := plate,
               account := Fin.ofNat 256 (field 18 1 e), programme := field 19 1 e,
               axles := field 20 1 e, barred := field 21 1 e == 1 }

def accountEntryOf (e : List Byte) : Except EntryReason Account :=
  if (e.take 8).all plateChar ∧ field 8 1 e ≤ 7 ∧ field 9 1 e ≤ 1 ∧ field 12 4 e ≤ 2147483647 then
    .ok { haulier := e.take 8, tariff := field 8 1 e, priority := field 9 1 e == 1, limit := field 12 4 e }
  else .error .field

def programmeOf (e : List Byte) : Except EntryReason Programme :=
  if 1 ≤ field 0 1 e ∧ field 0 1 e ≤ 12 then
    match stagesOf e (field 0 1 e) 0 with
    | some stages => .ok { stages := stages }
    | none => .error .field
  else .error .field

def tariffOf (e : List Byte) : Except EntryReason Tariff :=
  let prices := (List.range 16).map (fun p => field (4 + 4 * p) 4 e)
  if field 0 4 e ≤ 1000000 ∧ prices.all (fun x => x ≤ 1000000) ∧ field 68 4 e ≤ 1000000 ∧ field 72 4 e ≤ 1000000
      ∧ field 76 4 e ≤ 1000000 ∧ field 80 4 e ≤ 1000000 ∧ field 84 4 e ≤ 1000000 ∧ field 88 4 e ≤ 100 then
    .ok { gateFee := field 0 4 e, prices := prices, axle := field 68 4 e, fresh := field 72 4 e,
          reclaim := field 76 4 e, detergent := field 80 4 e, unwashed := field 84 4 e,
          abortPercent := field 88 4 e }
  else .error .field

/-- An entry of one of the four tables. -/
inductive Entry where
  | vehicle (x : Vehicle)
  | account (x : Account)
  | programme (x : Programme)
  | tariff (x : Tariff)
  deriving DecidableEq, Repr

/-- The fields of an entry declared present (R139). -/
def entryOf (t : TableId) (e : List Byte) : Except EntryReason Entry :=
  match t with
  | .vehicles => (vehicleOf e).map .vehicle
  | .accounts => (accountEntryOf e).map .account
  | .programmes => (programmeOf e).map .programme
  | .tariffs => (tariffOf e).map .tariff

/-- R139: absent, present with its fields, or rejected. -/
def judgeEntry (t : TableId) (e : List Byte) : Except EntryReason (Option Entry) :=
  let word := field (t.entrySize - 4) 4 e
  if word = 0 then .ok none
  else if word = Config.presentWord then (entryOf t e).map some
  else .error .invalid

end Sys2Proof.Machine
end

