-- ==== Sys2Proof/Machine/Ports.lean ====
section
/-! DEFINITION. The Port Unit's shared operations (chapter 3): a port going down and up, a frame offered, a frame taken,
flow control. What a role unit does about a lost port is told after the event (R43). -/

namespace Sys2Proof.Machine

/-- A port's record after it goes DOWN: queues flushed and counted, flags, timer, run and pending flow frame cleared; a
frame whose transmission has begun stays (R43). -/
def downRecord (x : Port) (reason : DownReason) : Port :=
  { x with link := .down, inbound := [], outbound := [], badRun := 0, timer := none, hold := false,
           overflow := false, flow := none, flowSending := false, downReason := some reason,
           inDiscarded := x.inDiscarded + BitVec.ofNat 16 x.inbound.length,
           outDiscarded := x.outDiscarded + BitVec.ofNat 16 x.outbound.length }

/-- An UP port goes DOWN (R43); its role unit is told at the end of the event (`settleLost`). -/
def portDown (p : PortId) (reason : DownReason) (s : State) : State :=
  notify { kind := .portDown, subject := p.val, first := reason.code }
    (setPort p (downRecord s.ports[p] reason) s)

/-- A frame is offered for sending (R43, R49). -/
def offer (p : PortId) (f : QFrame) (s : State) : State :=
  let x := s.ports[p]
  if x.link = .up then
    if x.outbound.length < Config.outboundPlaces then setPort p { x with outbound := x.outbound ++ [f] } s
    else portDown p .outboundOverflow (setPort p { x with outDiscarded := x.outDiscarded + 1 } s)
  else setPort p { x with outDiscarded := x.outDiscarded + 1 } s

/-- A flow frame made pending, or the other one withdrawn (R48). -/
def flowAfter (old : Option Flow) (new : Flow) : Option Flow :=
  match old with
  | none => some new
  | some f => if f = new then some new else none

/-- The port's record with its flow frame made pending or withdrawn (R48): a frame withdrawn while it is being sent runs
to its end, and one made pending after that is a new frame (log 24). -/
def withFlow (new : Flow) (x : Port) : Port :=
  let f := flowAfter x.flow new
  { x with flow := f, flowSending := x.flowSending && f.isSome }

/-- A frame joins the inbound queue; the hold flag may be set (R46, R48). -/
def joinInbound (f : QFrame) (latched : Latched) (x : Port) : Port :=
  let y := { x with inbound := x.inbound ++ [f] }
  if !x.hold && Config.inboundPlaces - y.inbound.length ≤ latched.holdMargin then
    { withFlow .hold y with hold := true }
  else y

/-- The head frame is taken; the hold flag may clear (R46, R48). -/
def takeInbound (latched : Latched) (x : Port) : Port :=
  let y := { x with inbound := x.inbound.tail }
  if x.hold && y.inbound.length ≤ latched.goLevel then
    { withFlow .go y with hold := false, overflow := false }
  else y

/-- The frame a role unit takes next from a port: the head of an UP port's queue, in RUNNING and STOPPING (R46). -/
def headFrame (p : PortId) (s : State) : Option QFrame :=
  if working s && linkUp p s then s.ports[p].inbound.head? else none

/-- The role unit takes the head frame (R46). -/
def takeFrame (p : PortId) (s : State) : State := setPort p (takeInbound s.latched s.ports[p]) s

/-- The link timer of an UP port starts once the part has passed acceptance (R42, R44). -/
def linkTimerStart (s : State) : Option Nat := if accepted s then some s.latched.linkTimeout else none

/-! ### Frames the part sends (R183) -/

def raiseFrame (serial : Count) : QFrame := { kind := Kind.raise, payload := le 2 serial.toNat }
def signFrame (serial : Count) (plate : Plate) : QFrame :=
  { kind := Kind.sign, payload := le 2 serial.toNat ++ plate }
def stageStartFrame (kind : StageKind) (source : Source) (flow cap : Nat) : QFrame :=
  { kind := Kind.stageStart, payload := [byte kind.code, byte source.code] ++ le 2 flow ++ le 4 cap }
def stageStopFrame : QFrame := { kind := Kind.stageStop, payload := [] }
def pumpRunFrame (k : TankId) (kind : PumpKind) : QFrame :=
  { kind := Kind.pumpRun, payload := [byte k.val, byte kind.code] }
def flowFrame : Flow → QFrame
  | .hold => { kind := Kind.hold, payload := [] }
  | .go => { kind := Kind.go, payload := [] }

/-- A frame's bytes in the order they are sent: kind, length, payload, check, low byte first (R183). -/
def frameBytes (f : Frame) : List Byte :=
  [f.kind, byte f.payload.length] ++ f.payload ++ le 2 f.check.toNat

/-- A queued frame as it is sent, its check made (R39, R183). -/
def QFrame.sent (f : QFrame) : List Byte :=
  frameBytes { kind := f.kind, payload := f.payload, check := frameCheck f.kind f.payload }

end Sys2Proof.Machine
end

