-- ==== Sys2Proof/Machine/Tally.lean ====
section
/-! DEFINITION. The Tally Unit's lines and pages (chapter 10) and what a line does to its account (chapter 9): placing,
pending, closing and seeking pages, pricing, the credit test. -/

namespace Sys2Proof.Machine

/-! ### Pages (R162, R163, R164) -/

/-- The line of memory that holds the pool entry at the pool position, and the entry's place in it (section 10.1). -/
def poolEntryAddr (s : State) : Nat := s.path.bases.poolRing + 8 * (s.tally.poolPos.toNat % Config.poolEntries)
def poolLineAddr (s : State) : Nat := poolEntryAddr s / 32 * 32
def poolEntryOff (s : State) : Nat := poolEntryAddr s % 32

/-- The search for a page (R162). -/
def pageSearch (s : State) : State :=
  if s.tally.page.isNone && !s.tally.poolRead && working s && pageOffered s then
    present .tally (.read .pool (poolLineAddr s) 1) { s with tally := { s.tally with poolRead := true } }
  else s

/-- Close the current page (R164): its closed header, the notice with the reason's code, the page given up. -/
def closePage (reason : Nat) (s : State) : State :=
  match s.tally.page with
  | none => s
  | some p =>
    let s1 := placeTold .tally (.line 4) p.addr (p.header true) s
    let s2 := notify { kind := .pageClosed, reason := reason, subject := p.seq.toNat, first := p.addr,
                       second := p.lines } s1
    setTally { s2.tally with page := none } s2

/-- The Tally Unit is told of HALTED (R164): its page closes at once, or in its turn (R14; log 10). -/
def tellPage (s : State) : State := if busy .tally s then reach (.told .pageHalted) s else closePage 0 s

/-- A page's record with one more line on it (R163). -/
def Page.withLine (p : Page) (l : TallyLine) : Page :=
  { p with used := p.used + l.header.length + l.items.length, lines := p.lines + 1,
           firstTime := some (p.firstTime.getD l.time), lastTime := some l.time }

/-- The placement of a line's items, when it has any (R163). -/
def placeItems (addr : Nat) (items : List Byte) (s : State) : State :=
  if items.isEmpty then s else present .tally (.place addr items) s

/-- The three placements of a line on the current page, then the Tally Unit's record with the line on the page, and the
page's closing when it is full (R163, R164). `t` is the record that the line's placing leaves, its page aside: the count a
placed line lowers is shown after its placements (R15, R166). -/
def placeLine (l : TallyLine) (t : TallyUnit) (s : State) : State :=
  match s.tally.page with
  | none => s
  | some p =>
    let q := p.withLine l
    let s1 := placeItems (p.addr + p.used + l.header.length) l.items s
    let s2 := present .tally (.place (p.addr + p.used) l.header) s1
    let s3 := placeTold .tally (.line 4) p.addr (q.header false) s2
    let s4 := setTally { t with page := some q } s3
    if Config.pageSize < q.used + Config.lineRoom then pageSearch (closePage 1 s4) else s4

/-- A line joins the pending list of the record `t`; POOL_EMPTY is given once per page (R165). -/
def pendLine (l : TallyLine) (t : TallyUnit) (s : State) : State :=
  let s1 := setTally { t with lines := t.lines ++ [l] } s
  if !pageOffered s1 && !s1.tally.poolRead && !s1.tally.poolEmptyGiven then
    notify { kind := .poolEmpty, first := pendingCount s1 }
      { s1 with tally := { s1.tally with poolEmptyGiven := true } }
  else s1

/-- The Tally Unit's record once a line has been composed: the line counter advanced, the line's reservation ended if it
has one (R165, R166). -/
def TallyUnit.composed (reserved : Bool) (t : TallyUnit) : TallyUnit :=
  { t with lineNumber := t.lineNumber + 1,
           reservations := if reserved then t.reservations - 1 else t.reservations }

/-- A line composed now is placed at once (R165). -/
def placesAtOnce (s : State) : Bool := s.tally.lines.isEmpty && s.tally.page.isSome

/-- A record that a composed line changes: it tells of the line's placements if the line was placed, and of none if it was
pended (R15, R73, R156). `before` is the state at the composition. -/
def tellOfLine (r : Rec) (before after : State) : State :=
  if placesAtOnce before then makeWay .tally r after else after

/-- A line is composed: it takes the line counter's value, ends its reservation if it has one, and is placed or pended
(R165, R166). `before` is the Tally Unit's record as the event leaves it apart from the line, shown with the line's own
change (R15). -/
def composeLine (before : TallyUnit) (reserved : Bool) (header : Word → List Byte) (items : List Byte) (s : State) :
    State :=
  let l : TallyLine := { header := header before.lineNumber, items := items, time := s.clock.now }
  let t := before.composed reserved
  if placesAtOnce s then placeLine l t s else pendLine l t s

/-- The pending lines placed one after another while there is a page (R167). -/
def drainLines : List TallyLine → State → State
  | [], s => s
  | l :: ls, s =>
    if s.tally.page.isSome then drainLines ls (placeLine l { s.tally with lines := ls } s) else s

/-! ### Credit (R152, R153) -/

/-- The account's entry in the internal copy. -/
def accountEntry (a : AccountId) (s : State) : Option Account := lookup s.table.accounts a.val

/-- The condition of CREDIT_STOP (R152). -/
def creditStopNow (a : AccountId) (s : State) : Bool :=
  match accountEntry a s with
  | none => false
  | some e => e.limit ≤ s.tally.accounts[a].balance

/-- The credit limit a notice shows: 0 for an account not committed (R152). -/
def limitShown (a : AccountId) (s : State) : Nat :=
  match accountEntry a s with
  | none => 0
  | some e => e.limit

/-- CREDIT_STOP set to its condition: a change gives ACCOUNT_CREDIT, SET 1 or CLEARED 2 (R152). -/
def creditChange (a : AccountId) (s : State) : State :=
  let x := s.tally.accounts[a]
  let stop := creditStopNow a s
  if x.creditStop = stop then s
  else
    notify { kind := .accountCredit, reason := if stop then 1 else 2, subject := a.val,
             first := min x.balance 4294967295, second := limitShown a s }
      (putAccount a { x with creditStop := stop } s)

/-- The credit test applied (R152): a change also refreshes the account's record. -/
def creditTest (a : AccountId) (s : State) : State :=
  if s.tally.accounts[a].creditStop = creditStopNow a s then s else post (.balance a) (creditChange a s)

/-- The tariff of an account's class (R154). -/
def tariffOfAccount (a : AccountId) (s : State) : Option Tariff :=
  (accountEntry a s).bind (fun e => lookup s.table.tariffs e.tariff)

/-- The price of a programme (R154). -/
def Tariff.price (t : Tariff) (p : Nat) : Nat := t.prices.getD p 0

/-- The admission estimate fails (R153). -/
def creditFails (a : AccountId) (programme : Nat) (s : State) : Bool :=
  s.tally.accounts[a].creditStop ||
    (match accountEntry a s, tariffOfAccount a s with
      | some e, some t => e.limit < s.tally.accounts[a].balance + t.gateFee + t.price programme
      | _, _ => false)

/-! ### Pricing a visit (R154, R155) -/

/-- An item at a price: its quantity held at 2,000 (R155); none when the quantity is 0 (R154). -/
def itemAt (kind : ItemKind) (quantity price : Nat) : List Item :=
  if quantity = 0 then []
  else [{ kind := kind, clamped := 2000 < quantity, quantity := min quantity 2000,
          amount := min quantity 2000 * price }]

/-- The items of a visit priced by a tariff, in R154's order. -/
def visitItems (v : Visit) (t : Tariff) : List Item :=
  let fresh := match v.summary with | none => 0 | some m => ceilDiv m.fresh 100
  let reclaim := match v.summary with | none => 0 | some m => ceilDiv m.reclaim 100
  let detergent := match v.summary with | none => 0 | some m => m.detergent
  let price := t.price (v.programme.getD 0)
  let axles := itemAt .axle (v.axles.getD 0 - 2) t.axle
  let water := itemAt .fresh fresh t.fresh ++ itemAt .reclaim reclaim t.reclaim
    ++ itemAt .detergent detergent t.detergent
  match v.outcome with
  | some .complete => itemAt .gate 1 t.gateFee ++ itemAt .programme 1 price ++ axles ++ water
  | some .aborted =>
    itemAt .gate 1 t.gateFee ++ itemAt .programme 1 (price * t.abortPercent / 100) ++ axles ++ water
  | some .unwashed => itemAt .gate 1 t.gateFee ++ itemAt .unwashed 1 t.unwashed ++ axles
  | some .released => itemAt .gate 1 t.gateFee ++ itemAt .unwashed 1 t.unwashed ++ axles
  | some .turnedAway => []
  | none => []

/-- A closing visit's items: none without an account's tariff. -/
def pricedItems (v : Visit) (s : State) : List Item :=
  match v.account.bind (fun a => tariffOfAccount a s) with
  | none => []
  | some t => visitItems v t

/-- The exact sum of the amounts, and the line total held at 2,147,483,647 (R155). -/
def itemSum (items : List Item) : Nat := (items.map (fun i => i.amount)).sum
def lineTotal (items : List Item) : Nat := min (itemSum items) 2147483647

/-- A line's flags, less PARTIAL: CLAMPED and TOTAL_HELD (R182). -/
def lineFlags (items : List Item) : Nat :=
  bit (items.any (fun i => i.clamped)) + 2 * bit (decide (2147483647 < itemSum items))

def itemsBytes (items : List Item) : List Byte := items.flatMap Item.bytes

/-- A VISIT line's header (R155, R182). -/
def visitHeader (v : Visit) (items : List Item) (now : Stamp) (number : Word) : List Byte :=
  lineHeader .visit items.length (codeOr Outcome.code v.outcome) (lineFlags items)
    (match v.account with | none => 0xFFFF | some a => a.val) now
    (twoItems v.serial.toNat (v.vehicle.getD 0xFFFF)) (lineTotal items) number

/-- A VISIT line's charge to its account (R156, steps 1 to 3). -/
def chargeAccount (a : AccountId) (total : Nat) (s : State) : State :=
  let x := s.tally.accounts[a]
  post (.balance a) (creditTest a (putAccount a
    { x with balance := x.balance + total, charges := x.charges + total, visitCount := x.visitCount + 1 } s))

/-- A closing's VISIT line is composed (R154, R155, R156); `before` as for `composeLine`. -/
def composeVisitLine (v : Visit) (before : TallyUnit) (s : State) : State :=
  let items := pricedItems v s
  let s1 := composeLine before false (visitHeader v items s.clock.now) (itemsBytes items) s
  match v.account with
  | none => s1
  | some a => chargeAccount a (lineTotal items) (tellOfLine (.balance a) s s1)

/-! ### The other lines (R148, R157, R158) -/

/-- A PAYMENT line (R157). -/
def composePayment (a : AccountId) (amount : Nat) (s : State) : State :=
  composeLine s.tally false (lineHeader .payment 1 0 0 a.val s.clock.now (twoItems 0 0xFFFF) amount)
    (Item.bytes { kind := .payment, clamped := false, quantity := 1, amount := amount }) s

/-- An item of a PERIOD line: quantity and amount held (R158). -/
def periodItem (kind : ItemKind) (quantity amount : Nat) : Item :=
  { kind := kind, clamped := 2000 < quantity || 2147483647 < amount, quantity := min quantity 2000,
    amount := min amount 2147483647 }

/-- The items of a PERIOD line (R158). -/
def periodItems (x : AccountState) : List Item :=
  [periodItem .charges x.visitCount x.charges, periodItem .payments x.paymentCount x.payments,
   periodItem .balance 1 x.balance]

/-- A PERIOD line (R158). Its flags carry CLAMPED when an item is held and never TOTAL_HELD, though its total, the balance
item's amount, is held like any item (R155, R158, R182; log 48). -/
def composePeriod (a : AccountId) (s : State) : State :=
  let x := s.tally.accounts[a]
  let items := periodItems x
  composeLine s.tally false (lineHeader .period 3 0 (bit (items.any (fun i => i.clamped)) + 4 * bit x.partialPeriod) a.val
    s.clock.now s.tally.invoice.toNat (min x.balance 2147483647)) (itemsBytes items) s

/-- An EDIT line, in the place its reservation kept (R148): the outcome's code, the reason's code, the entry's index and
checksum. -/
def composeEdit (t : TableId) (entry outcome reason sum : Nat) (s : State) : State :=
  composeLine s.tally true (lineHeader .edit 0 outcome reason t.code s.clock.now (twoItems 0 entry) sum) [] s

end Sys2Proof.Machine
end

