-- ==== Sys2Proof/Machine/Yard.lean ====
section
/-! DEFINITION. The Yard Unit's shared operations (chapter 5): the bay queue, the bay assignment arbiter, calls and
their ends. -/

namespace Sys2Proof.Machine

/-- The register entry a visit is linked to, from the internal copy. -/
def linkedEntry (v : Visit) (s : State) : Option Vehicle := v.vehicle.bind (lookup s.table.vehicles)

/-- Write a bay's state without its refresh being compared to an older one: `setBay` on the record as it stands. -/
def setBayWith (b : BayId) (f : Bay → Bay) (s : State) : State := setBay b (f s.bays[b]) s

/-! ### Eligibility (R82, R84) -/

/-- A fitted bay whose descriptor takes the visit's axles and programme (R82, R84). -/
def serves (b : BayId) (v : Visit) (s : State) : Bool :=
  match v.axles, v.programme with
  | some axles, some p =>
    bayFitted b s && decide (axles ≤ s.latched.bays[b].axleLimit) && s.latched.bays[b].mask.getLsbD p
  | _, _ => false

/-- A programme is committed in the internal copy. -/
def programmeCommitted (p : Nat) (s : State) : Bool := (lookup s.table.programmes p).isSome

/-- A bay is eligible for a visit (R82). -/
def eligible (b : BayId) (v : Visit) (s : State) : Bool :=
  s.bays[b].state == .free && linkUp (bayPort b) s && s.bays[b].presence == .off && serves b v s
    && (match v.programme with | none => false | some p => programmeCommitted p s)

/-! ### The queue (R80, R81) -/

/-- One visit stands before another (R80). -/
def standsBefore (v w : Visit) : Bool :=
  if v.priority == w.priority then v.admission < w.admission else v.priority

/-- A visit's place in the queue (R80). -/
def enqueueAt (slots : Vector (Option Visit) 64) (slot : Slot) (v : Visit) : List Slot → List Slot
  | [] => [slot]
  | q :: qs =>
    match slots[q] with
    | none => q :: enqueueAt slots slot v qs
    | some w => if standsBefore v w then slot :: q :: qs else q :: enqueueAt slots slot v qs

/-- A visit joins or rejoins the queue at its place (R80, R81). -/
def enqueue (slot : Slot) (v : Visit) (s : State) : State :=
  { s with yard := { s.yard with queue := enqueueAt s.yard.slots slot v s.yard.queue } }

/-- A visit leaves the queue (R81). -/
def leaveQueue (slot : Slot) (s : State) : State :=
  { s with yard := { s.yard with queue := s.yard.queue.erase slot } }

/-! ### The arbiter (R83, R85) -/

/-- The plate a SIGN carries (R85). -/
def signPlate (v : Visit) (s : State) : Plate :=
  match v.plate with
  | some p => p
  | none => match (linkedEntry v s).bind (fun e => e.plate) with
    | some p => p
    | none => []

/-- A call of a visit to a bay (R85). -/
def callVisit (slot : Slot) (v : Visit) (b : BayId) (s : State) : State :=
  let s1 := setVisit slot (some { v with state := .called, bay := some b,
                                         callTimer := some s.latched.callLimit }) (leaveQueue slot s)
  let s2 := setBayWith b (fun x => { x with state := .calling, bound := some slot, lastTag := none }) s1
  offer (bayPort b) (signFrame v.serial (signPlate v s)) s2

/-- The first queued visit with an eligible bay, and its lowest eligible bay (R83). -/
def nextCall (s : State) : Option (Slot × Visit × BayId) :=
  s.yard.queue.findSome? (fun slot =>
    match s.yard.slots[slot] with
    | none => none
    | some v => (allBays.find? (fun b => eligible b v s)).map (fun b => (slot, v, b)))

/-- Calls made one pair at a time; each takes a FREE bay, so eight are enough (R83). -/
def arbiterCalls : Nat → State → State
  | 0, s => s
  | n + 1, s =>
    match nextCall s with
    | none => s
    | some (slot, v, b) => arbiterCalls n (callVisit slot v b s)

/-- A run of the bay assignment arbiter (R83). -/
def arbiter (s : State) : State := if s.clock.fallback then s else arbiterCalls 8 s

/-- The check that some fitted bay could serve the visit (R84). -/
def unservableCheck (slot : Slot) (v : Visit) (s : State) : State :=
  if allBays.any (fun b => serves b v s) then s
  else notify { kind := .queueUnservable, subject := slot.val, first := v.serial.toNat,
                second := twoItems (v.axles.getD 0) (v.programme.getD 0xFF) } s

/-- A visit becomes QUEUED by admission: its record, its place, R84's check, the arbiter, its refresh (R64, R80, R81). -/
def queueVisit (slot : Slot) (v : Visit) (s : State) : State :=
  let w : Visit := { v with state := .queued, reason := none, admitted := some s.clock.now,
                            admission := s.yard.admitted }
  let s1 := putVisit slot (some w) { s with yard := { s.yard with admitted := s.yard.admitted + 1 } }
  postVisit slot (arbiter (unservableCheck slot w (enqueue slot w s1)))

/-! ### The end of a call (R79, R86, R87, R89, R98) -/

/-- A bay that would become FREE becomes CLOSED when hold-after is set, the flag cleared (R98, R107, R112). -/
def freeOrClosed (x : Bay) : Bay :=
  if x.holdAfter then { x with state := .closed, holdAfter := false } else { x with state := .free }

/-- A bay that would become FAULT becomes CLOSED when hold-after is set, the flag cleared (R110). -/
def faultOrClosed (x : Bay) : Bay :=
  if x.holdAfter then { x with state := .closed, holdAfter := false } else { x with state := .fault }

/-- A call's end at the bay with its port UP: unbound, FREE or CLOSED, STAGE_STOP offered, UNCALLED_VEHICLE with reason
CALL_ENDED (9) when a truck stands in it (R97, R98). -/
def endCallAtBay (b : BayId) (s : State) : State :=
  let s1 := setBayWith b (fun x => { freeOrClosed x with bound := none, lastTag := none }) s
  let s2 := offer (bayPort b) stageStopFrame s1
  if s2.bays[b].presence = .on then notify { kind := .uncalledVehicle, reason := 9, subject := b.val } s2 else s2

/-- A called visit goes back to the queue, at the place of its admission (R80, R86, R87). -/
def requeue (slot : Slot) (v : Visit) (s : State) : State :=
  let w : Visit := { v with state := .queued, bay := none, callTimer := none }
  enqueue slot w (putVisit slot (some w) s)

/-- A visit is released (R86, R89). -/
def release (slot : Slot) (v : Visit) (reason : VisitReason) (s : State) : State :=
  notify { kind := .visitReleased, reason := reason.code, subject := slot.val, first := v.serial.toNat,
           second := bayValue v.bay }
    (setVisit slot (some { v with state := .released, outcome := some .released, reason := some reason,
                                  callTimer := none }) s)

/-- A call withdrawn: the visit rejoins with CALL_WITHDRAWN (PORT_LOST 1, FALLBACK 2), the arbiter runs, the record is
refreshed (R81, R87). The bay's side has been done. -/
def withdrawCall (slot : Slot) (v : Visit) (cause : Nat) (s : State) : State :=
  let s1 := requeue slot v s
  let s2 := notify { kind := .callWithdrawn, reason := cause, subject := slot.val, first := v.serial.toNat,
                     second := bayValue v.bay } s1
  postVisit slot (arbiter s2)

/-- The call timer's expiry (R86). -/
def expireCall (slot : Slot) (v : Visit) (b : BayId) (s : State) : State :=
  let s1 := endCallAtBay b s
  let w : Visit := { v with callCount := v.callCount + 1, callTimer := none }
  if w.callCount < 3 then
    let s2 := requeue slot w s1
    let s3 := notify { kind := .callExpired, subject := slot.val, first := v.serial.toNat,
                       second := twoItems b.val w.callCount } s2
    postVisit slot (arbiter s3)
  else arbiter (release slot w .noShow s1)

end Sys2Proof.Machine
end

