-- ==== Sys2Proof/Machine/Gate.lean ====
section
/-! DEFINITION. The Gate Unit's shared operations (chapter 4): identification, the repeat test, admission, the making of
visits, pairs, the entry gate's states, barriers and the recent-exit list. -/

namespace Sys2Proof.Machine

/-- Change the Gate Unit's state; nothing of it is posted. -/
def putGate (g : GateUnit) (s : State) : State := { s with gate := g }

/-! ### The vehicle index (R53, R54) -/

/-- The register entry a tag resolves to; tag 0 is never looked up (R53). -/
def resolveTag (t : Tag) (s : State) : Option Nat :=
  if t = 0 then none else (s.gate.tagMap.find? (fun p => p.1 == t)).map (fun p => p.2)

/-- The register entry a plate resolves to (R53). -/
def resolvePlate (p : Plate) (s : State) : Option Nat :=
  (s.gate.plateMap.find? (fun q => q.1 == p)).map (fun q => q.2)

/-- The pairs an entry puts into the two maps (R53). -/
def tagPairs (i : Nat) (v : Vehicle) : List (Tag × Nat) := if v.tag = 0 then [] else [(v.tag, i)]
def platePairs (i : Nat) (v : Vehicle) : List (Plate × Nat) :=
  match v.plate with
  | none => []
  | some p => [(p, i)]

/-- The index as built in LOADING step 6 (R54). -/
def buildIndex (s : State) : State :=
  putGate { s.gate with tagMap := s.table.vehicles.flatMap (fun e => tagPairs e.1 e.2),
                        plateMap := s.table.vehicles.flatMap (fun e => platePairs e.1 e.2) } s

/-- The index kept in step with a committed vehicle entry (R54). -/
def updateIndex (i : Nat) (v : Option Vehicle) (s : State) : State :=
  let tags := s.gate.tagMap.filter (fun p => p.2 != i)
  let plates := s.gate.plateMap.filter (fun p => p.2 != i)
  putGate { s.gate with
    tagMap := match v with | none => tags | some x => tags ++ tagPairs i x
    plateMap := match v with | none => plates | some x => plates ++ platePairs i x } s

/-! ### Identification (R60) and repeats (R61) -/

/-- A plate sighting is reliable (section 4.4). -/
def reliable (confidence : Nat) (s : State) : Bool := s.latched.plateThreshold ≤ confidence

/-- The identification outcome of a pair (R60). -/
def identify (p : Pair) (s : State) : Ident :=
  match p.tag, p.plate with
  | none, none => .unknown
  | none, some (text, confidence) =>
    match resolvePlate text s with
    | some f => if reliable confidence s then .identified .plate f else .uncertain
    | none => .unknown
  | some t, none =>
    match resolveTag t s with
    | some e => .identified .tag e
    | none => .unknown
  | some t, some (text, confidence) =>
    match resolveTag t s, resolvePlate text s with
    | some e, some f => if e = f then .identified .both e else .conflict
    | some e, none => if reliable confidence s then .conflict else .identified .tag e
    | none, some _ => .conflict
    | none, none => .unknown

/-- A visit's identities: what was captured, and its linked entry's (R61). -/
def visitTags (v : Visit) (s : State) : List Tag :=
  v.tag.toList ++ (match linkedEntry v s with
    | none => []
    | some e => if e.tag = 0 then [] else [e.tag])
def visitPlates (v : Visit) (s : State) : List Plate :=
  v.plate.toList ++ (match linkedEntry v s with
    | none => []
    | some e => e.plate.toList)

/-- The pair names a visit that is not free (R61). -/
def repeats (p : Pair) (o : Ident) (s : State) (v : Visit) : Bool :=
  (match o with
    | .identified _ e => v.vehicle == some e
    | .unknown => false
    | .uncertain => false
    | .conflict => false)
  || (match p.tag with | none => false | some t => (visitTags v s).contains t)
  || (match p.plate with | none => false | some (text, _) => (visitPlates v s).contains text)

/-- The repeat test (R61). -/
def isRepeat (p : Pair) (o : Ident) (s : State) : Bool :=
  s.yard.slots.toList.any (fun x => match x with | none => false | some v => repeats p o s v)

/-! ### Barriers (R74, R75) -/

/-- A RAISE offered to a gate's port; BARRIER_UNSENT when the port is not UP (R74, R75). -/
def raiseBarrier (g : Gate) (serial : Count) (s : State) : State :=
  if linkUp (gatePort g) s then offer (gatePort g) (raiseFrame serial) s
  else notify { kind := .barrierUnsent, subject := (gatePort g).val, first := serial.toNat }
    (offer (gatePort g) (raiseFrame serial) s)

/-! ### Admission (R63, R64) -/

/-- The admission decision for a linked visit: the first hold reason that applies (R64). -/
def admission (v : Visit) (s : State) : Option VisitReason :=
  let barred := match linkedEntry v s with | none => false | some e => e.barred
  let stopped := match v.account with | none => false | some a => s.tally.accounts[a].hostStop
  let credit := match v.account with | none => false | some a => creditFails a (v.programme.getD 0) s
  if barred then some .barred
  else if stopped then some .accountStopped
  else if credit then some .credit
  else if paused s then some .depotPaused
  else none

/-- A visit held AT_GATE, with VISIT_HELD (R63). -/
def holdVisit (slot : Slot) (v : Visit) (reason : VisitReason) (s : State) : State :=
  notify { kind := .visitHeld, reason := reason.code, subject := slot.val, first := v.serial.toNat,
           second := codeOr Basis.code v.basis }
    (setVisit slot (some { v with state := .atGate, reason := some reason }) s)

/-- A visit becomes QUEUED and the entry barrier is told (R64, R75). -/
def admitVisit (slot : Slot) (v : Visit) (s : State) : State :=
  raiseBarrier .entry v.serial (queueVisit slot v s)

/-- A linked visit's state settled by the admission decision (R64). -/
def settleAdmission (slot : Slot) (v : Visit) (s : State) : State :=
  match admission v s with
  | some reason => holdVisit slot v reason s
  | none => admitVisit slot v s

/-- The fields of a new visit (R63). -/
def newVisit (p : Pair) (o : Ident) (s : State) : Visit :=
  let entry := match o with
    | .identified _ e => (lookup s.table.vehicles e).map (fun x => (e, x))
    | .unknown => none
    | .uncertain => none
    | .conflict => none
  { serial := s.yard.serial + 1, state := .atGate, reason := none, outcome := none,
    vehicle := entry.map (fun x => x.1), account := entry.map (fun x => x.2.account),
    programme := entry.map (fun x => x.2.programme), axles := entry.map (fun x => x.2.axles),
    tag := p.tag, plate := p.plate.map (fun x => x.1),
    priority := match entry with
      | none => false
      | some x => match accountEntry x.2.account s with | none => false | some a => a.priority
    bay := none, callCount := 0, entered := s.clock.now, admitted := none, summary := none, left := none,
    callTimer := none,
    basis := match o with | .identified b _ => some b | .unknown => none | .uncertain => none | .conflict => none
    created := s.yard.created, admission := 0 }

/-- A visit is created in a slot and its starting state settled (R63, R78). -/
def createVisit (p : Pair) (o : Ident) (slot : Slot) (s : State) : State :=
  let v := newVisit p o s
  let s1 := { s with yard := { s.yard with serial := s.yard.serial + 1, created := s.yard.created + 1 } }
  match o with
  | .unknown => holdVisit slot v .unknown s1
  | .uncertain => holdVisit slot v .uncertain s1
  | .conflict => holdVisit slot v .conflict s1
  | .identified _ _ => settleAdmission slot v s1

/-! ### Re-evaluation (R65, R66) -/

/-- Visits in the order they were created (R65). -/
def insertCreated (x : Slot × Nat) : List (Slot × Nat) → List (Slot × Nat)
  | [] => [x]
  | y :: ys => if x.2 < y.2 then x :: y :: ys else y :: insertCreated x ys

/-- The slots whose visits a test accepts, in creation order. -/
def slotsInOrder (want : Visit → Bool) (s : State) : List Slot :=
  let picked := allSlots.filterMap (fun slot =>
    match s.yard.slots[slot] with
    | none => none
    | some v => if want v then some (slot, v.created) else none)
  (picked.foldr insertCreated []).map (fun x => x.1)

/-- Visits re-evaluated one at a time (R65, R66). -/
def reevaluate : List Slot → State → State
  | [], s => s
  | slot :: rest, s =>
    match s.yard.slots[slot] with
    | none => reevaluate rest s
    | some v => reevaluate rest (settleAdmission slot v s)

/-- When the depot stops being paused (R65). -/
def pauseLifted (s : State) : State :=
  reevaluate (slotsInOrder (fun v => v.state == .atGate && v.reason == some .depotPaused) s) s

/-- When an account's balance falls or its limit rises (R66). -/
def creditEased (a : AccountId) (s : State) : State :=
  reevaluate (slotsInOrder (fun v => v.state == .atGate && v.reason == some .credit && v.account == some a) s) s

/-! ### Pairs and the entry gate (R55, R57, R58, R59, R62) -/

/-- The entry gate with no pair, in a given state. -/
def gateWith (e : EntryState) (s : State) : State :=
  putGate { s.gate with entry := e, pair := none, outcome := none, timer := none } s

/-- The lowest free slot (R78). -/
def freeSlot (s : State) : Option Slot := allSlots.find? (fun slot => s.yard.slots[slot].isNone)

/-- A pair is decided (R58, R59, R60, R61, R62). -/
def decidePair (p : Pair) (s : State) : State :=
  let o := identify p s
  if isRepeat p o s then gateWith .ready s
  else
    match freeSlot s with
    | some slot => createVisit p o slot (gateWith .ready s)
    | none =>
      notify { kind := .gateBlocked, subject := entryPort.val, first := openVisits s }
        (putGate { s.gate with entry := .blocked, pair := some p, outcome := some o, timer := none } s)

/-- A slot has been freed: a BLOCKED gate's pair is decided afresh for it (R62, R90). -/
def offerSlot (slot : Slot) (s : State) : State :=
  match s.gate.entry, s.gate.pair with
  | .blocked, some p =>
    let o := identify p s
    let s1 := gateWith .ready s
    if isRepeat p o s then s1 else createVisit p o slot s1
  | _, _ => s

/-- A sighting (R56). -/
inductive Sighting where
  | tag (t : Tag)
  | plate (text : Plate) (confidence : Nat)
  deriving DecidableEq, Repr

/-- The sighting a frame carries (R183). -/
def sightingOf (f : QFrame) : Sighting :=
  if f.kind = Kind.sightTag then .tag (tagOf f.payload) else .plate (f.payload.drop 1) (field 0 1 f.payload)

/-- Content identification can use (R56). -/
def Sighting.usable : Sighting → Bool
  | .tag t => t != 0
  | .plate text confidence => confidence ≤ 100 && text.all plateChar

/-- A pair holding one sighting. -/
def Sighting.pair : Sighting → Pair
  | .tag t => { tag := some t, plate := none }
  | .plate text confidence => { tag := none, plate := some (text, confidence) }

/-- A pair is opened (R58). -/
def openPair (x : Sighting) (s : State) : State :=
  putGate { s.gate with entry := .pairing, pair := some x.pair, outcome := none,
                        timer := some s.latched.pairWindow } s

/-- A sighting of a kind the pair holds already: a repeat, or the old pair is decided first (R58). -/
def sameKind (same : Bool) (p : Pair) (x : Sighting) (s : State) : State :=
  if same then s
  else
    let s1 := decidePair p s
    if s1.gate.entry = .blocked then s1 else openPair x s1

/-- A usable sighting is paired (R58). -/
def pairSighting (x : Sighting) (s : State) : State :=
  match s.gate.pair with
  | none => openPair x s
  | some p =>
    match x with
    | .tag t =>
      match p.tag with
      | none => decidePair { p with tag := some t } s
      | some u => sameKind (t == u) p x s
    | .plate text confidence =>
      match p.plate with
      | none => decidePair { p with plate := some (text, confidence) } s
      | some (u, _) => sameKind (text == u) p x s

/-- The identity a notice carries in its value words (R181). -/
def identityWords (tag : Option Tag) (plate : Option Plate) : Nat :=
  match tag, plate with
  | some t, _ => t.toNat
  | none, some p => plateValue p
  | none, none => 0

/-- The subject of ENTRY_PAIR_DISCARDED and EXIT_UNMATCHED: port, slot field, plate bit (R181). -/
def sightingSubject (p : PortId) (slotField : Nat) (isPlate : Bool) : Nat :=
  p.val + 2 ^ 8 * slotField + 2 ^ 15 * bit isPlate

/-- ENTRY_PAIR_DISCARDED (PORT_DOWN 1, STOPPING 2; R55, R57). -/
def pairDiscarded (p : Pair) (reason : Nat) (s : State) : State :=
  let v := identityWords p.tag (p.plate.map (fun x => x.1))
  notify { kind := .entryPairDiscarded, reason := reason,
           subject := sightingSubject entryPort 0x7F p.tag.isNone, first := lowWord v, second := highWord v } s

/-- The open or held pair goes, and the gate takes the state given (R55, R57). -/
def discardPair (e : EntryState) (reason : Nat) (s : State) : State :=
  match s.gate.pair with
  | none => gateWith e s
  | some p => pairDiscarded p reason (gateWith e s)

/-- Port 0 has gone down (R55). -/
def entryLost (s : State) : State := discardPair .down 1 s

/-- Port 0 has come up (R55). -/
def entryUp (s : State) : State := if s.gate.entry = .down then gateWith .ready s else s

/-- Port 1 has gone down, and come up (R69). -/
def exitLost (s : State) : State := putGate { s.gate with exitReady := false, recent := [] } s
def exitUp (s : State) : State := putGate { s.gate with exitReady := true } s

/-- The part enters STOPPING (R57). -/
def gateStopping (s : State) : State :=
  match s.gate.entry with
  | .pairing => discardPair .ready 2 s
  | .blocked => discardPair .ready 2 s
  | .ready => s
  | .down => s

/-! ### The recent-exit list (R71) -/

/-- The least time left in the list. -/
def leastLeft : List RecentExit → Nat
  | [] => 0
  | [e] => e.left
  | e :: es => min e.left (leastLeft es)

/-- The entry that would expire first, of these the one made earliest, is replaced when four are held (R71). -/
def roomForRecent (l : List RecentExit) : List RecentExit :=
  if l.length < 4 then l else l.eraseP (fun e => e.left == leastLeft l)

/-- An entry is made (R71). -/
def addRecent (tags : List Tag) (plates : List Plate) (serial : Option Count) (s : State) : State :=
  putGate { s.gate with recent := roomForRecent s.gate.recent ++
    [{ tags := tags, plates := plates, serial := serial, left := s.latched.pairWindow }] } s

/-- A sighting's own identities. -/
def Sighting.tags : Sighting → List Tag
  | .tag t => [t]
  | .plate _ _ => []
def Sighting.plates : Sighting → List Plate
  | .tag _ => []
  | .plate text _ => [text]

/-- The sighting is in an entry of the list (R69). -/
def inRecent (x : Sighting) (s : State) : Bool :=
  s.gate.recent.any (fun e => x.tags.any e.tags.contains || x.plates.any e.plates.contains)

/-- An entry for a sighting that did not act (R69, R70, R71). -/
def addUnmatched (x : Sighting) (s : State) : State := addRecent x.tags x.plates none s

/-- EXIT_UNMATCHED (LOW_CONFIDENCE 1, NO_VISIT 2, AMBIGUOUS 3; R70, R181). -/
def exitUnmatched (x : Sighting) (reason slotField : Nat) (s : State) : State :=
  let v := identityWords x.tags.head? x.plates.head?
  notify { kind := .exitUnmatched, reason := reason,
           subject := sightingSubject exitPort slotField (!x.plates.isEmpty), first := lowWord v,
           second := highWord v } (addUnmatched x s)

/-- A visit the sighting matches (R70). -/
def matchesVisit (x : Sighting) (s : State) (v : Visit) : Bool :=
  x.tags.any (visitTags v s).contains || x.plates.any (visitPlates v s).contains

/-- The slots of the visits a sighting matches, rising (R70). -/
def matchedSlots (x : Sighting) (s : State) : List Slot :=
  allSlots.filter (fun slot => match s.yard.slots[slot] with | none => false | some v => matchesVisit x s v)

end Sys2Proof.Machine
end

