-- ==== Sys2Proof/Machine/Closings.lean ====
section
/-! DEFINITION. Closings (R72, R73, R90, R168), the page taken and the drain (R162, R167), the pause (R168). -/

namespace Sys2Proof.Machine

/-- A visit's closing is composed: its line, its slot freed, a BLOCKED gate's pair given the slot, and the exit RAISE for
a visit that came through the exit action (R73, R90). `before` is the Tally Unit's record without the closing. -/
def closeVisit (slot : Slot) (before : TallyUnit) (s : State) : State :=
  match s.yard.slots[slot] with
  | none => setTally before s
  | some v =>
    let s1 := offerSlot slot (setVisit slot none (tellOfLine (.visit slot) s (composeVisitLine v before s)))
    if v.outcome = some .turnedAway then s1 else raiseBarrier .exit v.serial s1

/-- The waiting closings composed in order, each while the count is below 16 (R167, R168); the count of waiting closings
falls with the placements of each one's line (R15). -/
def composeClosings : List Slot → State → State
  | [], s => s
  | slot :: rest, s =>
    if tallyFull s then s else composeClosings rest (closeVisit slot { s.tally with closings := rest } s)

/-- The waiting closings, at an event of the Tally Unit that may have made room (R167, R168). -/
def serveClosings (s : State) : State := composeClosings s.tally.closings s

/-- A closing taken by the Tally Unit: composed at once, or it waits for room behind the closings that wait (R168). -/
def takeClosing (slot : Slot) (s : State) : State :=
  if tallyFull s || !s.tally.closings.isEmpty then setTally { s.tally with closings := s.tally.closings ++ [slot] } s
  else closeVisit slot s.tally s

/-- A closing handed to the Tally Unit (R73): taken at once, or in its turn (R14; log 10). -/
def handClosing (slot : Slot) (s : State) : State :=
  if busy .tally s then reach (.closing slot) s else takeClosing slot s

/-- A visit enters CLOSING with an outcome (R68, R72). The visit's reason is left as it stands: a visit turned away from the
gate keeps its hold reason in CLOSING (R77; log 51). -/
def enterClosing (slot : Slot) (v : Visit) (outcome : Option Outcome) (s : State) : State :=
  setVisit slot (some { v with state := .closing, outcome := outcome, left := some s.clock.now }) s

/-- The exit action's closing of a visit with an outcome (R72, R73). -/
def closeAtExit (slot : Slot) (v : Visit) (outcome : Option Outcome) (s : State) : State :=
  handClosing slot (enterClosing slot v outcome s)

/-- EXIT_MISMATCH (R72, R181). -/
def exitMismatch (slot : Slot) (v : Visit) (s : State) : State :=
  notify { kind := .exitMismatch, reason := v.state.code, subject := slot.val, first := v.serial.toNat,
           second := bayValue v.bay } s

/-- The exit action (R72). -/
def exitAction (slot : Slot) (v : Visit) (s : State) : State :=
  let s1 := addRecent (visitTags v s) (visitPlates v s) (some v.serial) s
  match v.state with
  | .washed => closeAtExit slot v v.outcome s1
  | .released => closeAtExit slot v v.outcome s1
  | .queued => closeAtExit slot v (some .unwashed) (leaveQueue slot s1)
  | .called => exitMismatch slot v s1
  | .washing => exitMismatch slot v s1
  | .atGate => exitMismatch slot v s1
  | .closing => s1

/-- A sighting matched against the visits (R70). -/
def matchExit (x : Sighting) (s : State) : State :=
  match matchedSlots x s with
  | [] => exitUnmatched x 2 0x7F s
  | [slot] =>
    match s.yard.slots[slot] with
    | none => s
    | some v => exitAction slot v s
  | slot :: _ :: _ => exitUnmatched x 3 slot.val s

/-- A plate sighting that is not reliable (R69, step 2). -/
def lowConfidence (x : Sighting) (s : State) : Bool :=
  match x with
  | .tag _ => false
  | .plate _ confidence => !reliable confidence s

/-- A usable sighting at the exit gate (R69). -/
def exitSighting (x : Sighting) (s : State) : State :=
  if inRecent x s then s
  else if lowConfidence x s then exitUnmatched x 1 0x7F s
  else matchExit x s

/-! ### The pause (R168) -/

/-- The two thresholds of the pause flag applied to the count (R168; log 20). -/
def pauseCheck (s : State) : State :=
  let n := pendingCount s
  if Config.pauseCount ≤ n then
    if s.tally.pause then s
    else notify { kind := .tallyPause, reason := 1, first := n } (setTally { s.tally with pause := true } s)
  else if s.tally.pause then
    let s1 := notify { kind := .tallyPause, reason := 2, first := n } (setTally { s.tally with pause := false } s)
    if s1.clock.fallback then s1 else pauseLifted s1
  else s

/-! ### The page taken and the drain (R162, R167) -/

/-- The page an entry offers becomes the current page (R162). -/
def takePage (addr : Nat) (hostRef : Word) (s : State) : State :=
  let p : Page := { addr := addr, seq := s.tally.pageSeq, used := 32, lines := 0, hostRef := hostRef,
                    firstTime := none, lastTime := none }
  let s1 := placeTold .tally (.line 4) addr (p.header false) s
  let s2 := setTally { s1.tally with page := some p, pageSeq := s1.tally.pageSeq + 1, poolEmptyGiven := false } s1
  serveClosings (drainLines s2.tally.lines s2)

/-- The address lies in the tally span (R162). -/
def inTallySpan (addr : Nat) (s : State) : Bool :=
  s.path.bases.tally ≤ addr && addr < s.path.bases.tally + Config.pageSize * s.path.bases.tallyPages

/-- An invalid pool entry (ALIGN 1, SPAN 2), the pool position already advanced from `at_` (R162). -/
def poolEntryInvalid (reason : Nat) (at_ : Count) (addr : Nat) (s : State) : State :=
  pageSearch (notify { kind := .poolEntryInvalid, reason := reason, first := at_.toNat, second := addr } s)

/-- A pool entry read back is judged (R162). -/
def judgePoolEntry (line : List Byte) (s : State) : State :=
  let entry := line.drop (poolEntryOff s)
  let addr := field 0 4 entry
  let at_ := s.tally.poolPos
  let s1 := setTally { s.tally with poolRead := false, poolPos := s.tally.poolPos + 1 } s
  if addr % Config.pageSize ≠ 0 then poolEntryInvalid 1 at_ addr s1
  else if !inTallySpan addr s1 then poolEntryInvalid 2 at_ addr s1
  else takePage addr (BitVec.ofNat 32 (field 4 4 entry)) s1

end Sys2Proof.Machine
end

