-- ==== Sys2Proof/Machine/Water.lean ====
section
/-! DEFINITION. The Water Unit's answers (chapter 7): tanks, grants, the fresh account, the wait list, the pump queue.
What a grant, a revocation or a settlement does at a bay stands in Bay.lean and Supply.lean. -/

namespace Sys2Proof.Machine

/-! ### Requests (R119, R120, R121) -/

/-- The room of a tank (R119). -/
def room (k : TankId) (s : State) : Nat := s.water.tanks[k].book - owed k s

/-- The better of two tanks: the larger room, the first on a tie (R119). -/
def roomier (s : State) (best : Option TankId) (k : TankId) : Option TankId :=
  match best with
  | none => some k
  | some j => if room j s < room k s then some k else some j

/-- The tank a RECLAIM_OK request is granted from (R119). -/
def chooseTank (litres : Nat) (s : State) : Option TankId :=
  (allTanks.filter (fun k => issuable k s && decide (litres ≤ room k s))).foldl (roomier s) none

/-- A fresh request's answer: granted with the reserve clear or set, or refused (R120). -/
def freshAnswer (litres : Nat) (stageDone : Bool) (s : State) : Option Bool :=
  if freshDrawn s + litres ≤ s.latched.freshAllowance then some false
  else if stageDone && decide (freshDrawn s + litres ≤ s.latched.freshAllowance + s.latched.freshReserve) then
    some true
  else none

/-- The source a request is granted from, with the reserve flag; none when it is refused (R119, R120). -/
def answer (w : WaterClass) (litres : Nat) (stageDone : Bool) (s : State) : Option (Source × Bool) :=
  let fresh := (freshAnswer litres stageDone s).map (fun r => (Source.fresh, r))
  match w with
  | .reclaimOk => match chooseTank litres s with
    | some k => some (.tank k, false)
    | none => fresh
  | .freshOnly => fresh
  | .none => fresh

/-- The next grant number: from 65535 to 1 (R118). -/
def nextGrant (n : Nat) : Nat := if n = 65535 then 1 else n + 1

/-- A grant is entered in its bay's place and on its tank's list (R118, R119); the first grant from the reserve in a
depot day gives ALLOWANCE_RESERVE (R120). -/
def issueGrant (b : BayId) (src : Source) (litres : Nat) (reserve : Bool) (s : State) : State :=
  let n := nextGrant s.water.counter
  let g : Grant := { number := n, source := src, granted := litres, metered := 0, revoked := false,
                     day := s.clock.now.day, reserve := reserve }
  let s1 := { s with water := { s.water with counter := n } }
  let s2 := match src with
    | .tank k => setTank k { s1.water.tanks[k] with grants := s1.water.tanks[k].grants ++ [b] } s1
    | .fresh => s1
    | .none => s1
  let s3 := setGrant b (some g) s2
  if reserve && !s3.water.reserveGiven then
    notify { kind := .allowanceReserve, subject := b.val, first := freshDrawn s3,
             second := s3.latched.freshAllowance }
      { s3 with water := { s3.water with reserveGiven := true } }
  else s3

/-- A refusal: the first in a depot day gives ALLOWANCE_EXHAUSTED (R120). -/
def refuseWater (b : BayId) (litres : Nat) (s : State) : State :=
  if s.water.exhaustedGiven then s
  else notify { kind := .allowanceExhausted, subject := b.val, first := litres, second := freshDrawn s }
    { s with water := { s.water with exhaustedGiven := true } }

/-- A refused request joins the tail of the wait list (R122). -/
def joinWaitList (e : WaitEntry) (s : State) : State :=
  setWater { s.water with waitList := s.water.waitList ++ [e] } s

/-- A bay's request leaves the wait list (R122). -/
def withdraw (b : BayId) (s : State) : State :=
  setWater { s.water with waitList := s.water.waitList.filter (fun e => e.bay != b) } s

/-- A bay's grant leaves its place and its tank's list; a fresh grant is settled into the fresh account (R121, R124). -/
def removeGrant (b : BayId) (g : Grant) (total : Nat) (s : State) : State :=
  let s1 := match g.source with
    | .tank k => setTank k { s.water.tanks[k] with grants := s.water.tanks[k].grants.erase b } s
    | .fresh => { s with water := { s.water with settled := s.water.settled + min total g.granted } }
    | .none => s
  postChangedLines [20] s (setGrant b none s1)

/-! ### The pump queue (R132) -/

/-- A request's place: TREAT before CIRCULATE, within a kind at the tail. -/
def pumpInsert (r : PumpReq) (q : List PumpReq) : List PumpReq :=
  match r.kind with
  | .treat => q.filter (fun x => x.kind == .treat) ++ [r] ++ q.filter (fun x => x.kind != .treat)
  | .circulate => q ++ [r]

/-- A tank's record changed by a function. -/
def setTankWith (k : TankId) (f : Tank → Tank) (s : State) : State := setTank k (f s.water.tanks[k]) s

/-- A request joins the pump queue and sets PUMP_PENDING (R132). -/
def joinPump (k : TankId) (kind : PumpKind) (s : State) : State :=
  let s1 := setTankWith k (fun t => { t with pumpPending := true }) s
  setWater { s1.water with pumpQueue := pumpInsert { tank := k, kind := kind, joined := s1.clock.now }
                                          s1.water.pumpQueue } s1

/-- The first request whose tank has no grant awaiting settlement (R132). -/
def sendable (s : State) : Option PumpReq :=
  s.water.pumpQueue.find? (fun r => s.water.tanks[r.tank].grants.isEmpty)

/-- A request is sent as a run (R132). -/
def sendPump (r : PumpReq) (s : State) : State :=
  let s1 := setTankWith r.tank (fun t => { t with pumpPending := false, pumpRunning := true }) s
  let s2 := setWater { s1.water with pumpQueue := s1.water.pumpQueue.erase r, run := some r,
                                     pumpTimer := some (s1.latched.pumpTimeout * 60) } s1
  offer plantPort (pumpRunFrame r.tank r.kind) s2

/-- The Water Unit looks for a request to send (R132). -/
def pumpLook (s : State) : State :=
  if s.water.run.isNone && linkUp plantPort s && s.exch.part == .running then
    match sendable s with
    | none => s
    | some r => sendPump r s
  else s

end Sys2Proof.Machine
end

