-- ==== Sys2Proof/Machine/Bay.lean ====
section
/-! DEFINITION. The Bay Unit's sessions (chapter 6): their start, their stage parts, their end. Metering and settlement
stand in Supply.lean, after the Water Unit's retry. -/

namespace Sys2Proof.Machine

/-- The current stage of a session (R99). -/
def Session.stage (x : Session) : Option StageRun := x.stages[x.current]?

/-- Seconds remaining in a stage (R100). -/
def StageRun.remaining (r : StageRun) : Nat := r.stage.duration - r.elapsed

/-- Detergent of a stage (R102). -/
def StageRun.detergent (r : StageRun) : Nat := ceilDiv (r.stage.rate * r.elapsed) 60

/-- Detergent of the stage a session ends in: reckoned once, so not for a stage already complete (R102). -/
def endDetergent (x : Session) : Nat :=
  match x.stage with
  | none => 0
  | some r => if r.complete then 0 else r.detergent

/-- The session summary (R107). -/
def summaryOf (x : Session) (abort : Option AbortReason) : Summary :=
  { completed := x.completed, total := x.stages.length, fresh := x.fresh, reclaim := x.reclaim,
    detergent := x.detergent + endDetergent x, overrun := x.overrun, abort := abort }

/-- The bay after a session: FAULT or CLOSED for a lost port (R110), else by presence (R107). -/
def bayAfter (abort : Option AbortReason) (x : Bay) : Bay :=
  let y := { x with bound := none, session := none, timer := none, lastTag := none }
  if abort = some .portLost then faultOrClosed y
  else if y.presence = .on then { y with state := .clearing }
  else freeOrClosed y

/-- The visit's side of a session's end (R79, R107). -/
def visitAfter (abort : Option AbortReason) (x : Session) (v : Visit) : Visit :=
  { v with state := .washed, outcome := some (if abort = none then .complete else .aborted),
           summary := some (summaryOf x abort) }

/-- A bay that has become FREE starts an arbiter run (R83). -/
def arbiterIfFree (b : BayId) (s : State) : State := if s.bays[b].state = .free then arbiter s else s

/-- A session ends; an abort reason makes the outcome ABORTED (R107). -/
def endSession (b : BayId) (abort : Option AbortReason) (s : State) : State :=
  match s.bays[b].session with
  | none => s
  | some x =>
    let s1 := setBayWith b (bayAfter abort) s
    let s2 := match s.yard.slots[x.slot] with
      | none => s1
      | some v => setVisit x.slot (some (visitAfter abort x v)) s1
    let s3 := match abort with
      | none => s2
      | some r => notify { kind := .sessionAborted, reason := r.code, subject := b.val, first := x.serial.toNat,
                           second := x.completed } s2
    arbiterIfFree b s3

/-- A session's record changed by a function. -/
def Bay.withSession (f : Session → Session) (x : Bay) : Bay :=
  match x.session with
  | none => x
  | some ses => { x with session := some (f ses) }

/-- The flow STAGE_START gives: 0 for a stage of class NONE (R92, R100). -/
def StageRun.flow (r : StageRun) : Nat := if r.stage.water = .none then 0 else r.stage.flow

/-- A part runs: the current part is set, STAGE_START offered, the stage timer started, the bay RUNNING (R100). -/
def runPart (b : BayId) (r : StageRun) (p : Part) (s : State) : State :=
  let s1 := setBayWith b (fun x => { x.withSession (fun ses => { ses with part := some p }) with
    state := .running, timer := some r.remaining }) s
  offer (bayPort b) (stageStartFrame r.stage.kind p.source r.flow p.granted) s1

/-- The part a grant starts: the grant in the bay's place (R100). -/
def partOfGrant (b : BayId) (s : State) : Part :=
  match s.water.grants[b] with
  | none => { grant := none, source := .none, granted := 0, last := 0, revoked := false }
  | some g => { grant := some g.number, source := g.source, granted := g.granted, last := 0, revoked := false }

/-- A part with no grant, for a stage of class NONE (R100). -/
def dryPart : Part := { grant := none, source := .none, granted := 0, last := 0, revoked := false }

/-- The litres a stage asks for (R100). -/
def StageRun.litres (r : StageRun) : Nat := ceilDiv (r.stage.flow * r.remaining) 60

/-- The bay asks for water: a grant starts the part, a refusal leaves the bay WAITING_WATER (R100, R119, R122). -/
def askWater (b : BayId) (x : Session) (r : StageRun) (s : State) : State :=
  let stageDone := decide (0 < x.completed)
  match answer r.stage.water r.litres stageDone s with
  | some (src, reserve) =>
    let s1 := issueGrant b src r.litres reserve s
    runPart b r (partOfGrant b s1) s1
  | none =>
    let s1 := joinWaitList { bay := b, water := r.stage.water, litres := r.litres, stageDone := stageDone }
      (refuseWater b r.litres s)
    setBayWith b (fun y => { y with state := .waitingWater, timer := none }) s1

/-- A stage part is started (R100). -/
def startPart (b : BayId) (s : State) : State :=
  match s.bays[b].session with
  | none => s
  | some x =>
    if s.clock.fallback then endSession b (some .fallback) s
    else
      match x.stage with
      | none => s
      | some r => if r.stage.water = .none then runPart b r dryPart s else askWater b x r s

/-- The session record at session start (R99). -/
def newSession (slot : Slot) (v : Visit) (stages : List Stage) : Session :=
  { slot := slot, serial := v.serial, programme := v.programme.getD 0,
    stages := stages.map (fun st => { stage := st, elapsed := 0, short := false, complete := false }),
    current := 0, part := none, completed := 0, fresh := 0, reclaim := 0, overrun := 0, detergent := 0,
    abort := none }

/-- A session starts (R96, R99). -/
def startSession (b : BayId) (slot : Slot) (v : Visit) (s : State) : State :=
  let s1 := setVisit slot (some { v with state := .washing, callTimer := none }) s
  match v.programme.bind (lookup s.table.programmes) with
  | none =>
    endSession b (some .noProgramme)
      (setBayWith b (fun x => { x with session := some (newSession slot v []), lastTag := none }) s1)
  | some p =>
    startPart b
      (setBayWith b (fun x => { x with session := some (newSession slot v p.stages), lastTag := none }) s1)

/-- A running part is told to stop: timer stopped, STAGE_STOP offered, SETTLING (R102, R106, R108, R109). -/
def stopPart (b : BayId) (s : State) : State :=
  offer (bayPort b) stageStopFrame (setBayWith b (fun x => { x with state := .settling, timer := none }) s)

/-- An abort becomes pending unless one is (R108, R109). -/
def pendAbort (r : AbortReason) (x : Session) : Session := { x with abort := some (x.abort.getD r) }

/-- An abort by order or by the truck leaving, by the bay's state (R108, R109). -/
def abortBay (b : BayId) (r : AbortReason) (s : State) : State :=
  match s.bays[b].state with
  | .waitingWater => endSession b (some r) (withdraw b s)
  | .running => stopPart b (setBayWith b (Bay.withSession (pendAbort r)) s)
  | .settling => setBayWith b (Bay.withSession (pendAbort r)) s
  | .closed => s
  | .free => s
  | .calling => s
  | .clearing => s
  | .fault => s

/-- A bay acts on the fallback flag being set (R111). -/
def bayFallback (b : BayId) (s : State) : State :=
  match s.bays[b].state with
  | .calling =>
    match s.bays[b].bound.bind (fun slot => (s.yard.slots[slot]).map (fun v => (slot, v))) with
    | none => s
    | some (slot, v) => withdrawCall slot v 2 (endCallAtBay b s)
  | .waitingWater => endSession b (some .fallback) (withdraw b s)
  | .running => s
  | .settling => s
  | .closed => s
  | .free => s
  | .clearing => s
  | .fault => s

end Sys2Proof.Machine
end

