-- ==== Sys2Proof/Machine/Supply.lean ====
section
/-! DEFINITION. Where water and bays meet: the retry (R123), revocation (R106, R125), meter reports and settlements
(R124), the pump's runs (R133), and the settling of a stage part (R103 to R105). -/

namespace Sys2Proof.Machine

/-! ### The retry (R101, R123) -/

/-- A bay takes a grant made on a retry; with the fallback flag set it hands the grant back as settled with 0 litres and
its session ends (R101; log 29). -/
def takeRetried (b : BayId) (s : State) : State :=
  match s.bays[b].session.bind Session.stage with
  | none => s
  | some r =>
    if s.clock.fallback then
      match s.water.grants[b] with
      | none => s
      | some g => endSession b (some .fallback) (removeGrant b g 0 s)
    else runPart b r (partOfGrant b s) s

/-- One entry judged as a new request; still refused, it keeps its place (R123). -/
def retryEntry (e : WaitEntry) (s : State) : State :=
  match answer e.water e.litres e.stageDone s with
  | some (src, reserve) => takeRetried e.bay (issueGrant e.bay src e.litres reserve (withdraw e.bay s))
  | none => refuseWater e.bay e.litres s

/-- The entries in order (R123). -/
def retryEntries : List WaitEntry → State → State
  | [], s => s
  | e :: es, s => retryEntries es (retryEntry e s)

/-- The wait list is retried (R123). -/
def retry (s : State) : State := retryEntries s.water.waitList s

/-! ### Revocation (R106, R125) -/

/-- The bay is told of a revocation (R106). -/
def bayRevoked (b : BayId) (s : State) : State :=
  let s1 := setBayWith b (Bay.withSession (fun x =>
    { x with part := x.part.map (fun p => { p with revoked := true }) })) s
  if s1.bays[b].state = .running then stopPart b s1 else s1

/-- A grant is revoked: the bay is told, GRANT_REVOKED asked for (SHORTFALL 1, FAILED 2; R125, R128). -/
def revokeGrant (b : BayId) (g : Grant) (k : TankId) (reason : Nat) (s : State) : State :=
  notify { kind := .grantRevoked, reason := reason, subject := b.val, first := g.number, second := k.val }
    (bayRevoked b (setGrant b (some { g with revoked := true }) s))

/-- The grant in a bay's place, when it is active and from the tank. -/
def activeFrom (b : BayId) (k : TankId) (s : State) : Option Grant :=
  s.water.grants[b].filter (fun g => g.source == .tank k && !g.revoked)

/-- Revocation over the tank's grants, newest first: while owed litres exceed the book level, or of every grant (R125,
R128). -/
def revokeEach (k : TankId) (all : Bool) (reason : Nat) : List BayId → State → State
  | [], s => s
  | b :: bs, s =>
    if all || decide (s.water.tanks[k].book < owed k s) then
      match activeFrom b k s with
      | none => revokeEach k all reason bs s
      | some g => revokeEach k all reason bs (revokeGrant b g k reason s)
    else s

/-- A tank's shortfall met by revocation; any revocation is a water change (R123, R125; log 30). -/
def meetShortfall (k : TankId) (s : State) : State :=
  if s.water.tanks[k].book < owed k s then
    retry (revokeEach k false 1 s.water.tanks[k].grants.reverse s)
  else s

/-- Every active grant on a FAILED tank is revoked (R128; log 30). -/
def revokeAll (k : TankId) (s : State) : State :=
  if s.water.tanks[k].grants.any (fun b => (activeFrom b k s).isSome) then
    retry (revokeEach k true 2 s.water.tanks[k].grants.reverse s)
  else s

/-! ### Reports and settlements (R124) -/

/-- The grant in a bay's place, when it has the number given. -/
def grantNumbered (b : BayId) (number : Nat) (s : State) : Option Grant :=
  s.water.grants[b].filter (fun g => g.number == number)

/-- A metered increase against a grant (R124). -/
def reportMeter (b : BayId) (number x : Nat) (s : State) : State :=
  match grantNumbered b number s with
  | none => s
  | some g =>
    let s1 := setGrant b (some { g with metered := g.metered + x }) s
    match g.source with
    | .tank k => meetShortfall k (setTankWith k (fun t => { t with book := t.book - x }) s1)
    | .fresh => s1
    | .none => s1

/-- A settlement (R124): the grant leaves, the wait list is retried, the pump queue is looked at. -/
def settleGrant (b : BayId) (number total : Nat) (s : State) : State :=
  match grantNumbered b number s with
  | none => s
  | some g => pumpLook (retry (removeGrant b g total s))

/-! ### A part's meter and settlement (R103, R104, R105) -/

/-- Litres of a pulse count (R103). -/
def litresOf (pulses : Nat) (b : BayId) (s : State) : Nat :=
  if s.latched.bays[b].pulses = 0 then 0 else pulses * 10 / s.latched.bays[b].pulses

/-- METER_INVALID (REGRESSED 1, UNGRANTED 2, UNEXPECTED 3; R103, R181). -/
def meterInvalid (b : BayId) (reason first second : Nat) (s : State) : State :=
  notify { kind := .meterInvalid, reason := reason, subject := b.val, first := first, second := second } s

/-- The current part of a bay. -/
def partOf (b : BayId) (s : State) : Option Part := s.bays[b].session.bind (fun x => x.part)

/-- Last metered litres set; litres of a part with no grant added to the overrun (R103). -/
def noteLitres (l overrun : Nat) (x : Session) : Session :=
  { x with part := x.part.map (fun p => { p with last := l }), overrun := x.overrun + overrun }

/-- A meter reading of a part with no grant (R103): the first increase gives METER_INVALID UNGRANTED, with the litres read
and the litres the part had kept before them (R181; log 50). -/
def dryMeter (b : BayId) (p : Part) (l : Nat) (s : State) : State :=
  let s1 := setBayWith b (Bay.withSession (noteLitres l (l - p.last))) s
  if p.last = 0 then meterInvalid b 2 l p.last s1 else s1

/-- A METER's litres read against the current part (R103). -/
def applyMeter (b : BayId) (l : Nat) (s : State) : State :=
  match partOf b s with
  | none => s
  | some p =>
    if p.last < l then
      match p.grant with
      | none => dryMeter b p l s
      | some n => reportMeter b n (l - p.last) (setBayWith b (Bay.withSession (noteLitres l 0)) s)
    else if l < p.last then meterInvalid b 1 l p.last s
    else s

/-- A session's totals with its part settled, the part gone (R105). -/
def settleTotals (p : Part) (x : Session) : Session :=
  { x with part := none,
           overrun := x.overrun + (if p.grant.isSome then p.last - p.granted else 0),
           fresh := x.fresh + (if p.source = .fresh then p.last else 0),
           reclaim := x.reclaim + (match p.source with | .tank _ => p.last | .fresh => 0 | .none => 0) }

/-- The current stage completed, when it ended SHORT or has run its duration (R102, R104, R105). -/
def completeStage (short : Bool) (x : Session) : Session :=
  match x.stage with
  | none => x
  | some r =>
    if short || r.elapsed == r.stage.duration then
      { x with stages := x.stages.set x.current { r with short := short, complete := true },
               completed := x.completed + 1, detergent := x.detergent + r.detergent }
    else x

/-- The current stage is complete. -/
def stageComplete (x : Session) : Bool :=
  match x.stage with
  | none => false
  | some r => r.complete

/-- What follows a settled part (R105): its table, taking the first line that applies. -/
def afterSettling (b : BayId) (s : State) : State :=
  match s.bays[b].session with
  | none => s
  | some x =>
    if stageComplete x then
      if x.current + 1 = x.stages.length then endSession b none s
      else if x.abort.isSome then endSession b x.abort s
      else startPart b (setBayWith b (Bay.withSession (fun y => { y with current := y.current + 1 })) s)
    else if x.abort.isSome then endSession b x.abort s
    else startPart b s

/-- The settlement handed to the Water Unit, for a part with a grant (R105). -/
def handSettlement (b : BayId) (p : Part) (s : State) : State :=
  match p.grant with
  | none => s
  | some n => settleGrant b n p.last s

/-- The current part is settled and the session goes on (R104, R105). -/
def settlePart (b : BayId) (short : Bool) (s : State) : State :=
  match partOf b s with
  | none => s
  | some p =>
    let s1 := setBayWith b (fun x =>
      { x.withSession (fun y => completeStage short (settleTotals p y)) with timer := none }) s
    afterSettling b (handSettlement b p s1)

/-- STATION_STOPPED (R104): the stage number and its elapsed seconds. -/
def stationStopped (b : BayId) (s : State) : State :=
  match s.bays[b].session with
  | none => s
  | some x =>
    notify { kind := .stationStopped, subject := b.val, first := x.current,
             second := match x.stage with | none => 0 | some r => r.elapsed } s

/-- A FINAL METER in RUNNING (R104). -/
def finalInRunning (b : BayId) (l : Nat) (cap : Bool) (s : State) : State :=
  let s1 := applyMeter b l (setBayWith b (fun x => { x with timer := none }) s)
  settlePart b true (if cap then s1 else stationStopped b s1)

/-- A METER with no part in flight (R103): UNEXPECTED, with the bay state; nothing is kept, and the second word is 0 (log
50). -/
def meterUnexpected (b : BayId) (s : State) : State := meterInvalid b 3 s.bays[b].state.code 0 s

/-- A METER frame taken by a bay (R103, R104, R105). -/
def meterFrame (b : BayId) (payload : List Byte) (s : State) : State :=
  let l := litresOf (field 0 4 payload) b s
  let final := field 4 1 payload % 2 == 1
  let cap := field 4 1 payload / 2 % 2 == 1
  match s.bays[b].state with
  | .running => if final then finalInRunning b l cap s else applyMeter b l s
  | .settling => if final then settlePart b false (applyMeter b l s) else applyMeter b l s
  | .closed => meterUnexpected b s
  | .free => meterUnexpected b s
  | .calling => meterUnexpected b s
  | .waitingWater => meterUnexpected b s
  | .clearing => meterUnexpected b s
  | .fault => meterUnexpected b s

/-! ### A bay's port lost (R110) -/

/-- A part in flight settled at its last metered litres, and the session ended PORT_LOST; its stage is not counted as
completed, though it may have run its full duration (R110; log 56). -/
def portLostPart (b : BayId) (s : State) : State :=
  match partOf b s with
  | none => endSession b (some .portLost) s
  | some p =>
    let s1 := setBayWith b (fun x => { x.withSession (settleTotals p) with timer := none }) s
    endSession b (some .portLost) (handSettlement b p s1)

/-- The call of a bay whose port is lost (R87, R110). -/
def portLostCall (b : BayId) (s : State) : State :=
  let s1 := setBayWith b (fun x => { faultOrClosed x with bound := none }) s
  match s.bays[b].bound.bind (fun slot => (s.yard.slots[slot]).map (fun v => (slot, v))) with
  | none => s1
  | some (slot, v) => withdrawCall slot v 1 s1

/-- A bay's port has gone down (R94, R110). -/
def bayLost (b : BayId) (s : State) : State :=
  let s1 := setBayWith b (fun x => { x with presence := .unknown, lastTag := none }) s
  match s1.bays[b].state with
  | .calling => portLostCall b s1
  | .waitingWater => endSession b (some .portLost) (withdraw b s1)
  | .running => portLostPart b s1
  | .settling => portLostPart b s1
  | .clearing => setBayWith b faultOrClosed s1
  | .free => s1
  | .closed => s1
  | .fault => s1

/-- A bay's port has come up (R94). -/
def bayUp (b : BayId) (s : State) : State := arbiterIfFree b s

/-! ### Pump runs (R133, R135) -/

/-- A failed run (FAIL 1, TIMEOUT 2, PORT_LOST 3; R133). -/
def failRun (cause : Nat) (s : State) : State :=
  match s.water.run with
  | none => s
  | some r =>
    let s1 := setWater { s.water with run := none, pumpTimer := none } s
    let s2 := joinPump r.tank r.kind (setTankWith r.tank (fun t => { t with pumpRunning := false }) s1)
    let s3 := notify { kind := .pumpFailed, reason := cause, subject := r.tank.val, first := r.kind.code } s2
    pumpLook (retry s3)

/-- A completed run (R133): age 0, STALE and PUMP_RUNNING clear, quality UNCERTAIN. A threshold that the age had reached and
whose row has not been taken is forgotten with the age (R131; log 3). -/
def finishRun (r : PumpReq) (s : State) : State :=
  let s1 := setWater { s.water with run := none, pumpTimer := none } s
  let s2 := setTankWith r.tank (fun t =>
    { t with pumpRunning := false, stale := false, age := 0, quality := .uncertain, circulationDue := false,
             staleDue := false }) s1
  pumpLook (retry s2)

/-- A tank's quality at the loss of the plant port (R135): TANK_QUALITY on a change, its value words open (log 14). -/
def tankLost (k : TankId) (s : State) : State :=
  if tankFitted k s && s.water.tanks[k].quality != .uncertain then
    let s1 := setTankWith k (fun t => { t with quality := .uncertain }) s
    drawn (drawn (notify { kind := .tankQuality, reason := Quality.uncertain.code, subject := k.val,
                           first := freeValue s1, second := freeValue (drawn s1) } s1))
  else s

/-- The plant port has gone down (R135). -/
def plantLost (s : State) : State := failRun 3 (allTanks.foldl (fun acc k => tankLost k acc) s)

/-- The plant port has come up (R135): a request is looked for. -/
def plantUp (s : State) : State := pumpLook s

end Sys2Proof.Machine
end

