-- ==== Sys2Proof/Machine/Table.lean ====
section
/-! DEFINITION. The Table Unit's shared operations (chapter 8): the tests of R139 and R140, the edit window, the verdict
on a guarded write, a commit's outcome. -/

namespace Sys2Proof.Machine

/-! ### The tests against the copies (R140) -/

/-- The entry is the tag, or the plate, of another committed vehicle. -/
def duplicate (i : Nat) (v : Vehicle) (s : State) : Bool :=
  s.table.vehicles.any (fun e => e.1 != i &&
    ((v.tag != 0 && e.2.tag == v.tag) || (v.plate.isSome && e.2.plate == v.plate)))

/-- The tests of a present entry, at loading and at commit (R140). -/
def presentTest (i : Nat) (x : Entry) (s : State) : Option EntryReason :=
  match x with
  | .vehicle v =>
    if duplicate i v s then some .duplicate
    else if (lookup s.table.accounts v.account.val).isNone || (lookup s.table.programmes v.programme).isNone then
      some .missing
    else none
  | .account a => if (lookup s.table.tariffs a.tariff).isNone then some .missing else none
  | .programme _ => none
  | .tariff _ => none

/-- Some visit that is not free satisfies a test. -/
def anyVisit (want : Visit → Bool) (s : State) : Bool :=
  s.yard.slots.toList.any (fun x => match x with | none => false | some v => want v)

/-- An entry declared absent at a commit is still depended on (R140). -/
def referenced (t : TableId) (i : Nat) (s : State) : Bool :=
  match t with
  | .vehicles => false
  | .accounts => s.table.vehicles.any (fun e => e.2.account.val == i)
      || anyVisit (fun v => match v.account with | none => false | some a => a.val == i) s
  | .programmes => s.table.vehicles.any (fun e => e.2.programme == i)
  | .tariffs => s.table.accounts.any (fun e => e.2.tariff == i)

/-- The tests at commit (R140): the reason of the first that fails. -/
def commitTest (t : TableId) (i : Nat) (x : Option Entry) (s : State) : Option EntryReason :=
  if t = .vehicles ∧ anyVisit (fun v => v.vehicle == some i) s then some .openVisit
  else
    match x with
    | some e => presentTest i e s
    | none => if referenced t i s then some .referenced else none

/-- An entry judged at loading (R139, R140, R141). -/
def judgeLoad (t : TableId) (i : Nat) (bytes : List Byte) (s : State) : Except EntryReason (Option Entry) :=
  match judgeEntry t bytes with
  | .error r => .error r
  | .ok none => .ok none
  | .ok (some e) => match presentTest i e s with
    | some r => .error r
    | none => .ok (some e)

/-- An entry judged at commit (R139, R140, R147). -/
def judgeCommit (t : TableId) (i : Nat) (bytes : List Byte) (s : State) : Except EntryReason (Option Entry) :=
  match judgeEntry t bytes with
  | .error r => .error r
  | .ok x => match commitTest t i x s with
    | some r => .error r
    | none => .ok x

/-- The content of an entry for its own table's copy. -/
def Entry.toVehicle : Entry → Option Vehicle
  | .vehicle x => some x
  | .account _ => none
  | .programme _ => none
  | .tariff _ => none
def Entry.toAccount : Entry → Option Account
  | .account x => some x
  | .vehicle _ => none
  | .programme _ => none
  | .tariff _ => none
def Entry.toProgramme : Entry → Option Programme
  | .programme x => some x
  | .vehicle _ => none
  | .account _ => none
  | .tariff _ => none
def Entry.toTariff : Entry → Option Tariff
  | .tariff x => some x
  | .vehicle _ => none
  | .account _ => none
  | .programme _ => none

/-- The internal copy of an index replaced: present or absent (R138). -/
def storeEntry (t : TableId) (i : Nat) (x : Option Entry) (s : State) : State :=
  match t with
  | .vehicles => { s with table := { s.table with vehicles := store s.table.vehicles i (x.bind Entry.toVehicle) } }
  | .accounts => { s with table := { s.table with accounts := store s.table.accounts i (x.bind Entry.toAccount) } }
  | .programmes =>
    { s with table := { s.table with programmes := store s.table.programmes i (x.bind Entry.toProgramme) } }
  | .tariffs => { s with table := { s.table with tariffs := store s.table.tariffs i (x.bind Entry.toTariff) } }

/-! ### The edit window (R142, R143) -/

/-- EDIT_WINDOW (OPENED 1, LOCKOUT 2, CLOSED 3, EXPIRED 4, FALLBACK 5, STOPPING 6; R181). -/
def editWindow (reason : Nat) (t : TableId) (s : State) : State :=
  notify { kind := .editWindow, reason := reason, subject := t.code } s

/-- The lowest index on the touched list. -/
def lowestTouched : List Nat → Nat
  | [] => 0
  | [i] => i
  | i :: is => min i (lowestTouched is)

/-- The window leaves OPEN: its notice, and EDIT_INCOMPLETE when entries are still touched (R142, R143). -/
def leaveOpen (t : TableId) (w : Window) (lockout : Option Nat) (reason : Nat) (s : State) : State :=
  let touched := s.table.touched
  let s1 := editWindow reason t
    (setTable { s.table with window := w, lifetime := none, lockout := lockout, touched := [] } s)
  if touched.isEmpty then s1
  else notify { kind := .editIncomplete, subject := t.code, first := touched.length,
                second := lowestTouched touched } s1

/-- LOCKOUT entered from PRIMED, and restarted (R142). -/
def lockoutTimer : Option Nat := some Config.lockoutSeconds

/-- A value handed from EDIT KEY, by the window's state (R142). -/
def editKey (key : Handed) (s : State) : State :=
  match s.table.window with
  | .shut =>
    match key with
    | .openFirst t => setTable { s.table with window := .primed t } s
    | _ => s
  | .primed t =>
    if key = .openSecond t then
      editWindow 1 t (setTable { s.table with
        window := .opened t, lifetime := some s.latched.editLifetime, touched := [],
        refusedTouched := false, refusedTally := false } s)
    else editWindow 2 t (setTable { s.table with window := .lockout, lockout := lockoutTimer } s)
  | .opened t =>
    if key = .closeWindow then leaveOpen t .shut none 3 s else leaveOpen t .lockout lockoutTimer 2 s
  | .lockout => setTable { s.table with lockout := lockoutTimer } s

/-- EDIT KEY values are acted on in RUNNING with the fallback flag clear (R142). -/
def editKeyActed (key : Handed) (s : State) : State :=
  if s.exch.part = .running ∧ s.clock.fallback = false then editKey key s else s

/-- The window shut without a notice. -/
def shutWindow (s : State) : State :=
  setTable { s.table with window := .shut, lifetime := none, lockout := none } s

/-- The open window's lifetime has run out (R143). -/
def lifetimeOver (s : State) : Option TableId :=
  match s.table.window with
  | .opened t => if s.table.lifetime = some 0 then some t else none
  | .primed _ => none
  | .lockout => none
  | .shut => none

/-- LOCKOUT's time has run out (R143). -/
def lockoutOver (s : State) : Bool := s.table.window == .lockout && s.table.lockout == some 0

/-- The window's lifetime ends (R143). -/
def tableExpired (s : State) : State :=
  match lifetimeOver s with
  | none => s
  | some t => leaveOpen t .shut none 4 s

/-- The fallback flag is set (R143), at once or when the unit can take it (`tellTable`; log 10). -/
def tableFallback (s : State) : State :=
  match s.table.window with
  | .opened t => leaveOpen t .shut none 5 s
  | .primed _ => shutWindow s
  | .lockout => shutWindow s
  | .shut => s

/-- The part enters STOPPING (R143), at once or when the unit can take it (`tellTable`; log 10). -/
def tableStopping (s : State) : State :=
  match s.table.window with
  | .opened t => leaveOpen t .shut none 6 s
  | .primed _ => shutWindow s
  | .lockout => s
  | .shut => s

/-- What the Table Unit does at something it is told (R143). -/
def tableTold (e : Told) (s : State) : State :=
  match e with
  | .lifetime => tableExpired s
  | .fallback => tableFallback s
  | .stopping => tableStopping s
  | .windowHalted => shutWindow s
  | .lockout => if lockoutOver s then shutWindow s else s
  | .pageHalted => s

/-- What the Table Unit is told of stands for it already. -/
def toldAlready (e : Told) (s : State) : Bool := s.path.arrived.any (fun a => a.event == .told e)

/-- An expiry that the Table Unit cannot take at once waits, once (R14, R143). -/
def leaveExpiry (e : Told) (s : State) : State := if toldAlready e s then s else reach (.told e) s

/-- A lifetime that has run out and waits for the unit, before what the unit is told next (R14, R143). -/
def leaveLifetime (s : State) : State := if (lifetimeOver s).isSome then leaveExpiry .lifetime s else s

/-- The Table Unit is told: it acts at once, or in its turn (R14, R143). The window stands until then, and a write that
arrives meanwhile is judged by it as it stands (R8; log 10). -/
def tellTable (e : Told) (s : State) : State :=
  if busy .table s then reach (.told e) (leaveLifetime s) else tableTold e s

/-! ### Writes into a guarded table (R144, R145) -/

/-- There is room for the entry on the touched list (R144). -/
def touchedRoom (entry : Nat) (s : State) : Bool :=
  s.table.touched.contains entry || decide (s.table.touched.length < Config.touchedPlaces)

/-- The verdict on a guarded write: forward (R144). -/
def guardedForward (t : TableId) (entry : Nat) (s : State) : Bool :=
  s.table.window == .opened t && touchedRoom entry s && !tallyFull s

/-- EDIT_REFUSED (TOUCHED_FULL 1, TALLY_FULL 2), once per reason and opening (R145). -/
def editRefused (t : TableId) (entry : Nat) (s : State) : State :=
  if s.table.window = .opened t then
    if touchedRoom entry s then
      if s.table.refusedTally then s
      else notify { kind := .editRefused, reason := 2, subject := t.code, first := entry,
                    second := s.table.touched.length }
        { s with table := { s.table with refusedTally := true } }
    else if s.table.refusedTouched then s
    else notify { kind := .editRefused, reason := 1, subject := t.code, first := entry,
                  second := s.table.touched.length }
      { s with table := { s.table with refusedTouched := true } }
  else s

/-- A forwarded guarded write: the entry is touched; a commit write takes its entry off the list and a reservation of one
line (R144). -/
def guardedTouch (entry : Nat) (commit : Bool) (s : State) : State :=
  if commit then
    setTally { s.tally with reservations := s.tally.reservations + 1 }
      (setTable { s.table with touched := s.table.touched.erase entry } s)
  else if s.table.touched.contains entry then s
  else setTable { s.table with touched := s.table.touched ++ [entry] } s

/-! ### Commits (R146, R147, R148) -/

/-- Lines of an entry's readback (section 8.1). -/
def TableId.readbackLines : TableId → Nat
  | .vehicles => 1 | .accounts => 1 | .programmes => 4 | .tariffs => 4

/-- A commit is handed: its readback is issued (R17, R146). -/
def handCommit (t : TableId) (entry : Nat) (s : State) : State :=
  present .table (.read (.readback t entry) (s.path.bases.table t + t.entrySize * entry) t.readbackLines)
    { s with table := { s.table with commits := s.table.commits ++ [(t, entry)] } }

/-- The credit limit of an account's copy; an absent entry has none (R152). -/
def limitOf (a : AccountId) (s : State) : Option Nat := (accountEntry a s).map (fun e => e.limit)

/-- The limit has risen (R66). -/
def limitRose (old new : Option Nat) : Bool :=
  match old, new with
  | some o, some n => o < n
  | _, _ => false

/-- The neighbours of an accepted account entry are told (R147, R152). -/
def tellAccount (i : Nat) (before after : State) : State :=
  match accountOf i with
  | none => after
  | some a =>
    let old := limitOf a before
    let new := limitOf a after
    if old = new then after
    else
      let s1 := creditTest a after
      if limitRose old new then creditEased a s1 else s1

/-- An accepted entry replaces the copy, and the neighbours are told (R147). -/
def acceptEntry (t : TableId) (i : Nat) (x : Option Entry) (s : State) : State :=
  let s1 := storeEntry t i x s
  match t with
  | .vehicles => updateIndex i (x.bind Entry.toVehicle) s1
  | .accounts => tellAccount i s s1
  | .programmes => arbiter s1
  | .tariffs => s1

/-- A commit's readback is validated and its EDIT line composed (R147, R148): ACCEPTED_PRESENT 1, ACCEPTED_ABSENT 2,
REJECTED 3. -/
def finishCommit (t : TableId) (i : Nat) (bytes : List Byte) (s : State) : State :=
  let s1 := { s with table := { s.table with commits := s.table.commits.erase (t, i) } }
  match judgeCommit t i bytes s1 with
  | .ok (some e) => composeEdit t i 1 0 (checksum bytes) (acceptEntry t i (some e) s1)
  | .ok none => composeEdit t i 2 0 (checksum bytes) (acceptEntry t i none s1)
  | .error r => composeEdit t i 3 r.code (checksum bytes) s1

end Sys2Proof.Machine
end

