-- ==== Sys2Proof/Machine/Conclude.lean ====
section
/-! DEFINITION. What ends an event: the pause (R168), the role units told of ports lost within the event (R43), and the
wind-down test with entry into HALTED (R28). -/

namespace Sys2Proof.Machine

/-! ### Ports lost within an event (R43) -/

/-- The role unit's own rule for a lost port (R55, R69, R110, R135). -/
def roleLost (p : PortId) (s : State) : State :=
  if p = entryPort then entryLost s
  else if p = exitPort then exitLost s
  else if p = plantPort then plantLost s
  else if h : 2 ≤ p.val ∧ p.val < 10 then bayLost ⟨p.val - 2, by omega⟩ s
  else s

/-- The role unit is told that a port has come up (R42, R55, R69, R94, R135). -/
def roleUp (p : PortId) (s : State) : State :=
  if p = entryPort then entryUp s
  else if p = exitPort then exitUp s
  else if p = plantPort then plantUp s
  else if h : 2 ≤ p.val ∧ p.val < 10 then bayUp ⟨p.val - 2, by omega⟩ s
  else s

/-- The ports that are UP. -/
def upPorts (s : State) : List PortId := allPorts.filter (fun p => linkUp p s)

/-- Ports that were UP and are UP no longer: each role unit is told once, the lowest port first (R43; log 20). -/
def settlePorts : Nat → List PortId → State → State
  | 0, _, s => s
  | n + 1, ups, s =>
    match ups.find? (fun p => !linkUp p s) with
    | none => s
    | some p => settlePorts n (ups.erase p) (roleLost p s)

/-- Role units are told in RUNNING and STOPPING (R43). -/
def settleLost (ups : List PortId) (s : State) : State := if working s then settlePorts 11 ups s else s

/-! ### HALTED (R28, R43, R164, R171, R175, R176) -/

/-- Every UP port goes DOWN with reason HALTED, unposted (R43, R44, R52; log 18). -/
def haltPort (x : Port) : Port := if x.link = .up then downRecord x .halted else x

/-- The monitor returns to IDLE unless LAPSED (R176). -/
def monitorHalted (c : ClockUnit) : ClockUnit :=
  if c.monitor = .lapsed then { c with running := false }
  else { c with running := false, monitor := .idle, countdown := none }

/-- The part enters HALTED (R28), an event of the Exchange Unit's own: its notice is placed before what others asked for in
the same step and the unit has not taken (R33; log 54). The Bay Unit is not told of its ports (R43, R110), and each bay's
presence stays as last recorded (R94; log 58). -/
def enterHalted (s : State) : State :=
  let s1 := notifyNow { kind := .halted } s
  let s2 := refreshNow (.line 0) { s1 with exch := { s1.exch with part := .halted } }
  let s3 := { s2 with ports := mapVec haltPort s2.ports, clock := monitorHalted s2.clock,
                      gate := { s2.gate with entry := .down, pair := none, outcome := none, timer := none,
                                             exitReady := false, recent := [] } }
  postLine 2 (tellPage (tellTable .windowHalted s3))

/-- The wind-down condition in STOPPING (R28). -/
def windDownMet (s : State) : Bool :=
  s.exch.part == .stopping && !s.exch.inExecution && openVisits s == 0
    && pendingCount s == 0 && s.water.run.isNone

/-- The wind-down test at an event of the Exchange Unit's own: the stop, an order's end, its turn (R28). -/
def windDownOwn (s : State) : State := if windDownMet s then enterHalted s else s

/-- A wind-down test stands for the Exchange Unit already. -/
def testAsked (s : State) : Bool := s.path.arrived.any (fun a => a.event == .ask .windDown)

/-- The wind-down test at another unit's event: made at once, or in its turn (R14, R28; log 43). -/
def windDown (s : State) : State :=
  if windDownMet s && busy .exchange s then
    if testAsked s then s else reach (.ask .windDown) s
  else windDownOwn s

/-- The end of an event's own effect: the pause, lost ports (log 20). -/
def tidy (before after : State) : State := settleLost (upPorts before) (pauseCheck after)

/-- The end of an event. -/
def conclude (before after : State) : State := windDown (tidy before after)

/-- An event that is acted on in RUNNING and STOPPING only (R10). -/
def whenWorking (effect : State → State) (s : State) : State := if working s then conclude s (effect s) else s

/-- The end of an event of the Exchange Unit's own that makes the wind-down test. -/
def concludeOwn (before after : State) : State := windDownOwn (tidy before after)

/-- The Table Unit or the Tally Unit acts on what it is told. -/
def actTold (e : Told) (s : State) : State :=
  match e with
  | .pageHalted => closePage 0 s
  | .lifetime | .lockout | .fallback | .stopping | .windowHalted => tableTold e s

end Sys2Proof.Machine
end

