-- ==== Sys2Proof/Machine/Loading.lean ====
section
/-! DEFINITION. Start-up (chapter 2): START_VALUE, STOP_VALUE, the validation and acceptance of the host half, the
loading reads, completion. -/

namespace Sys2Proof.Machine

/-! ### LOADING entry (R25, R26 step 1) -/

/-- A port when LOADING begins (R44, R45): DOWN, counts 0, its bad-frame run 0 (R40; log 55); its last-down reason, station
state and a frame whose transmission has begun are kept. -/
def loadingPort (x : Port) : Port :=
  { Port.reset with sending := x.sending, downReason := x.downReason, station := x.station }

/-- What still stands for a unit when a run of the part is over: a value, a refresh, something told; a read's data, a notice
whose ring is no longer accepted, and the run's own closings and tests do not (R4, R33, R91; log 44). -/
def Event.outlivesRun : Event → Bool
  | .value _ => true
  | .ask (.refresh _) => true
  | .told _ => true
  | .read _ _ => false
  | .ask (.notice _ _) => false
  | .ask .complete => false
  | .ask .windDown => false
  | .closing _ => false
def Arrival.outlivesRun (a : Arrival) : Bool := a.event.outlivesRun

/-- The state on entering LOADING, before anything is posted (R26; log 23). LOAD_ERROR becomes NONE, and its field 0
(log 60). -/
def loadingEntered (s : State) : State :=
  { s with
    path := { s.path with map := .provisional, dropPos := none,
                          arrived := s.path.arrived.filter Arrival.outlivesRun }
    exch := { s.exch with part := .loading, loadError := none, loadErrorField := 0, attention := false }
    ports := mapVec loadingPort s.ports
    gate := .reset
    yard := .reset }

/-- LOADING begins (R26 step 1): the state shown, the host-half read issued (R4). -/
def beginLoading (s : State) : State :=
  let s1 := loadingEntered s
  let s2 := refreshAll (changedLines (allPorts.map portLine) s s1) (refreshNow (.line 0) s1)
  present .exchange (.read .hostHalf Config.hostHalf 64) s2

/-- A start value in DORMANT or HALTED (R25). -/
def startHanded (s : State) : State :=
  if s.exch.part = .dormant ∨ s.exch.part = .halted then
    if s.clock.monitor = .lapsed then
      refreshNow (.line 0) { s with exch := { s.exch with loadError := some .monitorLapsed, loadErrorField := 0 } }
    else beginLoading s
  else s

/-! ### Validation (R23, R24) -/

/-- Field n of the validation table (R180). -/
def hostField (n : Nat) (c : List Byte) : Nat := field (0x40 + 4 * (n - 1)) 4 c

/-- A value outside its range. -/
def inRange (lo hi v : Nat) : Option LoadError := if lo ≤ v ∧ v ≤ hi then none else some .fieldRange

/-- A value in range that must also keep a relation. -/
def withRelation (r : Option LoadError) (holds : Bool) : Option LoadError :=
  match r with
  | some e => some e
  | none => if holds then none else some .fieldRelation

/-- An aligned region base. -/
def aligned (a v : Nat) : Option LoadError := if v % a = 0 then none else some .regionAlign

/-- CAL_TEMP's range (R23). -/
def calTempValid (v : Int) : Bool := decide (-20 ≤ v) && decide (v ≤ 60)

/-- A bay descriptor's field: checked for a fitted bay (R23). -/
def checkBayField (n : Nat) (c : List Byte) : Option LoadError :=
  if (n - 33) / 3 < hostField 1 c then
    if (n - 33) % 3 = 0 then inRange 2 9 (hostField n c)
    else if (n - 33) % 3 = 1 then none
    else inRange 1 1000 (hostField n c)
  else none

/-- The check of one field (R23). -/
def checkField (c : List Byte) (n : Nat) : Option LoadError :=
  let v := hostField n c
  match n with
  | 1 => inRange 1 8 v
  | 2 => inRange 0 4 v
  | 7 => inRange 2 30 v
  | 8 => inRange 0 100 v
  | 9 => inRange 60 900 v
  | 10 => inRange 2 60 v
  | 11 => inRange 1 16 v
  | 12 => withRelation (inRange 0 16 v) (decide (v < 32 - hostField 11 c))
  | 13 => inRange 10 600 v
  | 14 => inRange 0 11 v
  | 15 => inRange 1 2 v
  | 16 => inRange 60 1440 v
  | 17 => inRange 5 240 v
  | 18 => inRange 1 1000 v
  | 19 => inRange 0 100 v
  | 20 => inRange 0 20 v
  | 21 => inRange 0 20 v
  | 22 => withRelation (inRange 50 300 v) (decide (hostField 19 c < v))
  | 23 => inRange 1 2 v
  | 24 => none
  | 25 => if hostField 23 c = 2 ∧ calTempValid (signed 32 v) = false then some .fieldRange else none
  | 26 => inRange 0 1000000 v
  | 27 => inRange 0 100000 v
  | 28 => inRange 900000 1100000 v
  | 29 => none
  | 30 => inRange 0 86399 v
  | 31 => none
  | 32 => none
  | 66 => aligned 4096 v
  | 67 => inRange 16 4096 v
  | _ =>
    if n ≤ 6 then (if n - 3 < hostField 2 c then inRange 1000 200000 v else none)
    else if n < 57 then checkBayField n c
    else aligned 32 v

/-- The first failure of the first pass, fields in ascending order (R23). -/
def firstPass (c : List Byte) : Option (LoadError × Nat) :=
  (List.range 67).findSome? (fun i => (checkField c (i + 1)).map (fun e => (e, i + 1)))

/-- The ten regions in order: field number, base, size (R24). -/
def regionsOf (c : List Byte) : List (Nat × Nat × Nat) :=
  [(57, hostField 57 c, Config.orderRingSize), (58, hostField 58 c, Config.noticeRingSize),
   (59, hostField 59 c, Config.visitAreaSize), (60, hostField 60 c, Config.balanceAreaSize),
   (61, hostField 61 c, Config.vehicleTableSize), (62, hostField 62 c, Config.accountTableSize),
   (63, hostField 63 c, Config.programmeTableSize), (64, hostField 64 c, Config.tariffTableSize),
   (65, hostField 65 c, Config.poolRingSize), (66, hostField 66 c, Config.pageSize * hostField 67 c)]

/-- Two regions share a byte. -/
def overlaps (a n b m : Nat) : Bool := decide (a < b + m) && decide (b < a + n)

/-- The second pass: each region placed after the regions before it (R24). -/
def placeRegions : List (Nat × Nat) → List (Nat × Nat × Nat) → Option (LoadError × Nat)
  | _, [] => none
  | placed, (n, base, size) :: rest =>
    if 2 ^ 32 < base + size then some (.regionBounds, n)
    else if overlaps base size Config.hostHalf (2 * Config.halfSize) then some (.regionLayoutOverlap, n)
    else if placed.any (fun r => overlaps base size r.1 r.2) then some (.regionOverlap, n)
    else placeRegions ((base, size) :: placed) rest

/-- The copy's first failure, or none (R23, R24). -/
def validate (c : List Byte) : Option (LoadError × Nat) :=
  match firstPass c with
  | some f => some f
  | none => placeRegions [] (regionsOf c)

/-! ### Refusal (R27) -/

/-- The state after a refused copy, before its refresh: every unit but the Path Unit as at the reset input (R27). -/
def refusedState (e : LoadError) (n : Nat) (s : State) : State :=
  { s with
    path := { s.path with map := .clear, dropPos := none,
                          arrived := s.path.arrived.filter (fun a => a.event.asValue.isSome) }
    exch := { ExchangeUnit.reset with loadError := some e, loadErrorField := n }
    latched := .reset
    ports := Vector.replicate 11 Port.reset
    gate := .reset
    yard := .reset
    bays := Vector.replicate 8 Bay.reset
    water := .reset
    table := .reset
    tally := .reset
    clock := .reset }

def refuseCopy (e : LoadError) (n : Nat) (s : State) : State := refreshNow (.line 0) (refusedState e n s)

/-! ### Acceptance (R22, R26 step 3) -/

/-- A bay's descriptor from the copy (R180); 0 for a bay not fitted (log 38). -/
def bayDescOf (c : List Byte) (b : BayId) : BayDesc :=
  if b.val < hostField 1 c then
    { axleLimit := hostField (33 + 3 * b.val) c, mask := BitVec.ofNat 16 (hostField (34 + 3 * b.val) c),
      pulses := hostField (35 + 3 * b.val) c }
  else { axleLimit := 0, mask := 0, pulses := 0 }

/-- A fixed array from a function of its places. -/
def vecOf {α : Type} (n : Nat) (f : Fin n → α) : Vector α n := mapVec f ⟨⟨List.finRange n⟩, by simp⟩

/-- The parameters latched (R22); the capacity of a tank not fitted is 0 (log 38). -/
def latchedOf (c : List Byte) : Latched :=
  { baysFitted := hostField 1 c, tanksFitted := hostField 2 c,
    tankCapacity := vecOf 4 (fun k => if k.val < hostField 2 c then hostField (3 + k.val) c else 0),
    pairWindow := hostField 7 c, plateThreshold := hostField 8 c, callLimit := hostField 9 c,
    linkTimeout := hostField 10 c, holdMargin := hostField 11 c, goLevel := hostField 12 c,
    editLifetime := hostField 13 c, periodCode := hostField 14 c,
    action := if hostField 15 c = 2 then .fallback else .noticeOnly,
    turnover := hostField 16 c, pumpTimeout := hostField 17 c, qualityLimit := hostField 18 c,
    tolBase := hostField 19 c, tolTemp := hostField 20 c, tolAge := hostField 21 c,
    tolCeiling := hostField 22 c, freshAllowance := hostField 26 c, freshReserve := hostField 27 c,
    secondDivider := hostField 28 c, bays := vecOf 8 (bayDescOf c) }

/-- The region bases latched (R3, R22). -/
def basesOf (c : List Byte) : Bases :=
  { orderRing := hostField 57 c, noticeRing := hostField 58 c, visitArea := hostField 59 c,
    balanceArea := hostField 60 c, vehicles := hostField 61 c, accounts := hostField 62 c,
    programmes := hostField 63 c, tariffs := hostField 64 c, poolRing := hostField 65 c,
    tally := hostField 66 c, tallyPages := hostField 67 c }

/-- A control word's count in the copy: its low 16 bits (R11, R180). -/
def copyCount (off : Nat) (c : List Byte) : Count := BitVec.ofNat 16 (field off 2 c)

/-- A port at acceptance: held when its bay is not fitted, else an UP port's link timer starts (R38, R44). -/
def acceptedPort (l : Latched) (p : PortId) (x : Port) : Port :=
  if 2 + l.baysFitted ≤ p.val ∧ p.val < 10 then
    { (if x.link = .up then downRecord x .resetOrder else x) with
      link := .held, flow := none, flowSending := false, timer := none }
  else if x.link = .up then { x with timer := some l.linkTimeout }
  else x

/-- A tank at acceptance (R116). -/
def acceptedTank (l : Latched) (k : TankId) : Tank := { Tank.reset with capacity := l.tankCapacity[k] }

/-- A bay at acceptance (R93, R115). -/
def acceptedBay (l : Latched) (b : BayId) : Bay :=
  { Bay.reset with state := if b.val < l.baysFitted then .free else .closed }

/-- The Water Unit at acceptance (R116, R127, R137); CAL_TEMP is not latched when CAL_STATE is NEVER (R23; log 38). -/
def acceptedWater (l : Latched) (c : List Byte) : WaterUnit :=
  { WaterUnit.reset with
    tanks := vecOf 4 (acceptedTank l), calibrated := hostField 23 c == 2,
    calDay := BitVec.ofNat 16 (hostField 24 c),
    calTemp := if hostField 23 c = 2 then signed 32 (hostField 25 c) else 0 }

/-- The Tally Unit at acceptance (R158, R161, R165, R170). -/
def acceptedTally (c : List Byte) : TallyUnit :=
  { TallyUnit.reset with
    invoice := BitVec.ofNat 32 (hostField 32 c), pageSeq := BitVec.ofNat 32 (hostField 31 c),
    poolPos := copyCount 0x14 c, poolPosted := copyCount 0x14 c }

/-- The Table Unit at acceptance: the copies empty, nothing counted yet; the load counts last posted stand until those of
this LOADING are posted (R141, R149). -/
def acceptedTable (u : TableUnit) : TableUnit := { TableUnit.reset with loadCounts := u.loadCounts }

/-- The clock at acceptance (R171, R178). -/
def acceptedClock (c : List Byte) : ClockUnit :=
  { ClockUnit.reset with
    running := true, now := { day := BitVec.ofNat 16 (hostField 29 c), second := hostField 30 c } }

/-- The state at acceptance, before anything is posted (R22, R26 step 3, R141). -/
def acceptedState (c : List Byte) (s : State) : State :=
  let l := latchedOf c
  { s with
    path := { s.path with map := .full, bases := basesOf c, arrived := s.path.arrived.filter Arrival.outlivesRun }
    exch := { s.exch with
      orderTaken := copyCount 0x0C c, orderPosted := copyCount 0x0C c, producer := copyCount 0x10 c,
      taken := copyCount 0x10 c, startProducer := copyCount 0x10 c, overrun := false, inExecution := false,
      attention := false }
    latched := l
    ports := vecOf 11 (fun p => acceptedPort l p s.ports[p])
    bays := vecOf 8 (acceptedBay l)
    water := acceptedWater l c
    table := acceptedTable s.table
    tally := acceptedTally c
    clock := { acceptedClock c with faultLine := s.clock.faultLine } }

/-! ### The tables (R141) -/

/-- Lines of each loading read of a table. -/
def tableReadLines : TableId → Nat
  | .tariffs => 32 | .programmes => 64 | .accounts => 64 | .vehicles => 64

/-- A loading read of a table issued (R141). -/
def readTable (t : TableId) (chunk : Nat) (s : State) : State :=
  present .table (.read (.table t chunk) (s.path.bases.table t + 2048 * chunk) (tableReadLines t)) s

/-- The copy is accepted (R26 step 3): lines that changed and the clock's line posted, the first table read issued. -/
def acceptCopy (c : List Byte) (s : State) : State :=
  let s1 := acceptedState c s
  readTable .tariffs 0 (refreshNow (.line 2) (refreshAll (changedLines allLines s s1) s1))

/-- The host-half read has returned: validated, then accepted or refused (R23, R26, R27). -/
def hostHalfReturned (c : List Byte) (s : State) : State :=
  match validate c with
  | some (e, n) => refuseCopy e n s
  | none => acceptCopy c s

/-- A load count with one more entry present, or rejected. -/
def LoadCount.plus (c : LoadCount) (present rejected : Nat) : LoadCount :=
  { present := c.present + present, rejected := c.rejected + rejected }

/-- One table's load count raised. -/
def LoadCounts.plus (t : TableId) (present rejected : Nat) (c : LoadCounts) : LoadCounts :=
  match t with
  | .vehicles => { c with vehicles := c.vehicles.plus present rejected }
  | .accounts => { c with accounts := c.accounts.plus present rejected }
  | .programmes => { c with programmes := c.programmes.plus present rejected }
  | .tariffs => { c with tariffs := c.tariffs.plus present rejected }

/-- An entry counted at loading (R141). -/
def addLoadCount (t : TableId) (present rejected : Nat) (s : State) : State :=
  { s with table := { s.table with counting := s.table.counting.plus t present rejected } }

/-- What this LOADING has counted becomes the load counts (R141, R149). -/
def takeLoadCounts (s : State) : State := { s with table := { s.table with loadCounts := s.table.counting } }

/-- Each table's load counts are posted (R141). -/
def postLoadCounts (s : State) : State := postLine 3 (takeLoadCounts s)

/-- One entry at loading (R141). -/
def loadEntry (t : TableId) (i : Nat) (bytes : List Byte) (s : State) : State :=
  match judgeLoad t i bytes s with
  | .ok none => s
  | .ok (some e) => addLoadCount t 1 0 (storeEntry t i (some e) s)
  | .error r =>
    notify { kind := .loadEntryRejected, reason := r.code, subject := t.code, first := i,
             second := checksum bytes } (addLoadCount t 0 1 s)

/-- Entries in ascending order from the data of a read (R141). -/
def loadEntries (t : TableId) : Nat → Nat → List Byte → State → State
  | 0, _, _, s => s
  | n + 1, i, data, s =>
    loadEntries t n (i + 1) (data.drop t.entrySize) (loadEntry t i (data.take t.entrySize) s)

/-- A read of the balance area issued (R151). -/
def readBalances (chunk : Nat) (s : State) : State :=
  present .tally (.read (.balances chunk) (s.path.bases.balanceArea + 2048 * chunk) 64) s

/-- What follows a loading read of a table: the next read, or after the vehicle register's last the load counts posted and
the first balance read (R141, R151). -/
def nextTableRead (t : TableId) (chunk : Nat) (s : State) : State :=
  match t with
  | .tariffs => readTable .programmes 0 s
  | .programmes => readTable .accounts 0 s
  | .accounts => if chunk < 3 then readTable .accounts (chunk + 1) s else readTable .vehicles 0 s
  | .vehicles => if chunk < 63 then readTable .vehicles (chunk + 1) s else readBalances 0 (postLoadCounts s)

/-- A loading read of a table has returned (R141). -/
def tableReturned (t : TableId) (chunk : Nat) (data : List Byte) (s : State) : State :=
  nextTableRead t chunk
    (loadEntries t (32 * tableReadLines t / t.entrySize) (2048 / t.entrySize * chunk) data s)

/-! ### Balances (R151) -/

/-- The account's record is one the part can load. -/
def balanceValid (rec : List Byte) : Bool := decide (field 0 8 rec ≤ 2 ^ 48 - 1) && decide (field 8 4 rec ≤ 3)

/-- An account's state as its record gives it, CREDIT_STOP clear (R151). -/
def accountLoaded (rec : List Byte) : AccountState :=
  if balanceValid rec then
    { AccountState.reset with balance := field 0 8 rec, partialPeriod := true, hostStop := field 8 1 rec % 2 == 1 }
  else { AccountState.reset with partialPeriod := true, hostStop := true }

/-- One account at loading, by R151's steps: its state set, or the record rejected; CREDIT_STOP by its condition; the
record refreshed if it differs from the one read. -/
def loadAccount (a : AccountId) (rec : List Byte) (s : State) : State :=
  let s1 := putAccount a (accountLoaded rec) s
  let s2 :=
    if balanceValid rec then s1
    else notify { kind := .balanceRejected, subject := a.val, first := lowWord (field 0 8 rec),
                  second := highWord (field 0 8 rec) } s1
  let s3 := creditChange a s2
  if balanceRecord s3.tally.accounts[a] = pad 16 (rec.take 12) then s3 else post (.balance a) s3

/-- Accounts in order from the data of a read (R151). -/
def loadAccounts : Nat → Nat → List Byte → State → State
  | 0, _, _, s => s
  | n + 1, i, data, s =>
    loadAccounts n (i + 1) (data.drop 16)
      (match accountOf i with
        | none => s
        | some a => loadAccount a (data.take 16) s)

/-! ### Completion (R26 steps 6 and 7) -/

/-- The role units read their ports' links (R44, R55, R69, R94). -/
def readLinks (s : State) : State :=
  { s with gate := { s.gate with entry := if linkUp entryPort s then .ready else .down,
                                 exitReady := linkUp exitPort s },
           bays := mapVec (fun x => { x with presence := .unknown }) s.bays }

/-- Every line of the status half and every slot's record (R26 step 7). -/
def allRecords : List Rec := allLines.map Rec.line ++ allSlots.map Rec.visit

/-- Loading completes (R26 step 7, R54, R162). -/
def completeLoading (s : State) : State :=
  let s1 := readLinks s
  let s2 := { s1 with exch := { s1.exch with part := .running } }
  let s3 :=
    notifyNow { kind := .started, first := s2.exch.orderTaken.toNat, second := s2.exch.startProducer.toNat } s2
  pageSearch (refreshAll allRecords s3)

/-- The last step's work is done, and the Exchange Unit completes LOADING: at once, or in its turn (R14, R26; log 47). -/
def askCompletion (s : State) : State :=
  if busy .exchange s then reach (.ask .complete) s else completeLoading s

/-- A balance read has returned (R151); after the second the index is built (R26 step 6). -/
def balancesReturned (chunk : Nat) (data : List Byte) (s : State) : State :=
  let s1 := loadAccounts 128 (128 * chunk) data s
  if chunk = 0 then readBalances 1 s1 else askCompletion (buildIndex s1)

/-! ### Events whose turn has come (R14; log 10) -/

/-- The Exchange Unit does what it was asked for. -/
def actAsk (i : ExItem) (s : State) : State :=
  match i with
  | .notice n asked => writeNotice n asked s
  | .refresh r => refreshNow r s
  | .complete => if s.exch.part = .loading then completeLoading s else s
  | .windDown => windDownOwn s

/-- A unit takes an event that has no row of its own. -/
def act (e : Event) (s : State) : State :=
  match e with
  | .ask i => actAsk i s
  | .told e => actTold e s
  | .closing slot => conclude s (takeClosing slot s)
  | .value _ => s
  | .read _ _ => s

/-- Events without rows that their units can take, one after another, at most `n`. -/
def serveUpTo : Nat → State → State
  | 0, s => s
  | n + 1, s =>
    match nextDue s with
    | none => s
    | some e => serveUpTo n (act e (dropArrival e s))

/-- What waits and can now be taken (R14). An event taken so asks for less than 256 others. -/
def serveWaiting (s : State) : State := serveUpTo (256 * (s.path.arrived.length + 1)) s

/-- The end of a row that has taken an event of the given units: what waited behind it has its turn (R14). -/
def afterTurn (us : List UnitId) (before after : State) : State :=
  if us.any (fun u => waits u before) then serveWaiting after else after

/-- A handed value is taken by its owner (R10, R14). -/
def takeValue (h : Handed) (effect : State → State) (s : State) : State :=
  afterTurn h.owner.toList s (effect (dropHanded h s))

/-- A read's data is taken by its units, when they can take it (R14). -/
def takeRead (tag : ReadTag) (data : List Byte) (effect : State → State) (s : State) : State :=
  if ready (.read tag data) s then
    afterTurn (Event.read tag data).units s (effect (dropReturned (tag, data) s))
  else s

/-! ### STOPPING (R28) -/

/-- STOPPING begins (R28, R57, R143). -/
def beginStopping (s : State) : State :=
  let s1 := { s with exch := { s.exch with part := .stopping } }
  gateStopping (tellTable .stopping (refreshNow (.line 0) (notifyNow { kind := .stopping } s1)))

/-! ### The commands -/

/-- START_VALUE (R25). -/
def execStartValue (s : State) : Host.Outcome State Fault Refusal :=
  if nextHanded s = some .start then .next (takeValue .start startHanded s) else .next s

/-- A stop value by the part state (R25, R28). -/
def stopHanded (s : State) : State := if s.exch.part = .running then concludeOwn s (beginStopping s) else s

/-- STOP_VALUE (R25, R28). -/
def execStopValue (s : State) : Host.Outcome State Fault Refusal :=
  if nextHanded s = some .stop then .next (takeValue .stop stopHanded s) else .next s

/-- The host-half read's tag. -/
def isHostHalf : ReadTag → Bool
  | .hostHalf => true
  | .table _ _ => false
  | .balances _ => false
  | .order => false
  | .pool => false
  | .readback _ _ => false

/-- HOST_HALF_READ (R23, R26, R27). -/
def execHostHalfRead (s : State) : Host.Outcome State Fault Refusal :=
  match findReturned isHostHalf s with
  | none => .next s
  | some r => .next (takeRead r.1 r.2 (fun s1 => if s1.exch.part = .loading then hostHalfReturned r.2 s1 else s1) s)

/-- A loading step after acceptance (R26). -/
def whenAccepted (effect : State → State) (s : State) : State :=
  if s.exch.part = .loading ∧ s.path.map = .full then effect s else s

/-- The first returned loading read of a table: its table, chunk and data. -/
def findTableRead (s : State) : Option (TableId × Nat × List Byte) :=
  s.path.returned.findSome? (fun r =>
    match r.1 with
    | .table t chunk => some (t, chunk, r.2)
    | .hostHalf => none
    | .balances _ => none
    | .order => none
    | .pool => none
    | .readback _ _ => none)

/-- TABLE_READ (R141): after acceptance (R26). -/
def execTableRead (s : State) : Host.Outcome State Fault Refusal :=
  match findTableRead s with
  | none => .next s
  | some (t, chunk, data) =>
    .next (takeRead (.table t chunk) data (whenAccepted (tableReturned t chunk data)) s)

/-- The first returned balance read: its chunk and data. -/
def findBalanceRead (s : State) : Option (Nat × List Byte) :=
  s.path.returned.findSome? (fun r =>
    match r.1 with
    | .balances chunk => some (chunk, r.2)
    | .hostHalf => none
    | .table _ _ => none
    | .order => none
    | .pool => none
    | .readback _ _ => none)

/-- BALANCE_READ (R151): after acceptance (R26). -/
def execBalanceRead (s : State) : Host.Outcome State Fault Refusal :=
  match findBalanceRead s with
  | none => .next s
  | some (chunk, data) =>
    .next (takeRead (.balances chunk) data (whenAccepted (balancesReturned chunk data)) s)

end Sys2Proof.Machine
end

