-- ==== Sys2Proof/Machine/Clock.lean ====
section
/-! DEFINITION. The Clock and Monitor (chapter 11): rollover, the service monitor's machine, the lapse; the SERVICE rows
and MONITOR_COUNTDOWN. The boundary itself stands in Boundary.lean. -/

namespace Sys2Proof.Machine

/-- Write the Clock and Monitor's state. -/
def putClock (c : ClockUnit) (s : State) : State := { s with clock := c }

/-- Change the monitor and refresh its line (R175, R176). -/
def setMonitor (c : ClockUnit) (s : State) : State := postChanged 2 s (putClock c s)

/-! ### Rollover (R134, R172) -/

/-- The Water Unit at a rollover (R134). -/
def waterRollover (s : State) : State :=
  retry (setWater { s.water with settled := 0, reserveGiven := false, exhaustedGiven := false } s)

/-- A change of day (R172): BOUNDARY 1, ORDER 2. The clock already shows the new day. -/
def rollover (reason : Nat) (old : BitVec 16) (s : State) : State :=
  postLine 2 (notify { kind := .dayRolled, reason := reason, first := old.toNat, second := s.clock.now.day.toNat }
    (waterRollover s))

/-! ### The lapse (R177) -/

/-- The units told of the flag, bays in order (R111, R143, R177); a Table Unit that holds a request takes it later (R14; log
10). -/
def tellFallback (s : State) : State := tellTable .fallback (allBays.foldl (fun acc b => bayFallback b acc) s)

/-- LAPSED entered: cause COUNTDOWN 1, WRONG_VALUE 2 (R177, R181; log 16). -/
def lapse (cause value : Nat) (s : State) : State :=
  let fall := s.clock.latchedAction == some .fallback
  let s1 := putClock { s.clock with monitor := .lapsed, countdown := none, faultLine := true,
                                    fallback := s.clock.fallback || fall } s
  let s2 := postLine 2 (notify { kind := .monitor, reason := 2, first := cause, second := value } s1)
  if fall then tellFallback s2 else s2

/-- The period of a code (R176). -/
def periodOf (code : Nat) : Nat := 2 ^ (code + 1) - 1

/-- The monitor armed (R176). -/
def armMonitor (s : State) : State :=
  let period := periodOf s.latched.periodCode
  let s1 := setMonitor { s.clock with
    monitor := .armed, countdown := some period, loaded := some period, latchedPeriod := some s.latched.periodCode,
    latchedAction := some s.latched.action } s
  notify { kind := .monitor, reason := 1, first := period, second := s.latched.action.code } s1

/-- The first key in ARMED: the countdown runs on. One that meets the boundary which brought the countdown to 0 is taken
first and cannot save the monitor: that boundary makes it lapse, cause COUNTDOWN (R176; log 3). -/
def primeArmed (s : State) : State :=
  let s1 := setMonitor { s.clock with monitor := .armedPrimed } s
  if s.clock.countdown = some 0 then lapse 1 0 s1 else s1

/-- The countdown reloaded with the latched period; a key that meets the boundary which brought the countdown to 0 is
taken first, and that boundary takes it to the period less one (R176; log 3). -/
def reloadMonitor (s : State) : State :=
  let period := periodOf (s.clock.latchedPeriod.getD 0)
  let left := if s.clock.countdown = some 0 then period - 1 else period
  setMonitor { s.clock with monitor := .armed, countdown := some left, loaded := some period } s

/-- The value a lapse's notice carries; a partial write's is left open (R11, R177; log 13). -/
def lapseValue (value : Option Word) (s : State) : State :=
  match value with
  | some v => lapse 2 v.toNat s
  | none => lapse 2 (freeValue s) (drawn s)

/-- A value that is not the key awaited (R176). -/
def serviceOther (value : Option Word) (s : State) : State :=
  match s.clock.monitor with
  | .idle => s
  | .primed => setMonitor { s.clock with monitor := .idle } s
  | .armed => lapseValue value s
  | .armedPrimed => lapseValue value s
  | .lapsed => s

/-- The first key (R176). -/
def serviceFirst (s : State) : State :=
  match s.clock.monitor with
  | .idle => setMonitor { s.clock with monitor := .primed } s
  | .armed => primeArmed s
  | .primed => serviceOther (some Config.serviceFirst) s
  | .armedPrimed => serviceOther (some Config.serviceFirst) s
  | .lapsed => s

/-- The second key (R176). -/
def serviceSecond (s : State) : State :=
  match s.clock.monitor with
  | .primed => armMonitor s
  | .armedPrimed => reloadMonitor s
  | .idle => s
  | .armed => serviceOther (some Config.serviceSecond) s
  | .lapsed => s

/-! ### The commands -/

/-- SERVICE_FIRST_KEY (R176). -/
def execServiceFirstKey (s : State) : Host.Outcome State Fault Refusal :=
  if nextHanded s = some .serviceFirst then .next (takeValue .serviceFirst (whenWorking serviceFirst) s)
  else .next s

/-- SERVICE_SECOND_KEY (R176). -/
def execServiceSecondKey (s : State) : Host.Outcome State Fault Refusal :=
  if nextHanded s = some .serviceSecond then .next (takeValue .serviceSecond (whenWorking serviceSecond) s)
  else .next s

/-- SERVICE_WRONG_VALUE (R176). -/
def execServiceWrongValue (s : State) : Host.Outcome State Fault Refusal :=
  match nextHanded s with
  | some (.serviceWrong v) => .next (takeValue (.serviceWrong v) (whenWorking (serviceOther v)) s)
  | _ => .next s

/-- An armed monitor's countdown is at 0 (R176). -/
def monitorDue (s : State) : Bool :=
  (s.clock.monitor == .armed || s.clock.monitor == .armedPrimed) && s.clock.countdown == some 0

/-- MONITOR_COUNTDOWN (R176, R177). -/
def execMonitorCountdown (s : State) : Host.Outcome State Fault Refusal :=
  if monitorDue s then .next (conclude s (lapse 1 0 s)) else .next s

end Sys2Proof.Machine
end

