-- ==== Sys2Proof/Machine/Rings.lean ====
section
/-! DEFINITION. The order ring and the notice ring (sections 2.3, 2.4): posts, the fetch of an order, its result;
ORDER_POST, NOTICE_TAKEN, UNKNOWN_ORDER_KIND. -/

namespace Sys2Proof.Machine

/-- The result codes in order (R32, R179). -/
inductive Result where
  | done | refusedState | refusedRange | refusedKind | stale | depotPaused | tallyFull | referenced
  deriving DecidableEq, Repr

def Result.code : Result → Nat
  | .done => 1 | .refusedState => 2 | .refusedRange => 3 | .refusedKind => 4 | .stale => 5
  | .depotPaused => 6 | .tallyFull => 7 | .referenced => 8

/-- The address of the order entry a count names (section 2.3). -/
def orderAddr (count : Count) (s : State) : Nat :=
  s.path.bases.orderRing + 32 * (count.toNat % Config.orderEntries)

/-- The claimed set is not empty. -/
def claimed (s : State) : Bool := s.exch.orderTaken != s.exch.orderPosted

/-- The read of the next claimed order (R31). -/
def fetchOrder (s : State) : State :=
  if working s && !s.exch.inExecution && claimed s then
    present .exchange (.read .order (orderAddr s.exch.orderTaken s) 1) { s with exch := { s.exch with inExecution := true } }
  else s

/-- ORDER TAKEN as it stood at the handing of a value that has not been taken yet (R30). -/
def takenAtHanding (h : Handed) (s : State) : Count :=
  match s.path.arrived.find? (fun a => a.event == .value h) with
  | none => s.exch.orderTaken
  | some a => a.orderTaken

/-- A value from ORDER POST is accepted, judged from ORDER TAKEN as it stood at the handing (R30). -/
def orderPostValid (v taken : Count) (s : State) : Bool :=
  decide (dist taken v ≤ Config.orderEntries) && decide (dist taken s.exch.orderPosted ≤ dist taken v)

/-- A value handed from ORDER POST when ORDER TAKEN stood at `taken` (R30, R31). -/
def orderPosted (v taken : Count) (s : State) : State :=
  if orderPostValid v taken s then fetchOrder { s with exch := { s.exch with orderPosted := v } }
  else notifyNow { kind := .orderPostInvalid, first := v.toNat, second := s.exch.orderPosted.toNat } s

/-- A value from NOTICE TAKEN is accepted (R34). -/
def takenValid (u : Count) (s : State) : Bool :=
  decide (dist u s.exch.producer ≤ dist s.exch.taken s.exch.producer)

/-- An accepted NOTICE TAKEN: a change clears OVERRUN (R34) and drives the attention line (R35). -/
def acceptTaken (u : Count) (s : State) : State :=
  let moved := u != s.exch.taken
  let s1 := driveAttention { s with exch := { s.exch with taken := u } }
  if moved && s.exch.overrun then refreshNow (.line 0) { s1 with exch := { s1.exch with overrun := false } }
  else s1

/-- A value handed from NOTICE TAKEN (R34). -/
def noticeTaken (u : Count) (s : State) : State :=
  if takenValid u s then acceptTaken u s
  else notifyNow { kind := .takenInvalid, first := u.toNat, second := s.exch.taken.toNat } s

/-! ### Orders (R31, R32) -/

/-- The result word's bytes (R181). -/
def resultBytes (r : Result) (taken : Count) : List Byte := le 2 r.code ++ le 2 taken.toNat

/-- An order's end (R31): the result word placed, ORDER TAKEN advanced, its line refreshed behind the word (R15). -/
def finishOrder (r : Result) (s : State) : State :=
  let s1 := placeTold .exchange (.line 0) (orderAddr s.exch.orderTaken s + 28) (resultBytes r s.exch.orderTaken) s
  refreshNow (.line 0) { s1 with exch := { s1.exch with orderTaken := s1.exch.orderTaken + 1, inExecution := false } }

/-- The order read's tag. -/
def isOrder : ReadTag → Bool
  | .order => true
  | .hostHalf => false
  | .table _ _ => false
  | .balances _ => false
  | .pool => false
  | .readback _ _ => false

/-- The order read back, when it is in execution and of the kind a row is for. -/
def orderFor (want : Nat → Bool) (s : State) : Option (ReadTag × List Byte) :=
  (findReturned isOrder s).filter (fun r => working s && s.exch.inExecution && want (orderKind r.2))

/-- An order taken, its read off the list (R31): its owner's effect and result, the end of that event, the result placed,
the wind-down test (R28), the next read (log 37). -/
def runOrder (effect : List Byte → State → Result × State) (entry : List Byte) (s : State) : State :=
  let e := effect entry s
  fetchOrder (windDownOwn (finishOrder e.1 (tidy s e.2)))

/-- A row for one order kind: nothing happens while no such order has been read back, or while a unit it acts on cannot take
it (R14; log 10). -/
def orderRow (want : Nat → Bool) (effect : List Byte → State → Result × State) (s : State) : State :=
  match orderFor want s with
  | none => s
  | some r => takeRead r.1 r.2 (runOrder effect r.2) s

/-- The visit an order names by slot and serial (R32). -/
def namedVisit (entry : List Byte) (s : State) : Except Result (Slot × Visit) :=
  match slotOf (arg16 4 entry) with
  | none => .error .refusedRange
  | some slot =>
    match s.yard.slots[slot] with
    | none => .error .stale
    | some v => if v.serial.toNat = arg16 6 entry then .ok (slot, v) else .error .stale

/-- An order on a named visit (R32). -/
def onVisit (f : Slot → Visit → List Byte → State → Result × State) (entry : List Byte) (s : State) :
    Result × State :=
  match namedVisit entry s with
  | .error r => (r, s)
  | .ok (slot, v) => f slot v entry s

/-! ### The commands -/

/-- ORDER_POST (R30). -/
def execOrderPost (s : State) : Host.Outcome State Fault Refusal :=
  match nextHanded s with
  | some (.orderPost v) => .next (takeValue (.orderPost v) (whenWorking (orderPosted v (takenAtHanding (.orderPost v) s))) s)
  | _ => .next s

/-- NOTICE_TAKEN (R34). -/
def execNoticeTaken (s : State) : Host.Outcome State Fault Refusal :=
  match nextHanded s with
  | some (.noticeTaken u) => .next (takeValue (.noticeTaken u) (whenWorking (noticeTaken u)) s)
  | _ => .next s

/-- A kind that names no order (R32, R181). -/
def unknownKind (k : Nat) : Bool := k == 0 || decide (15 < k)

/-- UNKNOWN_ORDER_KIND (R32). -/
def execUnknownOrderKind (s : State) : Host.Outcome State Fault Refusal :=
  .next (orderRow unknownKind (fun _ t => (.refusedKind, t)) s)

end Sys2Proof.Machine
end

