-- ==== Sys2Proof/Machine/Sightings.lean ====
section
/-! DEFINITION. The gates' rows (chapter 4): sightings, the pairing timer, the recent-exit expiry, ADMIT_VISIT and
TURN_AWAY. -/

namespace Sys2Proof.Machine

/-- The kind of sighting frame at a gate's head that the gate can take: the entry gate takes none while BLOCKED (R56,
R69). -/
def sightingAt (g : Gate) (kind : Byte) (s : State) : Option QFrame :=
  (headFrame (gatePort g) s).filter (fun f => f.kind == kind &&
    (match g with
      | .entry => s.gate.entry == .ready || s.gate.entry == .pairing
      | .exit => s.gate.exitReady))

/-- SIGHTING_INVALID (R56, R69, R95, R181). -/
def sightingInvalid (p : PortId) (kind : Byte) (s : State) : State :=
  notify { kind := .sightingInvalid, subject := p.val, first := kind.toNat } s

/-- A sighting taken at the entry gate (R56, R58): in STOPPING every one is discarded. -/
def entrySighting (f : QFrame) (s : State) : State :=
  if s.exch.part = .stopping then s
  else if (sightingOf f).usable then pairSighting (sightingOf f) s
  else sightingInvalid entryPort f.kind s

/-- A sighting taken at the exit gate (R69). -/
def exitTaken (f : QFrame) (s : State) : State :=
  if (sightingOf f).usable then exitSighting (sightingOf f) s else sightingInvalid exitPort f.kind s

/-- A sighting taken at a gate. -/
def gateSighting (g : Gate) (f : QFrame) (s : State) : State :=
  match g with
  | .entry => entrySighting f s
  | .exit => exitTaken f s

/-- A sighting row: the head frame taken (R46) and acted on. -/
def sightingRow (g : Gate) (kind : Byte) (s : State) : State :=
  match sightingAt g kind s with
  | none => s
  | some f => conclude s (gateSighting g f (takeFrame (gatePort g) s))

/-- SIGHT_TAG (R56, R69). -/
def execSightTag (g : Gate) (s : State) : Host.Outcome State Fault Refusal :=
  .next (sightingRow g Kind.sightTag s)

/-- SIGHT_PLATE (R56, R69). -/
def execSightPlate (g : Gate) (s : State) : Host.Outcome State Fault Refusal :=
  .next (sightingRow g Kind.sightPlate s)

/-- The open pair whose timer has run out (R59). -/
def pairDue (s : State) : Option Pair :=
  if working s && s.gate.entry == .pairing && s.gate.timer == some 0 then s.gate.pair else none

/-- PAIRING_TIMER (R59). -/
def execPairingTimer (s : State) : Host.Outcome State Fault Refusal :=
  match pairDue s with
  | none => .next s
  | some p => .next (conclude s (decidePair p s))

/-- RECENT_EXIT_EXPIRY (R71). -/
def execRecentExitExpiry (s : State) : Host.Outcome State Fault Refusal :=
  .next (putGate { s.gate with recent := s.gate.recent.filter (fun e => e.left != 0) } s)

/-! ### ADMIT_VISIT (R67) -/

/-- An optional argument in its range. -/
def argIn (lo hi : Nat) : Option Nat → Bool
  | none => true
  | some n => decide (lo ≤ n) && decide (n ≤ hi)

/-- ADMIT_VISIT's optional arguments (R181). -/
structure AdmitArgs where
  vehicle : Option Nat
  account : Option Nat
  programme : Option Nat
  axles : Option Nat
  deriving DecidableEq, Repr

def admitArgs (entry : List Byte) : AdmitArgs :=
  { vehicle := optArg 8 entry, account := optArg 10 entry, programme := optArg 12 entry, axles := optArg 14 entry }

/-- Each argument present is in range. -/
def admitInRange (a : AdmitArgs) : Bool :=
  argIn 0 4095 a.vehicle && argIn 0 255 a.account && argIn 0 15 a.programme && argIn 2 9 a.axles

/-- With no vehicle, the other three are needed. -/
def admitComplete (v : Visit) (a : AdmitArgs) : Bool :=
  v.vehicle.isSome || a.vehicle.isSome || (a.account.isSome && a.programme.isSome && a.axles.isSome)

/-- An entry named is committed. -/
def namedCommitted {α : Type} (copy : List (Nat × α)) : Option Nat → Bool
  | none => true
  | some i => (lookup copy i).isSome

def admitCommitted (a : AdmitArgs) (s : State) : Bool :=
  namedCommitted s.table.vehicles a.vehicle && namedCommitted s.table.accounts a.account
    && namedCommitted s.table.programmes a.programme

/-- The vehicle named may be linked: it is the visit's own, or no visit that is not free has it. -/
def admitLinkable (v : Visit) (a : AdmitArgs) (s : State) : Bool :=
  match a.vehicle with
  | none => true
  | some i => match v.vehicle with
    | some j => i == j
    | none => !anyVisit (fun w => w.vehicle == some i) s

/-- The checks in order (R67). -/
def admitCheck (v : Visit) (a : AdmitArgs) (s : State) : Option Result :=
  if v.state ≠ .atGate then some .refusedState
  else if paused s then some .depotPaused
  else if !admitInRange a then some .refusedRange
  else if !admitComplete v a then some .refusedRange
  else if !admitCommitted a s then some .referenced
  else if !admitLinkable v a s then some .refusedState
  else none

/-- The visit as ADMIT_VISIT leaves it: what the order gives, or else the linked entry's (R67). -/
def admittedVisit (v : Visit) (a : AdmitArgs) (s : State) : Visit :=
  let vehicle := match a.vehicle with | some i => some i | none => v.vehicle
  let entry := vehicle.bind (lookup s.table.vehicles)
  let account := match a.account.bind accountOf with
    | some x => some x
    | none => entry.map (fun e => e.account)
  { v with
    vehicle := vehicle, account := account
    programme := match a.programme with | some p => some p | none => entry.map (fun e => e.programme)
    axles := match a.axles with | some n => some n | none => entry.map (fun e => e.axles)
    priority := match account.bind (fun x => accountEntry x s) with | none => false | some e => e.priority }

/-- ADMIT_VISIT on its visit (R67). -/
def admitOrder (slot : Slot) (v : Visit) (entry : List Byte) (s : State) : Result × State :=
  match admitCheck v (admitArgs entry) s with
  | some r => (r, s)
  | none => (.done, admitVisit slot (admittedVisit v (admitArgs entry) s) s)

/-- ADMIT_VISIT (R67). -/
def execAdmitVisit (s : State) : Host.Outcome State Fault Refusal :=
  .next (orderRow (fun k => k == 1) (onVisit admitOrder) s)

/-- TURN_AWAY on its visit (R68). -/
def turnAwayOrder (slot : Slot) (v : Visit) (_entry : List Byte) (s : State) : Result × State :=
  if v.state ≠ .atGate then (.refusedState, s)
  else if tallyFull s || !s.tally.closings.isEmpty then (.tallyFull, s)
  else (.done, takeClosing slot (enterClosing slot v (some .turnedAway) s))

/-- TURN_AWAY (R68). -/
def execTurnAway (s : State) : Host.Outcome State Fault Refusal :=
  .next (orderRow (fun k => k == 2) (onVisit turnAwayOrder) s)

end Sys2Proof.Machine
end

