-- ==== Sys2Proof/Machine/Visits.lean ====
section
/-! DEFINITION. The Yard Unit's rows (chapter 5): SET_PROGRAMME, CANCEL_VISIT, CALL_TIMER. -/

namespace Sys2Proof.Machine

/-- A visit's new programme acted on by its state (R88). -/
def programmeSet (slot : Slot) (v : Visit) (s : State) : State :=
  if v.state = .queued then arbiter (unservableCheck slot v s)
  else if v.reason = some .credit then settleAdmission slot v s
  else s

/-- SET_PROGRAMME on its visit (R88). -/
def setProgrammeOrder (slot : Slot) (v : Visit) (entry : List Byte) (s : State) : Result × State :=
  let p := arg16 8 entry
  if v.state ≠ .atGate ∧ v.state ≠ .queued then (.refusedState, s)
  else if 15 < p then (.refusedRange, s)
  else if !programmeCommitted p s then (.referenced, s)
  else
    let w : Visit := { v with programme := some p }
    (.done, programmeSet slot w (setVisit slot (some w) s))

/-- SET_PROGRAMME (R88). -/
def execSetProgramme (s : State) : Host.Outcome State Fault Refusal :=
  .next (orderRow (fun k => k == 3) (onVisit setProgrammeOrder) s)

/-- A cancelled call's bay (R89, R98). -/
def cancelCall (slot : Slot) (v : Visit) (s : State) : State :=
  match v.bay with
  | none => release slot v .cancelled s
  | some b => arbiter (release slot v .cancelled (endCallAtBay b s))

/-- CANCEL_VISIT on its visit (R89). -/
def cancelOrder (slot : Slot) (v : Visit) (_entry : List Byte) (s : State) : Result × State :=
  match v.state with
  | .queued => (.done, release slot v .cancelled (leaveQueue slot s))
  | .called => (.done, cancelCall slot v s)
  | .atGate => (.refusedState, s)
  | .washing => (.refusedState, s)
  | .washed => (.refusedState, s)
  | .released => (.refusedState, s)
  | .closing => (.refusedState, s)

/-- CANCEL_VISIT (R89). -/
def execCancelVisit (s : State) : Host.Outcome State Fault Refusal :=
  .next (orderRow (fun k => k == 4) (onVisit cancelOrder) s)

/-- A called visit whose timer has run out, with its bay (R86). -/
def callDue (slot : Slot) (s : State) : Option (Visit × BayId) :=
  match s.yard.slots[slot] with
  | none => none
  | some v =>
    if v.state = .called ∧ v.callTimer = some 0 then v.bay.map (fun b => (v, b)) else none

/-- CALL_TIMER (R86). -/
def execCallTimer (slot : Slot) (s : State) : Host.Outcome State Fault Refusal :=
  match callDue slot s with
  | none => .next s
  | some (v, b) => .next (conclude s (expireCall slot v b s))

end Sys2Proof.Machine
end

