-- ==== Sys2Proof/Machine/Bays.lean ====
section
/-! DEFINITION. The Bay Unit's rows (chapter 6): PRESENCE, BAY_TAG, METER, STAGE_TIMER, ABORT_SESSION, HOLD_BAY,
OPEN_BAY. -/

namespace Sys2Proof.Machine

/-- The frame of a kind at the head of a fitted bay's queue (R46, R95). -/
def bayFrame (b : BayId) (kind : Byte) (s : State) : Option QFrame :=
  (headFrame (bayPort b) s).filter (fun f => bayFitted b s && f.kind == kind)

/-- A row that takes a bay's head frame of a kind. -/
def bayFrameRow (b : BayId) (kind : Byte) (act : List Byte → State → State) (s : State) : State :=
  match bayFrame b kind s with
  | none => s
  | some f => conclude s (act f.payload (takeFrame (bayPort b) s))

/-! ### The truck arrives (R96, R97) -/

/-- The tags a bay accepts for the visit called to it (R96). -/
def calledTags (v : Visit) (s : State) : List Tag := visitTags v s

/-- The visit bound to a bay, with its slot. -/
def boundVisit (b : BayId) (s : State) : Option (Slot × Visit) :=
  s.bays[b].bound.bind (fun slot => (s.yard.slots[slot]).map (fun v => (slot, v)))

/-- The last tag read in the bay is one of the visit's (R96). -/
def lastTagMatches (b : BayId) (v : Visit) (s : State) : Bool :=
  match s.bays[b].lastTag with
  | none => false
  | some t => (calledTags v s).contains t

/-- The session starts when presence is ON and the last tag matches; a visit with no tag needs presence alone (R96). -/
def startIfArrived (b : BayId) (s : State) : State :=
  match boundVisit b s with
  | none => s
  | some (slot, v) =>
    if s.bays[b].presence = .on && ((calledTags v s).isEmpty || lastTagMatches b v s) then startSession b slot v s
    else s

/-- UNCALLED_VEHICLE with the bay's state as reason (R97). -/
def uncalled (b : BayId) (s : State) : State :=
  notify { kind := .uncalledVehicle, reason := s.bays[b].state.code, subject := b.val } s

/-- Presence has become ON, by the bay state (R96, R97, R109, R112). -/
def presenceOn (b : BayId) (s : State) : State :=
  match s.bays[b].state with
  | .calling => startIfArrived b s
  | .free => uncalled b s
  | .closed => uncalled b s
  | .waitingWater => s
  | .running => s
  | .settling => s
  | .clearing => s
  | .fault => s

/-- Presence has become OFF, by the bay state (R96, R97, R109, R112). -/
def presenceOff (b : BayId) (s : State) : State :=
  match s.bays[b].state with
  | .calling => setBayWith b (fun x => { x with lastTag := none }) s
  | .free => arbiter s
  | .closed => s
  | .waitingWater => abortBay b .vehicleLeft s
  | .running => abortBay b .vehicleLeft s
  | .settling => abortBay b .vehicleLeft s
  | .clearing => arbiterIfFree b (setBayWith b freeOrClosed s)
  | .fault => s

/-- A PRESENCE value: 0 is off, any other is on (R179). -/
def presenceOf (payload : List Byte) : Presence := if field 0 1 payload = 0 then .off else .on

/-- A PRESENCE frame; one that repeats the value recorded changes nothing (R94). -/
def presenceFrame (b : BayId) (payload : List Byte) (s : State) : State :=
  let p := presenceOf payload
  if s.bays[b].presence = p then s
  else
    let s1 := setBayWith b (fun x => { x with presence := p }) s
    if p = .on then presenceOn b s1 else presenceOff b s1

/-- WRONG_VEHICLE (R96). -/
def wrongVehicle (b : BayId) (t : Tag) (s : State) : State :=
  notify { kind := .wrongVehicle, subject := b.val, first := lowWord t.toNat, second := highWord t.toNat } s

/-- A tag read in a CALLING bay (R96): not compared for a visit with no tag. -/
def calledTag (b : BayId) (t : Tag) (v : Visit) (s : State) : State :=
  if (calledTags v s).isEmpty then s
  else
    let s1 := setBayWith b (fun x => { x with lastTag := some t }) s
    if (calledTags v s).contains t then startIfArrived b s1 else wrongVehicle b t s1

/-- A BAY_TAG frame (R95, R96, R97): one of identity 0 gives its notice in every bay state, any other is ignored outside
CALLING (log 27). -/
def bayTagFrame (b : BayId) (payload : List Byte) (s : State) : State :=
  if tagOf payload = 0 then sightingInvalid (bayPort b) Kind.bayTag s
  else if s.bays[b].state = .calling then
    match boundVisit b s with
    | none => s
    | some (_, v) => calledTag b (tagOf payload) v s
  else s

/-! ### The commands -/

/-- PRESENCE (R94, R96, R97, R109, R112). -/
def execPresence (b : BayId) (s : State) : Host.Outcome State Fault Refusal :=
  .next (bayFrameRow b Kind.presence (presenceFrame b) s)

/-- BAY_TAG (R95, R96). -/
def execBayTag (b : BayId) (s : State) : Host.Outcome State Fault Refusal :=
  .next (bayFrameRow b Kind.bayTag (bayTagFrame b) s)

/-- METER (R103, R104, R105). -/
def execMeter (b : BayId) (s : State) : Host.Outcome State Fault Refusal :=
  .next (bayFrameRow b Kind.meter (meterFrame b) s)

/-- STAGE_TIMER (R102). -/
def execStageTimer (b : BayId) (s : State) : Host.Outcome State Fault Refusal :=
  if s.bays[b].state = .running ∧ s.bays[b].timer = some 0 then .next (conclude s (stopPart b s)) else .next s

/-- A bay in which a session stands (R108). -/
def inSession (x : BayState) : Bool := x == .waitingWater || x == .running || x == .settling

/-- ABORT_SESSION (R108). -/
def abortOrder (entry : List Byte) (s : State) : Result × State :=
  match bayOf (arg16 4 entry) with
  | none => (.refusedRange, s)
  | some b =>
    if !inSession s.bays[b].state then (.refusedState, s)
    else
      match s.bays[b].session with
      | none => (.refusedState, s)
      | some x => if x.serial.toNat = arg16 6 entry then (.done, abortBay b .order s) else (.stale, s)

/-- ABORT_SESSION (R108). -/
def execAbortSession (s : State) : Host.Outcome State Fault Refusal :=
  .next (orderRow (fun k => k == 7) abortOrder s)

/-- A bay held, by its state (R113). -/
def heldBay (x : Bay) : Bay :=
  match x.state with
  | .free => { x with state := .closed }
  | .fault => { x with state := .closed }
  | .closed => x
  | .calling => { x with holdAfter := true }
  | .waitingWater => { x with holdAfter := true }
  | .running => { x with holdAfter := true }
  | .settling => { x with holdAfter := true }
  | .clearing => { x with holdAfter := true }

/-- HOLD_BAY (R113). -/
def holdOrder (entry : List Byte) (s : State) : Result × State :=
  match bayOf (arg16 4 entry) with
  | none => (.refusedRange, s)
  | some b => if bayFitted b s then (.done, setBayWith b heldBay s) else (.refusedState, s)

/-- HOLD_BAY (R113). -/
def execHoldBay (s : State) : Host.Outcome State Fault Refusal :=
  .next (orderRow (fun k => k == 5) holdOrder s)

/-- OPEN_BAY is accepted: CLOSED, or FAULT with the port UP (R114). -/
def openable (b : BayId) (s : State) : Bool :=
  bayFitted b s && (s.bays[b].state == .closed || (s.bays[b].state == .fault && linkUp (bayPort b) s))

/-- OPEN_BAY (R114). -/
def openOrder (entry : List Byte) (s : State) : Result × State :=
  match bayOf (arg16 4 entry) with
  | none => (.refusedRange, s)
  | some b =>
    if openable b s then (.done, arbiter (setBayWith b (fun x => { x with state := .free, holdAfter := false }) s))
    else (.refusedState, s)

/-- OPEN_BAY (R114). -/
def execOpenBay (s : State) : Host.Outcome State Fault Refusal :=
  .next (orderRow (fun k => k == 6) openOrder s)

end Sys2Proof.Machine
end

