-- ==== Sys2Proof/Machine/Plant.lean ====
section
/-! DEFINITION. The Water Unit's rows (chapter 7): LEVEL, SAMPLE, CALIBRATE, PUMP_DONE, PUMP_TIMER, CIRCULATION_DUE,
TANK_STALE. -/

namespace Sys2Proof.Machine

/-- A row that takes the plant port's head frame of a kind (R126). -/
def plantRow (kind : Byte) (act : QFrame → State → State) (s : State) : State :=
  match (headFrame plantPort s).filter (fun f => f.kind == kind) with
  | none => s
  | some f => conclude s (act f (takeFrame plantPort s))

/-- PLANT_FRAME_INVALID (TANK_NOT_FITTED 1, BAD_CONTENT 2, ABOVE_CAPACITY 3, UNEXPECTED_DONE 4; R126, R181). -/
def plantInvalid (reason : Nat) (kind : Byte) (tank : Nat) (s : State) : State :=
  notify { kind := .plantFrameInvalid, reason := reason, subject := plantPort.val, first := kind.toNat,
           second := tank } s

/-- The fitted tank a frame names (R126). -/
def frameTank (payload : List Byte) (s : State) : Option TankId :=
  (tankOf (field 0 1 payload)).filter (fun k => tankFitted k s)

/-- A frame acted on for its tank, or discarded with TANK_NOT_FITTED (R126): that reason alone, whatever else the frame holds
(log 52). -/
def onTank (kind : Byte) (act : TankId → QFrame → State → State) (f : QFrame) (s : State) : State :=
  match frameTank f.payload s with
  | none => plantInvalid 1 kind (field 0 1 f.payload) s
  | some k => act k f s

/-! ### LEVEL (R126) -/

/-- The reported and book level set; a level above the capacity is taken as the capacity (R126). -/
def setLevel (k : TankId) (litres : Nat) (s : State) : State :=
  setTankWith k (fun t => { t with reported := min litres t.capacity, book := min litres t.capacity }) s

/-- A LEVEL frame for a fitted tank (R125, R126). -/
def levelFrame (k : TankId) (f : QFrame) (s : State) : State :=
  let litres := field 1 4 f.payload
  let s1 := setLevel k litres s
  let s2 := if s.water.tanks[k].capacity < litres then plantInvalid 3 Kind.level k.val s1 else s1
  retry (meetShortfall k s2)

/-- LEVEL (R126). -/
def execLevel (s : State) : Host.Outcome State Fault Refusal :=
  .next (plantRow Kind.level (onTank Kind.level levelFrame) s)

/-! ### SAMPLE (R127, R128) -/

/-- The tolerance in per mille (R127). -/
def tolerance (temp : Int) (s : State) : Nat :=
  s.latched.tolBase + s.latched.tolTemp * (temp - s.water.calTemp).natAbs
    + s.latched.tolAge * (s.clock.now.day.toNat - s.water.calDay.toNat)

/-- The probe is expired for a sample (R127). -/
def probeExpiredFor (tol : Nat) (s : State) : Bool :=
  !s.water.calibrated || decide (s.latched.tolCeiling < tol)

/-- An expired sample (R127; log 26). -/
def expiredSample (k : TankId) (tol : Nat) (s : State) : State :=
  let s1 := setTankWith k (fun t => { t with quality := .uncertain }) s
  if s1.water.probeExpired then s1
  else
    notify { kind := .probeExpired, subject := k.val, first := if s1.water.calibrated then tol else 0 }
      (setWater { s1.water with probeExpired := true } s1)

/-- The quality a sample gives (R128). -/
def judgedQuality (m tol : Nat) (s : State) : Quality :=
  if m * (1000 + tol) ≤ s.latched.qualityLimit * 1000 then .certified
  else if s.latched.qualityLimit * 1000 < m * (1000 - tol) then .failed
  else .uncertain

/-- TANK_QUALITY on a change (R128). -/
def noteQuality (k : TankId) (old new : Quality) (m tol : Nat) (s : State) : State :=
  if old = new then s
  else notify { kind := .tankQuality, reason := new.code, subject := k.val, first := m, second := tol } s

/-- The effects of a judged quality (R128). -/
def qualityEffect (k : TankId) (q : Quality) (wasIssuable : Bool) (s : State) : State :=
  match q with
  | .certified => if issuable k s && !wasIssuable then retry s else s
  | .uncertain => s
  | .failed => pumpLook (joinPump k .treat (revokeAll k s))

/-- A sample that is not expired (R127, R128). -/
def judgedSample (k : TankId) (m tol : Nat) (s : State) : State :=
  let q := judgedQuality m tol s
  let s1 := setWater { s.water with probeExpired := false } s
  let s2 := setTankWith k (fun t => { t with quality := q }) s1
  qualityEffect k q (issuable k s) (noteQuality k s.water.tanks[k].quality q m tol s2)

/-- A SAMPLE frame for a fitted tank; discarded while a pump request is pending or running (R127). -/
def sampleFrame (k : TankId) (f : QFrame) (s : State) : State :=
  if s.water.tanks[k].pumpPending || s.water.tanks[k].pumpRunning then s
  else
    let m := field 1 2 f.payload
    let tol := tolerance (signed 8 (field 3 1 f.payload)) s
    if probeExpiredFor tol s then expiredSample k tol s else judgedSample k m tol s

/-- SAMPLE (R127). -/
def execSample (s : State) : Host.Outcome State Fault Refusal :=
  .next (plantRow Kind.sample (onTank Kind.sample sampleFrame) s)

/-! ### CALIBRATE (R130) -/

/-- The calibration set, the wait list retried (R130). -/
def calibrateOrder (entry : List Byte) (s : State) : Result × State :=
  let temp := signed 32 (arg32 entry)
  if calTempValid temp then
    (.done, retry (setWater { s.water with calTemp := temp, calDay := s.clock.now.day, calibrated := true } s))
  else (.refusedRange, s)

/-- CALIBRATE (R130). -/
def execCalibrate (s : State) : Host.Outcome State Fault Refusal :=
  .next (orderRow (fun k => k == 8) calibrateOrder s)

/-! ### The pump (R131, R132, R133) -/

/-- A pump kind's code (R179). -/
def pumpKindOf : Nat → Option PumpKind
  | 1 => some .circulate
  | 2 => some .treat
  | _ => none

/-- A PUMP_DONE against the run in flight (R133): result 1 is ok, 2 is fail. One whose own run the timer has ended matches
none, though its request has been sent again (log 59). -/
def pumpAnswer (k : TankId) (kind : PumpKind) (ok overtaken : Bool) (s : State) : State :=
  match s.water.run with
  | none => plantInvalid 4 Kind.pumpDone k.val s
  | some r =>
    if overtaken = false ∧ r.tank = k ∧ r.kind = kind then (if ok then finishRun r s else failRun 1 s)
    else plantInvalid 4 Kind.pumpDone k.val s

/-- A PUMP_DONE frame for a fitted tank (R126, R133). -/
def pumpDoneFrame (k : TankId) (f : QFrame) (s : State) : State :=
  match pumpKindOf (field 1 1 f.payload) with
  | none => plantInvalid 2 Kind.pumpDone k.val s
  | some kind =>
    if field 2 1 f.payload = 1 then pumpAnswer k kind true f.overtaken s
    else if field 2 1 f.payload = 2 then pumpAnswer k kind false f.overtaken s
    else plantInvalid 2 Kind.pumpDone k.val s

/-- PUMP_DONE (R133). -/
def execPumpDone (s : State) : Host.Outcome State Fault Refusal :=
  .next (plantRow Kind.pumpDone (onTank Kind.pumpDone pumpDoneFrame) s)

/-- A frame is the PUMP_DONE of a run (R133). -/
def answersRun (r : PumpReq) (f : QFrame) : Bool :=
  f.kind == Kind.pumpDone && field 0 1 f.payload == r.tank.val && pumpKindOf (field 1 1 f.payload) == some r.kind

/-- A frame in the plant port's queue when the pump timer ends a run: the run's PUMP_DONE is overtaken (R133; log 59). -/
def QFrame.passedBy (r : PumpReq) (f : QFrame) : QFrame :=
  if answersRun r f then { f with overtaken := true } else f

/-- The expiry is taken before the PUMP_DONE that has fallen with it (R133; log 59). -/
def overtakeDone (s : State) : State :=
  match s.water.run with
  | none => s
  | some r => setPort plantPort
      { s.ports[plantPort] with inbound := s.ports[plantPort].inbound.map (QFrame.passedBy r) } s

/-- PUMP_TIMER (R133). -/
def execPumpTimer (s : State) : Host.Outcome State Fault Refusal :=
  if s.water.pumpTimer = some 0 then .next (conclude s (failRun 2 (overtakeDone s))) else .next s

/-- The seven-eighths threshold acted on (R131): its age shown (R136), queued unless a request is pending or running. -/
def circulationReached (k : TankId) (s : State) : State :=
  let t := s.water.tanks[k]
  let s1 := postLine (tankLineNo k) (setTankWith k (fun x => { x with circulationDue := false }) s)
  if t.pumpPending || t.pumpRunning then s1 else pumpLook (joinPump k .circulate s1)

/-- CIRCULATION_DUE (R131). -/
def execCirculationDue (k : TankId) (s : State) : Host.Outcome State Fault Refusal :=
  if working s && s.water.tanks[k].circulationDue then .next (conclude s (circulationReached k s)) else .next s

/-- The full turnover acted on (R131). -/
def tankGoesStale (k : TankId) (s : State) : State :=
  notify { kind := .tankStale, subject := k.val }
    (setTankWith k (fun x => { x with stale := true, staleDue := false }) s)

/-- TANK_STALE (R131). -/
def execTankStale (k : TankId) (s : State) : Host.Outcome State Fault Refusal :=
  if working s && s.water.tanks[k].staleDue then .next (conclude s (tankGoesStale k s)) else .next s

end Sys2Proof.Machine
end

