-- ==== Sys2Proof/Machine/Accounts.lean ====
section
/-! DEFINITION. The account orders (section 9.4): PAYMENT, CLOSE_PERIOD, STOP_ACCOUNT, RESUME_ACCOUNT. -/

namespace Sys2Proof.Machine

/-- A payment's effect on its account (R157, steps 1 to 4). -/
def payAccount (a : AccountId) (amount : Nat) (s : State) : State :=
  let x := s.tally.accounts[a]
  let s1 := creditTest a (putAccount a { x with
    balance := x.balance - amount, payments := x.payments + amount, paymentCount := x.paymentCount + 1 } s)
  creditEased a (post (.balance a) s1)

/-- PAYMENT (R157). -/
def paymentOrder (entry : List Byte) (s : State) : Result × State :=
  match accountOf (arg16 4 entry) with
  | none => (.refusedRange, s)
  | some a =>
    let amount := arg32 entry
    if amount < 1 ∨ 2147483647 < amount then (.refusedRange, s)
    else if tallyFull s then (.tallyFull, s)
    else if s.tally.accounts[a].balance < amount then (.refusedRange, s)
    else (.done, payAccount a amount (tellOfLine (.balance a) s (composePayment a amount s)))

/-- PAYMENT (R157). -/
def execPayment (s : State) : Host.Outcome State Fault Refusal :=
  .next (orderRow (fun k => k == 9) paymentOrder s)

/-- A period closed: the invoice counter rises, the period's totals and counts go to 0 (R158). -/
def closePeriodOf (a : AccountId) (s : State) : State :=
  let s1 := composePeriod a s
  let s2 := setTally { s1.tally with invoice := s1.tally.invoice + 1 } s1
  putAccount a { s2.tally.accounts[a] with
    charges := 0, payments := 0, visitCount := 0, paymentCount := 0, partialPeriod := false } s2

/-- CLOSE_PERIOD (R158). -/
def closePeriodOrder (entry : List Byte) (s : State) : Result × State :=
  match accountOf (arg16 4 entry) with
  | none => (.refusedRange, s)
  | some a => if tallyFull s then (.tallyFull, s) else (.done, closePeriodOf a s)

/-- CLOSE_PERIOD (R158). -/
def execClosePeriod (s : State) : Host.Outcome State Fault Refusal :=
  .next (orderRow (fun k => k == 10) closePeriodOrder s)

/-- HOST_STOP set or cleared, its record refreshed when it changes (R159). -/
def setHostStop (a : AccountId) (stop : Bool) (s : State) : State :=
  let x := s.tally.accounts[a]
  if x.hostStop = stop then s else post (.balance a) (putAccount a { x with hostStop := stop } s)

/-- STOP_ACCOUNT and RESUME_ACCOUNT (R159). -/
def hostStopOrder (stop : Bool) (entry : List Byte) (s : State) : Result × State :=
  match accountOf (arg16 4 entry) with
  | none => (.refusedRange, s)
  | some a => (.done, setHostStop a stop s)

/-- STOP_ACCOUNT (R159). -/
def execStopAccount (s : State) : Host.Outcome State Fault Refusal :=
  .next (orderRow (fun k => k == 11) (hostStopOrder true) s)

/-- RESUME_ACCOUNT (R159). -/
def execResumeAccount (s : State) : Host.Outcome State Fault Refusal :=
  .next (orderRow (fun k => k == 12) (hostStopOrder false) s)

end Sys2Proof.Machine
end

