-- ==== Sys2Proof/Machine/Pages.lean ====
section
/-! DEFINITION. The page rows (chapter 10): POOL_POST, POOL_ENTRY_READ, CUT_PAGE. -/

namespace Sys2Proof.Machine

/-- A value from POOL POST is accepted, judged from the pool position as it stands when the value is taken (R161;
log 10). -/
def poolPostValid (v : Count) (s : State) : Bool :=
  decide (dist s.tally.poolPos v ≤ Config.poolEntries)
    && decide (dist s.tally.poolPos s.tally.poolPosted ≤ dist s.tally.poolPos v)

/-- A value handed from POOL POST (R161, R162). -/
def poolPosted (v : Count) (s : State) : State :=
  if poolPostValid v s then pageSearch (setTally { s.tally with poolPosted := v } s)
  else notify { kind := .poolPostInvalid, first := v.toNat, second := s.tally.poolPosted.toNat } s

/-- POOL_POST (R161). -/
def execPoolPost (s : State) : Host.Outcome State Fault Refusal :=
  match nextHanded s with
  | some (.poolPost v) => .next (takeValue (.poolPost v) (whenWorking (poolPosted v)) s)
  | _ => .next s

/-- The pool read's tag. -/
def isPool : ReadTag → Bool
  | .pool => true
  | .hostHalf => false
  | .table _ _ => false
  | .balances _ => false
  | .order => false
  | .readback _ _ => false

/-- A pool read returned (R162): after the part has entered HALTED it takes no page. -/
def poolReturned (line : List Byte) (s : State) : State :=
  if working s then conclude s (judgePoolEntry line s)
  else { s with tally := { s.tally with poolRead := false } }

/-- POOL_ENTRY_READ (R162). -/
def execPoolEntryRead (s : State) : Host.Outcome State Fault Refusal :=
  match findReturned isPool s with
  | none => .next s
  | some r => .next (takeRead r.1 r.2 (poolReturned r.2) s)

/-- CUT_PAGE (R169). -/
def cutOrder (_entry : List Byte) (s : State) : Result × State :=
  if tallyFull s then (.tallyFull, s)
  else
    match s.tally.page with
    | none => (.refusedState, s)
    | some p => if p.lines = 0 then (.refusedState, s) else (.done, pageSearch (closePage 2 s))

/-- CUT_PAGE (R169). -/
def execCutPage (s : State) : Host.Outcome State Fault Refusal :=
  .next (orderRow (fun k => k == 13) cutOrder s)

end Sys2Proof.Machine
end

