-- ==== Sys2Proof/Machine/Edits.lean ====
section
/-! DEFINITION. The edit window's rows and the commits' (chapter 8): the EDIT KEY values, COMMIT, COMMIT_READBACK,
LIFETIME_TIMER, LOCKOUT_TIMER. -/

namespace Sys2Proof.Machine

/-- OPEN_FIRST_KEY (R142). -/
def execOpenFirstKey (s : State) : Host.Outcome State Fault Refusal :=
  match nextHanded s with
  | some (.openFirst t) => .next (takeValue (.openFirst t) (editKeyActed (.openFirst t)) s)
  | _ => .next s

/-- OPEN_SECOND_KEY (R142). -/
def execOpenSecondKey (s : State) : Host.Outcome State Fault Refusal :=
  match nextHanded s with
  | some (.openSecond t) => .next (takeValue (.openSecond t) (editKeyActed (.openSecond t)) s)
  | _ => .next s

/-- CLOSE_KEY (R142). -/
def execCloseKey (s : State) : Host.Outcome State Fault Refusal :=
  if nextHanded s = some .closeWindow then .next (takeValue .closeWindow (editKeyActed .closeWindow) s)
  else .next s

/-- WRONG_EDIT_KEY (R142). -/
def execWrongEditKey (s : State) : Host.Outcome State Fault Refusal :=
  if nextHanded s = some .wrongKey then .next (takeValue .wrongKey (editKeyActed .wrongKey) s)
  else .next s

/-- A commit is acted on in RUNNING and STOPPING (R146). -/
def commitHanded (t : TableId) (entry : Nat) (s : State) : State := if working s then handCommit t entry s else s

/-- COMMIT (R17, R146). -/
def execCommit (s : State) : Host.Outcome State Fault Refusal :=
  match nextHanded s with
  | some (.commit t entry v) => .next (takeValue (.commit t entry v) (commitHanded t entry) s)
  | _ => .next s

/-- The first readback returned: its table, entry and bytes. -/
def findReadback (s : State) : Option (TableId × Nat × List Byte) :=
  s.path.returned.findSome? (fun r =>
    match r.1 with
    | .readback t entry => some (t, entry, r.2)
    | .hostHalf => none
    | .table _ _ => none
    | .balances _ => none
    | .order => none
    | .pool => none)

/-- COMMIT_READBACK (R147, R148): the Table Unit and the Tally Unit both act, and closings that waited for room are composed
at this event (R168). -/
def execCommitReadback (s : State) : Host.Outcome State Fault Refusal :=
  match findReadback s with
  | none => .next s
  | some (t, entry, bytes) =>
    .next (takeRead (.readback t entry) bytes (whenWorking (fun s1 => serveClosings (finishCommit t entry bytes s1))) s)

/-- LIFETIME_TIMER (R143): an expiry that the unit cannot take at once waits (R14). -/
def execLifetimeTimer (s : State) : Host.Outcome State Fault Refusal :=
  if busy .table s then .next (leaveLifetime s) else .next (tableExpired s)

/-- LOCKOUT_TIMER (R143): an expiry that the unit cannot take at once waits (R14). -/
def execLockoutTimer (s : State) : Host.Outcome State Fault Refusal :=
  if lockoutOver s then .next (if busy .table s then leaveExpiry .lockout s else shutWindow s) else .next s

end Sys2Proof.Machine
end

