-- ==== Sys2Proof/Machine/Links.lean ====
section
/-! DEFINITION. The Port Unit's rows (chapter 3): a frame's arrival (BAD_FRAME, GOOD_FRAME_ARRIVAL, STATUS), LINK_FREE,
LINK_TIMER, RESET_PORT. -/

namespace Sys2Proof.Machine

/-! ### A frame's arrival (R38 to R42, R47) -/

/-- A bad frame (R40). -/
def badArrival (p : PortId) (s : State) : State :=
  let x := s.ports[p]
  let y := { x with badRun := min 8 (x.badRun + 1), inBad := x.inBad + 1 }
  let s1 := setPort p y s
  if y.badRun = 8 ∧ x.link = .up then portDown p .badFrames s1 else s1

/-- A good frame's record: counted, the run cleared, an UP port's timer restarted (R41, R42). -/
def goodRecord (x : Port) (s : State) : Port :=
  { x with badRun := 0, inGood := x.inGood + 1,
           timer := if x.link = .up then linkTimerStart s else x.timer }

/-- A good STATUS on a DOWN port brings it UP (R42). -/
def portUp (p : PortId) (station : StationState) (s : State) : State :=
  let s1 := setPort p { s.ports[p] with
    link := .up, timer := linkTimerStart s, flow := some .go, flowSending := false } s
  let s2 := notify { kind := .portUp, subject := p.val, first := station.code } s1
  if working s2 then roleUp p s2 else s2

/-- A good STATUS (R41, R42). -/
def statusArrival (p : PortId) (payload : List Byte) (s : State) : State :=
  let x := s.ports[p]
  let s1 := setPort p { goodRecord x s with station := some (stationOf payload) } s
  if x.link = .down then portUp p (stationOf payload) s1 else s1

/-- A good frame discarded (R41, R52). -/
def discardInbound (x : Port) : Port := { x with inDiscarded := x.inDiscarded + 1 }

/-- A good frame that finds the queue full (R47). -/
def overflowArrival (p : PortId) (kind : Byte) (x : Port) (s : State) : State :=
  let s1 := setPort p { discardInbound x with overflow := true } s
  if x.overflow then s1 else notify { kind := .portOverflow, subject := p.val, first := kind.toNat } s1

/-- Any other good frame (R41, R46, R47, R48). -/
def frameForRole (p : PortId) (f : QFrame) (s : State) : State :=
  let x := goodRecord s.ports[p] s
  if x.link = .up ∧ working s = true then
    if x.inbound.length < Config.inboundPlaces then setPort p (joinInbound f s.latched x) s
    else overflowArrival p f.kind x s
  else setPort p (discardInbound x) s

/-- A good frame (R41). -/
def goodArrival (p : PortId) (f : Frame) (s : State) : State :=
  if f.kind = Kind.status then statusArrival p f.payload s
  else frameForRole p { kind := f.kind, payload := f.payload } s

/-- A frame's arrival: neither judged nor counted outside LOADING, RUNNING and STOPPING (R44); on a held port discarded
(R38); else judged (R39). -/
def frameArrival (p : PortId) (f : Frame) (s : State) : State :=
  if !supervised s then s
  else if s.ports[p].link = .held then setPort p (discardInbound s.ports[p]) s
  else if goodFrame p f then goodArrival p f s
  else badArrival p s

/-- BAD_FRAME (R40): the frame is judged like any other (log 36). -/
def execBadFrame (p : PortId) (f : Frame) (s : State) : Host.Outcome State Fault Refusal :=
  .next (conclude s (frameArrival p f s))

/-- GOOD_FRAME_ARRIVAL (R41; log 36). -/
def execGoodFrameArrival (p : PortId) (f : Frame) (s : State) : Host.Outcome State Fault Refusal :=
  .next (conclude s (frameArrival p f s))

/-- STATUS (R42; log 36). -/
def execStatus (p : PortId) (f : Frame) (s : State) : Host.Outcome State Fault Refusal :=
  .next (conclude s (frameArrival p f s))

/-! ### Sending (R50; logs 24, 25) -/

/-- The transmission in progress ends and is counted; a flow frame that was sent is pending no longer (R50, R52). -/
def endSending (x : Port) : Port :=
  match x.sending with
  | none => x
  | some _ =>
    { x with sending := none, outSent := x.outSent + 1, flow := if x.flowSending then none else x.flow,
             flowSending := false }

/-- The next transmission begins: the pending flow frame, which stays pending, else the head of the outbound queue, which
leaves its place as its transmission begins (R49, R50; log 49). -/
def beginSending (x : Port) : Port :=
  match x.flow with
  | some f => { x with flowSending := true, sending := some (flowFrame f).sent }
  | none =>
    match x.outbound with
    | [] => x
    | f :: fs => { x with outbound := fs, sending := some f.sent }

/-- The link is free: what the port's record becomes (R44, R50). -/
def linkFreed (x : Port) (maySend : Bool) : Port :=
  let y := endSending x
  if y.link = .up ∧ maySend = true then beginSending y else y

/-- LINK_FREE (R50): an idle link begins to send at this command too, not by itself (R44; log 25). -/
def execLinkFree (p : PortId) (s : State) : Host.Outcome State Fault Refusal :=
  .next (setPort p (linkFreed s.ports[p] (accepted s)) s)

/-- LINK_TIMER (R42, R43). -/
def execLinkTimer (p : PortId) (s : State) : Host.Outcome State Fault Refusal :=
  if s.ports[p].link = .up ∧ s.ports[p].timer = some 0 then .next (conclude s (portDown p .linkTimeout s))
  else .next s

/-! ### RESET_PORT (R51) -/

/-- A DOWN port reset (R51). -/
def resetDown (x : Port) : Port :=
  { x with badRun := 0, hold := false, overflow := false, flow := none, flowSending := false,
           downReason := some .resetOrder }

/-- RESET_PORT (R51). -/
def resetPortOrder (entry : List Byte) (s : State) : Result × State :=
  match portOf (arg16 4 entry) with
  | none => (.refusedRange, s)
  | some p =>
    match s.ports[p].link with
    | .held => (.refusedState, s)
    | .up => (.done, portDown p .resetOrder s)
    | .down => (.done, setPort p (resetDown s.ports[p]) s)

/-- RESET_PORT (R51). -/
def execResetPort (s : State) : Host.Outcome State Fault Refusal :=
  .next (orderRow (fun k => k == 15) resetPortOrder s)

end Sys2Proof.Machine
end

