-- ==== Sys2Proof/WellFormed.lean ====
section
/-! DEFINITION. Which terms of Instr are commands that the outside can send: host transactions are one aligned word or
one aligned 32-byte line with one mask bit a byte (R1), and a frame's length byte counts its payload (R183). -/

namespace Sys2Proof

/-- Bytes in a host transaction (R1). -/
def Span.size : Span → Nat
  | .word => 4
  | .line => 32

/-- The address of a host transaction is aligned to its word or line (R1). -/
def Span.aligned (span : Span) (addr : Word) : Bool := addr.toNat % span.size == 0

/-- The payload's length fits the length byte (R183). -/
def Frame.wellFormed (f : Frame) : Bool := f.payload.length < 256

/-- The check on a command before it is sent. -/
def Instr.wellFormed : Instr → Bool
  | .hostRead span addr => span.aligned addr
  | .hostWrite span addr bytes => span.aligned addr && bytes.length == span.size
  | .badFrame _ f => f.wellFormed
  | .goodFrameArrival _ f => f.wellFormed
  | .status _ f => f.wellFormed
  | .memoryPortFree | .startValue | .stopValue | .hostHalfRead | .tableRead | .balanceRead => true
  | .orderPost | .unknownOrderKind | .noticeTaken | .poolPost => true
  | .serviceFirstKey | .serviceSecondKey | .serviceWrongValue => true
  | .openFirstKey | .openSecondKey | .closeKey | .wrongEditKey | .commit | .commitReadback => true
  | .resetInput | .linkFree _ | .linkTimer _ | .sightTag _ | .sightPlate _ | .pairingTimer => true
  | .recentExitExpiry | .admitVisit | .turnAway | .setProgramme | .cancelVisit | .callTimer _ => true
  | .presence _ | .bayTag _ | .meter _ | .stageTimer _ | .abortSession | .holdBay | .openBay => true
  | .level | .sample | .calibrate | .pumpDone | .pumpTimer | .circulationDue _ | .tankStale _ => true
  | .payment | .closePeriod | .stopAccount | .resumeAccount | .poolEntryRead | .cutPage => true
  | .depotSecondBoundary | .setClock | .monitorCountdown | .lifetimeTimer | .lockoutTimer | .resetPort => true

end Sys2Proof
end

