-- ==== Sys2Proof/Machine/Path.lean ====
section
/-! DEFINITION. The Path Unit (chapter 1): where a host write lands, its judgement, what it hands, drops; HOST_READ,
HOST_WRITE, MEMORY_PORT_FREE. -/

namespace Sys2Proof.Machine

/-! ### The region map (R3, R4) -/

/-- Where an address lies by the map (R3); the layout page's two halves, then the regions of the full map. -/
inductive Place where
  | hostHalf
  | statusHalf
  | orderEntry (i : Nat)
  | noticeRing
  | visitArea
  | balanceArea
  | guarded (t : TableId) (entry : Nat)
  | poolRing
  | tallySpan
  | plain
  deriving DecidableEq, Repr

/-- The address lies in a region. -/
def within (a base size : Nat) : Bool := decide (base ≤ a) && decide (a < base + size)

/-- The region of a full map (R3). -/
def placeInRegions (b : Bases) (a : Nat) : Place :=
  if within a b.orderRing Config.orderRingSize then .orderEntry ((a - b.orderRing) / 32)
  else if within a b.noticeRing Config.noticeRingSize then .noticeRing
  else if within a b.visitArea Config.visitAreaSize then .visitArea
  else if within a b.balanceArea Config.balanceAreaSize then .balanceArea
  else if within a b.vehicles Config.vehicleTableSize then .guarded .vehicles ((a - b.vehicles) / 32)
  else if within a b.accounts Config.accountTableSize then .guarded .accounts ((a - b.accounts) / 32)
  else if within a b.programmes Config.programmeTableSize then .guarded .programmes ((a - b.programmes) / 128)
  else if within a b.tariffs Config.tariffTableSize then .guarded .tariffs ((a - b.tariffs) / 128)
  else if within a b.poolRing Config.poolRingSize then .poolRing
  else if within a b.tally (Config.pageSize * b.tallyPages) then .tallySpan
  else .plain

/-- Where an address lies (R3, R4): nothing is named by a cleared map, only the layout page by the provisional one. -/
def placeOf (m : RegionMap) (b : Bases) (a : Nat) : Place :=
  match m with
  | .clear => .plain
  | .provisional =>
    if within a Config.hostHalf Config.halfSize then .hostHalf
    else if within a Config.statusHalf Config.halfSize then .statusHalf
    else .plain
  | .full =>
    if within a Config.hostHalf Config.halfSize then .hostHalf
    else if within a Config.statusHalf Config.halfSize then .statusHalf
    else placeInRegions b a

/-! ### Judgement (R5 to R9) -/

/-- The entry of the order ring is claimed (R9). -/
def entryClaimed (i : Nat) (s : State) : Bool :=
  decide ((i + Config.orderEntries - s.exch.orderTaken.toNat % Config.orderEntries) % Config.orderEntries
    < dist s.exch.orderTaken s.exch.orderPosted)

/-- The address lies in the current tally page (R9). -/
def inCurrentPage (a : Nat) (s : State) : Bool :=
  match s.tally.page with
  | none => false
  | some p => within a p.addr Config.pageSize

/-- The class a write is dropped with, or none when it is forwarded (R6, R12). -/
def dropOf (a : Nat) (s : State) : Option DropClass :=
  match placeOf s.path.map s.path.bases a with
  | .statusHalf => some .statusHalf
  | .noticeRing => some .noticeRing
  | .visitArea => some .visitArea
  | .balanceArea => some .balanceArea
  | .guarded t entry => if guardedForward t entry s then none else some (.guarded t)
  | .tallySpan => if inCurrentPage a s then some .tallyPage else none
  | .orderEntry i => if entryClaimed i s then some .orderEntry else none
  | .hostHalf => none
  | .poolRing => none
  | .plain => none

/-! ### Words within a write (R7, R8, R11) -/

/-- What a write does to one word: nothing, part of it, or a whole value (R11). -/
inductive Coverage where
  | untouched
  | partly
  | whole (v : Word)
  deriving DecidableEq, Repr

/-- The bytes a write holds for the word at an address (R11). -/
def coverage (addr word : Nat) (bytes : List (Option Byte)) : Coverage :=
  let part := if addr ≤ word then (bytes.drop (word - addr)).take 4 else []
  match part with
  | [some a, some b, some c, some d] => .whole (BitVec.ofNat 32 (leNat [a, b, c, d]))
  | _ => if part.any Option.isSome then .partly else .untouched

/-- A value of the EDIT KEY word (R142). -/
def editKeyOf (v : Word) : Handed :=
  if v = Config.closeValue then .closeWindow
  else
    match [TableId.vehicles, .accounts, .programmes, .tariffs].find? (fun t =>
        v == Config.openFirst + BitVec.ofNat 32 t.code || v == Config.openSecond + BitVec.ofNat 32 t.code) with
    | none => .wrongKey
    | some t => if v = Config.openFirst + BitVec.ofNat 32 t.code then .openFirst t else .openSecond t

/-- A value of the SERVICE word (R176). -/
def serviceOf (v : Word) : Handed :=
  if v = Config.serviceFirst then .serviceFirst
  else if v = Config.serviceSecond then .serviceSecond
  else .serviceWrong (some v)

/-- A value of the START word; a value that is neither start nor stop is ignored everywhere (R25). -/
def startOf (v : Word) : List Handed :=
  if v = Config.startKey then [.start] else if v = Config.stopKey then [.stop] else []

/-- The low 16 bits of a value (R11). -/
def lowCount (v : Word) : Count := v.truncate 16

/-- What START hands (R11). -/
def handsStart : Coverage → List Handed
  | .whole v => startOf v
  | .partly => []
  | .untouched => []

/-- What SERVICE hands (R11). -/
def handsService : Coverage → List Handed
  | .whole v => [serviceOf v]
  | .partly => [.serviceWrong none]
  | .untouched => []

/-- What EDIT KEY hands (R11). -/
def handsEdit : Coverage → List Handed
  | .whole v => [editKeyOf v]
  | .partly => [.wrongKey]
  | .untouched => []

/-- What a count word hands (R11). -/
def handsCount (mk : Count → Handed) : Coverage → List Handed
  | .whole v => [mk (lowCount v)]
  | .partly => []
  | .untouched => []

/-- The values of the control words a write covers, in ascending order (R10, R11, R180). -/
def controlHands (addr : Nat) (bytes : List (Option Byte)) : List Handed :=
  let at_ := fun off => coverage addr (Config.hostHalf + off) bytes
  handsStart (at_ 0x00) ++ handsService (at_ 0x04) ++ handsEdit (at_ 0x08)
    ++ handsCount .orderPost (at_ 0x0C) ++ handsCount .noticeTaken (at_ 0x10) ++ handsCount .poolPost (at_ 0x14)

/-- What a forwarded write to the host half hands, by the part state at its arrival (R5, R10). -/
def hostHalfHands (addr : Nat) (bytes : List (Option Byte)) (s : State) : List Handed :=
  match s.exch.part with
  | .running => controlHands addr bytes
  | .stopping => controlHands addr bytes
  | .loading => []
  | .dormant => handsStart (coverage addr Config.hostHalf bytes)
  | .halted => handsStart (coverage addr Config.hostHalf bytes)

/-- The value a write gives the whole commit word of an entry: a commit (R7, R8). -/
def commitValue (t : TableId) (entry addr : Nat) (bytes : List (Option Byte)) (s : State) : Option Word :=
  match coverage addr (s.path.bases.table t + t.entrySize * entry + (t.entrySize - 4)) bytes with
  | .whole v => some v
  | .partly => none
  | .untouched => none

/-! ### Drops (R12, R13) -/

/-- A WRITE_DROPPED notice is outstanding (R13). -/
def dropOutstanding (s : State) : Bool :=
  match s.path.dropPos with
  | none => false
  | some p => decide (dist p s.exch.producer ≤ dist s.exch.taken s.exch.producer)

/-- The notice of a drop (R13). -/
def dropNotice (c : DropClass) (s : State) : State :=
  if dropOutstanding s then s
  else notify { kind := .writeDropped, subject := c.code, first := s.path.dropAddr.toNat,
                second := s.path.dropped.toNat } s

/-- A dropped write (R12, R13): counted, recorded, the line refreshed by the Path Unit, the notice asked for. -/
def dropWrite (addr : Word) (c : DropClass) (s : State) : State :=
  let s1 := { s with path := { s.path with dropped := s.path.dropped + 1, dropAddr := addr, dropClass := some c } }
  dropNotice c (present .path (.refresh (.line 1)) s1)

/-! ### Arrival (R1, R2, R5, R6, R8, R16) -/

/-- The lines of memory a request writes. -/
def Request.writesLine (line : Nat) : Request → Bool
  | .read _ _ _ => false
  | .place addr bytes => !bytes.isEmpty && decide (addr / 32 ≤ line) && decide (line ≤ (addr + bytes.length - 1) / 32)
  | .refresh _ addr bytes =>
    !bytes.isEmpty && decide (addr / 32 ≤ line) && decide (line ≤ (addr + bytes.length - 1) / 32)

/-- How many requests must be granted before a transaction on a line: up to the last queued post of the line (R16). -/
def behindOf (line : Nat) : List Request → Nat
  | [] => 0
  | q :: qs =>
    match behindOf line qs with
    | 0 => if q.writesLine line then 1 else 0
    | n + 1 => n + 2

/-- The processor port takes a transaction (R1, R16). -/
def holdHost (op : HostOp) (addr : Nat) (hands : List Handed) (s : State) : State :=
  { s with path := { s.path with
      host := some { op := op, hands := hands, behind := behindOf (addr / 32) s.path.queue } } }

/-- The guarded entry a write lands in. -/
def guardedEntry (a : Nat) (s : State) : Option (TableId × Nat) :=
  match placeOf s.path.map s.path.bases a with
  | .guarded t entry => some (t, entry)
  | .hostHalf => none
  | .statusHalf => none
  | .orderEntry _ => none
  | .noticeRing => none
  | .visitArea => none
  | .balanceArea => none
  | .poolRing => none
  | .tallySpan => none
  | .plain => none

/-- A forwarded write in a state that judges: control words, or a guarded table's verdict (R8, R10, R144). -/
def forwardWrite (span : Span) (addr : Word) (bytes : List (Option Byte)) (s : State) : State :=
  match guardedEntry addr.toNat s with
  | some (t, entry) =>
    let commit := commitValue t entry addr.toNat bytes s
    pauseCheck (holdHost (.write span addr bytes) addr.toNat ((commit.map (.commit t entry)).toList)
      (guardedTouch entry commit.isSome s))
  | none => holdHost (.write span addr bytes) addr.toNat (hostHalfHands addr.toNat bytes s) s

/-- A dropped guarded write's own notice (R145). -/
def refusalNotice (a : Nat) (s : State) : State :=
  match guardedEntry a s with
  | none => s
  | some (t, entry) => editRefused t entry s

/-- A host write arrives (R5, R6): judged in LOADING, RUNNING and STOPPING only. -/
def writeArrives (span : Span) (addr : Word) (bytes : List (Option Byte)) (s : State) : State :=
  if supervised s then
    match dropOf addr.toNat s with
    | some c => dropWrite addr c (refusalNotice addr.toNat s)
    | none => forwardWrite span addr bytes s
  else holdHost (.write span addr bytes) addr.toNat (hostHalfHands addr.toNat bytes s) s

/-- A host transaction arrives (R1, R2). -/
def arrive (op : HostOp) (s : State) : State :=
  match op with
  | .read span addr => holdHost (.read span addr) addr.toNat [] s
  | .write span addr bytes => writeArrives span addr bytes s

/-- The processor port can accept (R1); a handed value that can be acted on goes first (R5; log 7). -/
def canAccept (s : State) : Bool := s.path.host.isNone && (nextHanded s).isNone

/-- Transactions accepted in the order issued, until one stays at the port (R1; log 7). -/
def acceptOps : List HostOp → State → State
  | [], s => { s with path := { s.path with waiting := [] } }
  | op :: ops, s =>
    if canAccept s then acceptOps ops (arrive op s)
    else { s with path := { s.path with waiting := op :: ops } }

/-- A transaction is issued: it waits its turn (R1). -/
def issueHost (op : HostOp) (s : State) : State := acceptOps (s.path.waiting ++ [op]) s

/-! ### The memory port (R1, R10, R14, R18, R19) -/

/-- A value is heeded in the part state it is handed in: a start value in DORMANT and HALTED, a stop value in RUNNING (R25),
any other in RUNNING and STOPPING (R10). -/
def Handed.heeded (p : PartState) : Handed → Bool
  | .start => p == .dormant || p == .halted
  | .stop => p == .running
  | .serviceFirst | .serviceSecond | .serviceWrong _ | .openFirst _ | .openSecond _ | .closeWindow | .wrongKey =>
    p == .running || p == .stopping
  | .orderPost _ | .noticeTaken _ | .poolPost _ | .commit _ _ _ => p == .running || p == .stopping

/-- Values reach their owners one after another (R10). -/
def handAll : List Handed → State → State
  | [], s => s
  | h :: hs, s => handAll hs (reach (.value h) s)

/-- The host's transaction is performed (R1, R2, R10): what its write hands is what the part state heeds. -/
def performHost (t : HostTxn) (s : State) : State :=
  let done := { s.path with host := none, port := none }
  match t.op with
  | .read span addr =>
    { s with path := { done with readData := Memory.readBytes s.mem addr.toNat span.size } }
  | .write _ addr bytes =>
    handAll (t.hands.filter (Handed.heeded s.exch.part))
      { s with mem := Memory.writeMasked s.mem addr.toNat bytes, path := done }

/-- An internal request is performed (R14, R19). -/
def performRequest (r : Request) (s : State) : State :=
  let done := { s.path with port := none }
  match r with
  | .read tag addr lines =>
    reach (.read tag (Memory.readBytes s.mem addr (32 * lines))) { s with path := done }
  | .place addr bytes => { s with mem := Memory.writeBytes s.mem addr bytes, path := done }
  | .refresh _ addr bytes => { s with mem := Memory.writeBytes s.mem addr bytes, path := done }

/-- The transaction at the memory port ends. -/
def finishPort (s : State) : State :=
  match s.path.port with
  | none => s
  | some (.internal r) => performRequest r s
  | some .host =>
    match s.path.host with
    | none => { s with path := { s.path with port := none } }
    | some t => performHost t s

/-- One request fewer ahead of the transaction at the processor port (R16). -/
def stepHost (t : HostTxn) : HostTxn := { t with behind := t.behind - 1 }

/-- The queue's head is granted; its place is free (R14, R16, R18). -/
def grantHead (r : Request) (rest : List Request) (s : State) : State :=
  drainQueue { s with path := { s.path with
    port := some (.internal r), queue := rest, hostRun := 0, host := s.path.host.map stepHost } }

/-- The host is granted (R18). -/
def grantHost (run : Nat) (s : State) : State :=
  { s with path := { s.path with port := some .host, hostRun := run } }

/-- The host waits for the port: a transaction not held by R16 (R18). -/
def hostWaits (s : State) : Bool :=
  match s.path.host with
  | none => false
  | some t => t.behind == 0

/-- The arbiter's one grant (R18). -/
def grant (s : State) : State :=
  match s.path.queue with
  | [] => if hostWaits s then grantHost 0 s else s
  | r :: rest =>
    if hostWaits s && decide (s.path.hostRun < 4) then grantHost (s.path.hostRun + 1) s else grantHead r rest s

/-- The memory port becomes free (R18): what it held is performed, the processor port accepts, the arbiter grants. -/
def portFree (s : State) : State :=
  let s1 := finishPort s
  grant (acceptOps s1.path.waiting s1)

/-! ### The commands -/

/-- HOST_READ (R1, R2). -/
def execHostRead (span : Span) (addr : Word) (s : State) : Host.Outcome State Fault Refusal :=
  if span.aligned addr then .next (issueHost (.read span addr) s) else .fault .malformedTransaction

/-- HOST_WRITE (R1, R5, R6). -/
def execHostWrite (span : Span) (addr : Word) (bytes : List (Option Byte)) (s : State) :
    Host.Outcome State Fault Refusal :=
  if span.aligned addr && bytes.length == span.size then .next (issueHost (.write span addr bytes) s)
  else .fault .malformedTransaction

/-- MEMORY_PORT_FREE (R14, R18): the grant has freed places, and events that waited have their turn. -/
def execMemoryPortFree (s : State) : Host.Outcome State Fault Refusal := .next (serveWaiting (portFree s))

/-! ### The reset input (R20) -/

/-- Bytes of a request performed when its first `n` lines have been (R20). -/
def firstLines (addr n : Nat) (bytes : List Byte) : List Byte := bytes.take ((addr / 32 + n) * 32 - addr)

/-- Lines a post writes. -/
def linesOf (addr : Nat) (bytes : List Byte) : Nat := (addr + bytes.length - 1) / 32 + 1 - addr / 32

/-- A post cut off after the line in progress: which line that is the manual leaves open (R20; log 11). -/
def cutPost (addr : Nat) (bytes : List Byte) (s : State) : State :=
  if linesOf addr bytes ≤ 1 then { s with mem := Memory.writeBytes s.mem addr bytes }
  else
    drawn { s with
      mem := Memory.writeBytes s.mem addr (firstLines addr (1 + freeValue s % linesOf addr bytes) bytes) }

/-- The memory port at the reset input (R20; log 11). -/
def cutPort (s : State) : State :=
  match s.path.port with
  | some (.internal (.place addr bytes)) => cutPost addr bytes s
  | some (.internal (.refresh _ addr bytes)) => cutPost addr bytes s
  | some (.internal (.read _ _ _)) => s
  | some .host => s
  | none => s

/-- A commit: discarded by the reset input (R149). -/
def Handed.isCommit : Handed → Bool
  | .commit _ _ _ => true
  | .start | .stop | .serviceFirst | .serviceSecond | .serviceWrong _ | .openFirst _ | .openSecond _ => false
  | .closeWindow | .wrongKey | .orderPost _ | .noticeTaken _ | .poolPost _ => false

/-- The transaction at the processor port after the reset input (R20; log 12). -/
def keptTxn (t : HostTxn) : HostTxn := { t with behind := 0, hands := t.hands.filter (fun h => !h.isCommit) }

/-- The memory port keeps a host transaction it is performing (R20). -/
def keptPort : Option PortTxn → Option PortTxn
  | some .host => some .host
  | some (.internal _) => none
  | none => none

/-- The Path Unit after the reset input (R20; logs 12, 44). -/
def pathAfterReset (p : PathUnit) : PathUnit :=
  { PathUnit.reset with host := p.host.map keptTxn, waiting := p.waiting, port := keptPort p.port,
                        readData := p.readData }

/-- Every unit in its reset-input state (R20, R29, R45, R76, R91, R115, R137, R149, R160, R170, R178); memory and the
commands that wait stay. -/
def resetUnits (s : State) : State :=
  { State.reset with mem := s.mem, path := pathAfterReset s.path, free := s.free, pending := s.pending }

/-- The reset input: units reset, then the processor port accepts (R1). -/
def resetInput (s : State) : State :=
  let s1 := resetUnits (cutPort s)
  acceptOps s1.path.waiting s1

/-- RESET_INPUT (R20). -/
def execResetInput (s : State) : Host.Outcome State Fault Refusal := .next (resetInput s)

end Sys2Proof.Machine
end

