-- ==== Sys2Proof/Machine/Boundary.lean ====
section
/-! DEFINITION. The depot second (sections 11.1 to 11.3): what a boundary serves first, what it counts, the clock's
advance; DEPOT_SECOND_BOUNDARY, SET_CLOCK, and the reference period that an empty queue stands for. -/

namespace Sys2Proof.Machine

/-! ### Due work served before the next boundary (R173; log 3) -/

/-- A row run inside another: its next state, or the state as it was. -/
def after (r : State → Host.Outcome State Fault Refusal) (s : State) : State :=
  match r s with
  | .next t => t
  | .fault _ => s
  | .refused _ => s

/-- The timers' rows in a fixed order. -/
def timerRows : List (State → Host.Outcome State Fault Refusal) :=
  allPorts.map execLinkTimer ++ [execPairingTimer, execRecentExitExpiry] ++ allSlots.map execCallTimer
    ++ allBays.map execStageTimer ++ [execPumpTimer] ++ allTanks.map execCirculationDue ++ allTanks.map execTankStale
    ++ [execLifetimeTimer, execLockoutTimer, execMonitorCountdown]

/-- Work that is due. -/
def overdue (s : State) : Bool :=
  s.ports.toList.any (fun x => x.timer == some 0) || s.gate.timer == some 0
    || s.gate.recent.any (fun e => e.left == 0)
    || s.yard.slots.toList.any (fun x => match x with | none => false | some v => v.callTimer == some 0)
    || s.bays.toList.any (fun x => x.timer == some 0) || s.water.pumpTimer == some 0
    || s.water.tanks.toList.any (fun t => t.circulationDue || t.staleDue)
    || s.table.lifetime == some 0 || s.table.lockout == some 0 || s.clock.countdown == some 0

/-- Due rows served one after another. -/
def serveDue (s : State) : State :=
  if overdue s then timerRows.foldl (fun acc r => after r acc) s else s

/-! ### What a boundary counts (R102, R131, R173, R176) -/

def tickPort (x : Port) : Port := { x with timer := countDown x.timer }

def tickRecent (e : RecentExit) : RecentExit := { e with left := e.left - 1 }

def tickVisit : Option Visit → Option Visit
  | none => none
  | some v => some { v with callTimer := countDown v.callTimer }

/-- A running stage's elapsed seconds (R102). -/
def tickSession (x : Session) : Session :=
  match x.stage with
  | none => x
  | some r => { x with stages := x.stages.set x.current { r with elapsed := r.elapsed + 1 } }

def tickBay (x : Bay) : Bay :=
  if x.state = .running then { x with session := x.session.map tickSession, timer := countDown x.timer } else x

/-- A tank's circulation age and its two thresholds (R131). -/
def tickTank (turnover : Nat) (t : Tank) : Tank :=
  let full := turnover * 60
  let age := min full (t.age + 1)
  { t with age := age,
           circulationDue := t.circulationDue || (t.age != age && age == full * 7 / 8),
           staleDue := t.staleDue || (t.age != age && age == full) }

/-- The tanks count in RUNNING and STOPPING, the fitted ones (R131). -/
def tickTanks (s : State) : Vector Tank 4 :=
  if working s then
    vecOf 4 (fun k => if tankFitted k s then tickTank s.latched.turnover s.water.tanks[k] else s.water.tanks[k])
  else s.water.tanks

/-- Every timer and per-second count (R102, R131, R173, R176). -/
def tickTimers (s : State) : State :=
  { s with
    ports := mapVec tickPort s.ports
    gate := { s.gate with timer := countDown s.gate.timer, recent := s.gate.recent.map tickRecent }
    yard := { s.yard with slots := mapVec tickVisit s.yard.slots }
    bays := mapVec tickBay s.bays
    water := { s.water with tanks := tickTanks s, pumpTimer := countDown s.water.pumpTimer }
    table := { s.table with lifetime := countDown s.table.lifetime, lockout := countDown s.table.lockout }
    clock := { s.clock with countdown := countDown s.clock.countdown } }

/-! ### The clock (R172) -/

/-- The next second. -/
def nextStamp (t : Stamp) : Stamp :=
  if t.second = 86399 then { day := t.day + 1, second := 0 } else { t with second := t.second + 1 }

/-- The clock's advance, with a rollover when the day changes (R172). -/
def advanceClock (s : State) : State :=
  let s1 := putClock { s.clock with now := nextStamp s.clock.now } s
  if s1.clock.now.day = s.clock.now.day then s1 else rollover 1 s.clock.now.day s1

/-- A depot-second boundary (R171, R172, R173); due work served first may have ended the run. What falls due at this boundary
is served after its rollover, a bay port's link timer and the grant its loss settles among it (R172; log 57). -/
def boundary (s : State) : State :=
  let s1 := serveDue s
  if s1.clock.running then conclude s1 (advanceClock (tickTimers s1)) else s1

/-- One period of the reference input (R171). -/
def referencePeriod (s : State) : State :=
  if s.clock.running then
    if s.clock.divider + 1 < s.latched.secondDivider then putClock { s.clock with divider := s.clock.divider + 1 } s
    else boundary (putClock { s.clock with divider := 0 } s)
  else s

/-! ### The commands -/

/-- DEPOT_SECOND_BOUNDARY (R171): the divider count reaches SECOND_DIVIDER. -/
def execDepotSecondBoundary (s : State) : Host.Outcome State Fault Refusal :=
  if s.clock.running then .next (boundary (putClock { s.clock with divider := 0 } s)) else .next s

/-- The clock set; a change of day is a rollover, and the clock's line is refreshed either way (R174). -/
def setClock (day : BitVec 16) (second : Nat) (s : State) : State :=
  let s1 := putClock { s.clock with now := { day := day, second := second } } s
  if day = s.clock.now.day then postLine 2 s1 else rollover 2 s.clock.now.day s1

/-- SET_CLOCK (R174). -/
def setClockOrder (entry : List Byte) (s : State) : Result × State :=
  if 86399 < arg32 entry then (.refusedRange, s)
  else (.done, setClock (BitVec.ofNat 16 (arg16 4 entry)) (arg32 entry) s)

/-- SET_CLOCK (R174). -/
def execSetClock (s : State) : Host.Outcome State Fault Refusal :=
  .next (orderRow (fun k => k == 14) setClockOrder s)

end Sys2Proof.Machine
end

