-- ==== Sys2Proof/Machine/Dispatch.lean ====
section
/-! DEFINITION. The meaning of each command: one arm per constructor of Instr. -/

namespace Sys2Proof.Machine

def exec (i : Instr) (s : State) : Host.Outcome State Fault Refusal :=
  match i with
  | .hostRead span addr => Sys2Proof.Machine.execHostRead span addr s
  | .hostWrite span addr bytes => Sys2Proof.Machine.execHostWrite span addr bytes s
  | .memoryPortFree => Sys2Proof.Machine.execMemoryPortFree s
  | .startValue => Sys2Proof.Machine.execStartValue s
  | .stopValue => Sys2Proof.Machine.execStopValue s
  | .hostHalfRead => Sys2Proof.Machine.execHostHalfRead s
  | .tableRead => Sys2Proof.Machine.execTableRead s
  | .balanceRead => Sys2Proof.Machine.execBalanceRead s
  | .orderPost => Sys2Proof.Machine.execOrderPost s
  | .unknownOrderKind => Sys2Proof.Machine.execUnknownOrderKind s
  | .noticeTaken => Sys2Proof.Machine.execNoticeTaken s
  | .poolPost => Sys2Proof.Machine.execPoolPost s
  | .serviceFirstKey => Sys2Proof.Machine.execServiceFirstKey s
  | .serviceSecondKey => Sys2Proof.Machine.execServiceSecondKey s
  | .serviceWrongValue => Sys2Proof.Machine.execServiceWrongValue s
  | .openFirstKey => Sys2Proof.Machine.execOpenFirstKey s
  | .openSecondKey => Sys2Proof.Machine.execOpenSecondKey s
  | .closeKey => Sys2Proof.Machine.execCloseKey s
  | .wrongEditKey => Sys2Proof.Machine.execWrongEditKey s
  | .commit => Sys2Proof.Machine.execCommit s
  | .commitReadback => Sys2Proof.Machine.execCommitReadback s
  | .resetInput => Sys2Proof.Machine.execResetInput s
  | .badFrame port frame => Sys2Proof.Machine.execBadFrame port frame s
  | .goodFrameArrival port frame => Sys2Proof.Machine.execGoodFrameArrival port frame s
  | .status port frame => Sys2Proof.Machine.execStatus port frame s
  | .linkFree port => Sys2Proof.Machine.execLinkFree port s
  | .linkTimer port => Sys2Proof.Machine.execLinkTimer port s
  | .sightTag gate => Sys2Proof.Machine.execSightTag gate s
  | .sightPlate gate => Sys2Proof.Machine.execSightPlate gate s
  | .pairingTimer => Sys2Proof.Machine.execPairingTimer s
  | .recentExitExpiry => Sys2Proof.Machine.execRecentExitExpiry s
  | .admitVisit => Sys2Proof.Machine.execAdmitVisit s
  | .turnAway => Sys2Proof.Machine.execTurnAway s
  | .setProgramme => Sys2Proof.Machine.execSetProgramme s
  | .cancelVisit => Sys2Proof.Machine.execCancelVisit s
  | .callTimer slot => Sys2Proof.Machine.execCallTimer slot s
  | .presence bay => Sys2Proof.Machine.execPresence bay s
  | .bayTag bay => Sys2Proof.Machine.execBayTag bay s
  | .meter bay => Sys2Proof.Machine.execMeter bay s
  | .stageTimer bay => Sys2Proof.Machine.execStageTimer bay s
  | .abortSession => Sys2Proof.Machine.execAbortSession s
  | .holdBay => Sys2Proof.Machine.execHoldBay s
  | .openBay => Sys2Proof.Machine.execOpenBay s
  | .level => Sys2Proof.Machine.execLevel s
  | .sample => Sys2Proof.Machine.execSample s
  | .calibrate => Sys2Proof.Machine.execCalibrate s
  | .pumpDone => Sys2Proof.Machine.execPumpDone s
  | .pumpTimer => Sys2Proof.Machine.execPumpTimer s
  | .circulationDue tank => Sys2Proof.Machine.execCirculationDue tank s
  | .tankStale tank => Sys2Proof.Machine.execTankStale tank s
  | .payment => Sys2Proof.Machine.execPayment s
  | .closePeriod => Sys2Proof.Machine.execClosePeriod s
  | .stopAccount => Sys2Proof.Machine.execStopAccount s
  | .resumeAccount => Sys2Proof.Machine.execResumeAccount s
  | .poolEntryRead => Sys2Proof.Machine.execPoolEntryRead s
  | .cutPage => Sys2Proof.Machine.execCutPage s
  | .depotSecondBoundary => Sys2Proof.Machine.execDepotSecondBoundary s
  | .setClock => Sys2Proof.Machine.execSetClock s
  | .monitorCountdown => Sys2Proof.Machine.execMonitorCountdown s
  | .lifetimeTimer => Sys2Proof.Machine.execLifetimeTimer s
  | .lockoutTimer => Sys2Proof.Machine.execLockoutTimer s
  | .resetPort => Sys2Proof.Machine.execResetPort s

end Sys2Proof.Machine
end

