-- ==== Sys2Proof/Machine/Step.lean ====
section
/-! DEFINITION. One step: the command at the front of the queue, or one reference period when none waits (log 2). -/

namespace Sys2Proof.Machine

/-- The state with the queue's rest. -/
def State.withPending (s : State) (rest : List Instr) : State := { s with pending := rest }

/-- Take the command at the front of the queue and run it with the queue's rest; on an empty queue one period of the
reference input passes (log 2). -/
def step (s : State) : Host.Outcome State Fault Refusal :=
  match s.pending with
  | [] => .next (referencePeriod s)
  | c :: rest => exec c (s.withPending rest)

/-- The state with the command a word spells put at the front of its queue; no word spells one (log 2). -/
def State.withFetchWord (s : State) (nbits w : Nat) : State :=
  match decodeTableWord nbits w with
  | none => s
  | some c => s.withPending (c :: s.pending)

end Sys2Proof.Machine
end

