-- ==== Sys2Proof/Safety.lean ====
section
/-! DEFINITION. What statements speak of: the part of the state a shared operation leaves alone, and the properties every
step keeps. -/

namespace Sys2Proof.Machine

/-! ### What most operations leave alone -/

/-- The Path Unit without its internal request queue and the WRITE_DROPPED position. -/
structure PathKept where
  map : RegionMap
  bases : Bases
  dropped : Word
  dropAddr : Word
  dropClass : Option DropClass
  hostRun : Nat
  host : Option HostTxn
  waiting : List HostOp
  port : Option PortTxn
  readData : List Byte
  handed : List Handed
  returned : List (ReadTag × List Byte)
  deriving DecidableEq, Repr

def pathKept (p : PathUnit) : PathKept :=
  { map := p.map, bases := p.bases, dropped := p.dropped, dropAddr := p.dropAddr, dropClass := p.dropClass,
    hostRun := p.hostRun, host := p.host, waiting := p.waiting, port := p.port, readData := p.readData,
    handed := p.handed, returned := p.returned }

/-- The Exchange Unit without the notice ring's producer side. -/
structure ExchangeKept where
  part : PartState
  loadError : Option LoadError
  loadErrorField : Nat
  orderTaken : Count
  orderPosted : Count
  taken : Count
  startProducer : Count
  inExecution : Bool
  deriving DecidableEq, Repr

def exchangeKept (e : ExchangeUnit) : ExchangeKept :=
  { part := e.part, loadError := e.loadError, loadErrorField := e.loadErrorField, orderTaken := e.orderTaken,
    orderPosted := e.orderPosted, taken := e.taken, startProducer := e.startProducer,
    inExecution := e.inExecution }

/-- What the shared operations on ports, visits, bays, water and lines leave alone. -/
structure Kept where
  mem : List Host.Cell
  path : PathKept
  exch : ExchangeKept
  latched : Latched
  tagMap : List (Tag × Nat)
  plateMap : List (Plate × Nat)
  calibrated : Bool
  calDay : BitVec 16
  calTemp : Int
  probeExpired : Bool
  table : TableUnit
  invoice : Word
  poolPosted : Count
  clock : ClockUnit
  pending : List Instr
  deriving DecidableEq, Repr

def kept (s : State) : Kept :=
  { mem := s.mem, path := pathKept s.path, exch := exchangeKept s.exch, latched := s.latched,
    tagMap := s.gate.tagMap, plateMap := s.gate.plateMap, calibrated := s.water.calibrated,
    calDay := s.water.calDay, calTemp := s.water.calTemp, probeExpired := s.water.probeExpired,
    table := s.table, invoice := s.tally.invoice, poolPosted := s.tally.poolPosted, clock := s.clock,
    pending := s.pending }

/-! ### Properties every step keeps -/

/-- Memory keeps its canonical form (log 4). -/
def memoryCanonical (s : State) : Bool := Memory.wf s.mem

/-- The internal request queue holds at most 64 requests (R14). -/
def queueBounded (s : State) : Bool := s.path.queue.length ≤ Config.queuePlaces

/-- The host run count runs from 0 to 4 (R18). -/
def hostRunBounded (s : State) : Bool := s.path.hostRun ≤ 4

/-- The fallback flag and the fault line go with LAPSED, and outside RUNNING and STOPPING the monitor is IDLE, or LAPSED in
HALTED (R25, R176, R177). -/
def lapseLawful (s : State) : Bool :=
  (!s.clock.fallback || s.clock.monitor == .lapsed) && (s.clock.faultLine == (s.clock.monitor == .lapsed))
    && (working s || s.clock.monitor == .idle || (s.exch.part == .halted && s.clock.monitor == .lapsed))

/-- Fresh drawn today stays within the allowance and the reserve (R121). -/
def freshBounded (s : State) : Bool := freshDrawn s ≤ s.latched.freshAllowance + s.latched.freshReserve

/-- Every frame queue stays within its places (R46, R49). -/
def portsBounded (s : State) : Bool :=
  s.ports.toList.all (fun x => decide (x.inbound.length ≤ Config.inboundPlaces)
    && decide (x.outbound.length ≤ Config.outboundPlaces))

/-- The touched list holds at most 32 entries (R144). -/
def touchedBounded (s : State) : Bool := s.table.touched.length ≤ Config.touchedPlaces

/-- The attention line (R35): while the ring's location is accepted it shows that the counts differ; in DORMANT and in
LOADING before acceptance it is low, and there no notice and no completion waits for the Exchange Unit. -/
def attentionLawful (s : State) : Bool :=
  (!accepted s || (s.exch.attention == (s.exch.producer != s.exch.taken)))
    && (accepted s || s.exch.part == .halted || !s.exch.attention)
    && (accepted s || s.exch.part == .halted || s.path.arrived.all (fun a => match a.event with
          | .ask (.notice _ _) | .ask .complete => false
          | .ask (.refresh _) | .ask .windDown | .value _ | .read _ _ | .told _ | .closing _ => true))

/-- An internal copy's indices rise strictly. -/
abbrev copySorted {α : Type} (m : List (Nat × α)) : Prop := (m.map Prod.fst).Pairwise (· < ·)

/-- The four internal copies hold each index once, rising (R138). -/
def copiesSorted (s : State) : Bool :=
  decide (copySorted s.table.vehicles) && decide (copySorted s.table.accounts)
    && decide (copySorted s.table.programmes) && decide (copySorted s.table.tariffs)

/-! ### Words for statements -/

/-- No event waits for a unit that could not take it when it fell (R14). -/
def nothingLate (s : State) : Bool := s.path.arrived.all (fun a => !a.late)

/-- A pair with a sighting of a kind it does not hold yet (R58). -/
def Pair.joined (p : Pair) : Sighting → Option Pair
  | .tag t => if p.tag.isNone then some { p with tag := some t } else none
  | .plate text n => if p.plate.isNone then some { p with plate := some (text, n) } else none

/-- A pair holds a sighting of this kind with this value; a plate's confidence is no part of its value (R58). -/
def Pair.holdsValue (p : Pair) : Sighting → Bool
  | .tag t => p.tag == some t
  | .plate text _ => p.plate.map Prod.fst == some text

/-- An issue as it stands while held, read as a request. -/
def Issue.isRequest (r : Request) : Issue → Bool
  | .read tag addr lines => r == .read tag addr lines
  | .place addr bytes => r == .place addr bytes
  | .refresh _ => false

/-- A placement or read has been issued: it stands in the queue, or is held for a place (R14). -/
def issued (r : Request) (s : State) : Bool :=
  s.path.queue.contains r || s.path.held.any (fun h => h.issue.isRequest r)

/-- The Exchange Unit has issued a placement (R14). -/
def asked (addr : Nat) (bytes : List Byte) (s : State) : Bool := issued (.place addr bytes) s

/-- A placement's address and bytes. -/
def Request.placed : Request → Option (Nat × List Byte)
  | .place addr bytes => some (addr, bytes)
  | .read _ _ _ | .refresh _ _ _ => none
def Issue.placed : Issue → Option (Nat × List Byte)
  | .place addr bytes => some (addr, bytes)
  | .read _ _ _ | .refresh _ => none

/-- The placements issued and not yet performed, in the order they reach memory: queued, then held (R14, R15). -/
def placements (s : State) : List (Nat × List Byte) :=
  s.path.queue.filterMap Request.placed ++ s.path.held.filterMap (fun h => h.issue.placed)

/-- A page's record raised by a line: its used bytes by 24 and the items', its count, its times (R163). -/
def Page.raised (p : Page) (l : TallyLine) : Page :=
  { p with used := p.used + 24 + l.items.length, lines := p.lines + 1,
           firstTime := some (p.firstTime.getD l.time), lastTime := some l.time }

/-- The placements of a line on a page: its items, if any, its header, the page's header (R163). -/
def linePlacements (p : Page) (l : TallyLine) : List (Nat × List Byte) :=
  (if l.items = [] then [] else [(p.addr + p.used + 24, l.items)]) ++
    [(p.addr + p.used, l.header), (p.addr, (p.raised l).header false)]

/-- The placements of lines on a page, one after another from the head (R167). -/
def drainPlacements : Page → List TallyLine → List (Nat × List Byte)
  | _, [] => []
  | p, l :: ls => linePlacements p l ++ drainPlacements (p.raised l) ls

/-- The refresh of a record has been asked for: it stands in the queue, is held, or waits for the unit (R14, R15). -/
def refreshAsked (r : Rec) (s : State) : Bool :=
  s.path.queue.any (fun q => q.refreshes r) || s.path.held.any (fun h => h.issue == .refresh r)
    || s.path.arrived.any (fun a => a.event == .ask (.refresh r))

/-- None of the placements that a unit holds stands behind a held refresh of the record (R15). -/
abbrev noneBehind (u : UnitId) (r : Rec) (s : State) : Prop :=
  s.path.held.Pairwise (fun a b => a.issue = .refresh r → Held.placedBy u b = false)

/-- Nothing waits at the processor port, and no handed value stands before it (R1; log 7). -/
abbrev portIdle (s : State) : Prop := s.path.host = none ∧ s.path.waiting = [] ∧ s.path.handed = []

/-- No unit holds a request, no event waits for one, no closing waits for room, and the pending list is below the pause with
the flag clear (R14, R168). -/
abbrev calm (s : State) : Prop :=
  s.path.held = [] ∧ nothingLate s = true ∧ s.tally.closings = [] ∧ s.tally.pause = false ∧
    pendingCount s < Config.pauseCount

/-- A calm part in RUNNING with the fallback flag clear. -/
abbrev quiet (s : State) : Prop := calm s ∧ s.exch.part = .running ∧ s.clock.fallback = false

/-- In RUNNING an order entry of a kind has been read back and is in execution (R31), no unit holds a request, and no event
waits for the units it acts on. -/
abbrev orderRead (kind : Nat) (entry : List Byte) (s : State) : Prop :=
  s.exch.part = .running ∧ s.exch.inExecution = true ∧ s.path.held = [] ∧
    waits .exchange s = false ∧ waits .tally s = false ∧
    findReturned isOrder s = some (.order, entry) ∧ orderKind entry = kind

/-- The same in a calm part. -/
abbrev orderReady (kind : Nat) (entry : List Byte) (s : State) : Prop := calm s ∧ orderRead kind entry s

/-- The row that acts on an EDIT KEY value, and on a SERVICE value. -/
def editCommand : Handed → Option Instr
  | .openFirst _ => some .openFirstKey
  | .openSecond _ => some .openSecondKey
  | .closeWindow => some .closeKey
  | .wrongKey => some .wrongEditKey
  | _ => none
def serviceCommand : Handed → Option Instr
  | .serviceFirst => some .serviceFirstKey
  | .serviceSecond => some .serviceSecondKey
  | .serviceWrong _ => some .serviceWrongValue
  | _ => none

/-- The order has ended with a result (R31): its result word is asked for and ORDER TAKEN has advanced by one. -/
abbrev answered (r : Result) (s t : State) : Prop :=
  asked (orderAddr s.exch.orderTaken s + 28) (le 2 r.code ++ le 2 s.exch.orderTaken.toNat) t = true ∧
    t.exch.orderTaken = s.exch.orderTaken + 1

/-- A notice has been asked for (R33): placed at the producer count, which advanced, or OVERRUN set on a full ring. -/
abbrev noticeGiven (n : Notice) (s t : State) : Prop :=
  if dist s.exch.taken s.exch.producer < Config.noticeEntries then
    asked (s.path.bases.noticeRing + 16 * (s.exch.producer.toNat % 256)) (n.bytes s.clock.now) t = true ∧
      t.exch.producer = s.exch.producer + 1
  else t.exch.overrun = true ∧ t.exch.producer = s.exch.producer

/-- A visit's line has been charged (R156): the account it names has the total on its balance and its period charges, one
more visit, CREDIT_STOP at its condition (R152) and its record's refresh asked for; without an account nothing changes. -/
abbrev lineCharged (v : Visit) (total : Nat) (s t : State) : Prop :=
  (v.account = none → t.tally.accounts = s.tally.accounts) ∧
  ∀ a : AccountId, v.account = some a → refreshAsked (.balance a) t = true ∧
    t.tally.accounts = s.tally.accounts.set a { s.tally.accounts[a] with
      balance := s.tally.accounts[a].balance + total
      charges := s.tally.accounts[a].charges + total
      visitCount := s.tally.accounts[a].visitCount + 1
      creditStop := match lookup s.table.accounts a.val with
        | none => false
        | some e => decide (e.limit ≤ s.tally.accounts[a].balance + total) }

/-- A notice stands as the one after `k` others that an event has given (R33): placed at its position, with the clock it was
asked at, or OVERRUN set on a full ring. -/
abbrev noticeNth (k : Nat) (n : Notice) (now : Stamp) (s t : State) : Prop :=
  (dist s.exch.taken s.exch.producer + k < 256 →
    asked (s.path.bases.noticeRing + 16 * ((s.exch.producer.toNat + k) % 256)) (n.bytes now) t = true) ∧
  (256 ≤ dist s.exch.taken s.exch.producer + k → t.exch.overrun = true)

/-! ### A port that goes DOWN (R43) -/

/-- A port has gone DOWN (R43): its queues flushed and counted, its flags, run, timer and pending flow frame gone, a frame
whose transmission has begun kept, PORT_DOWN asked for. A bay that waits for water is in WAITING_WATER (R122). -/
abbrev portFlushed (p : PortId) (reason : DownReason) (s t : State) : Prop :=
  t.ports[p].link = .down ∧ t.ports[p].downReason = some reason ∧ t.ports[p].timer = none ∧
  t.ports[p].inbound = [] ∧ t.ports[p].outbound = [] ∧ t.ports[p].hold = false ∧ t.ports[p].overflow = false ∧
  t.ports[p].flow = none ∧ t.ports[p].badRun = 0 ∧ t.ports[p].sending = s.ports[p].sending ∧
  t.ports[p].inDiscarded = s.ports[p].inDiscarded + BitVec.ofNat 16 s.ports[p].inbound.length ∧
  ((∀ e ∈ s.water.waitList, bayPort e.bay = p → s.bays[e.bay].state = .waitingWater) →
    t.ports[p].outDiscarded = s.ports[p].outDiscarded + BitVec.ofNat 16 s.ports[p].outbound.length) ∧
  (s.path.queue.length ≤ 32 →
    noticeNth 0 { kind := .portDown, subject := p.val, first := reason.code } s.clock.now s t)

/-- The entry gate has lost its port (R55). -/
abbrev entryGateLost (s t : State) : Prop :=
  t.gate = { s.gate with entry := .down, pair := none, outcome := none, timer := none } ∧ t.yard = s.yard ∧
  ∀ p, s.gate.pair = some p → s.path.queue.length ≤ 32 →
    let w := identityWords p.tag (p.plate.map Prod.fst)
    noticeNth 1 { kind := .entryPairDiscarded, reason := 1,
                  subject := sightingSubject entryPort 0x7F p.tag.isNone,
                  first := lowWord w, second := highWord w } s.clock.now s t

/-- The plant has lost its port (R133, R135). -/
abbrev plantPortLost (s t : State) : Prop :=
  let changed := allTanks.filter (fun k => tankFitted k s && s.water.tanks[k].quality != .uncertain)
  (∀ k : TankId, tankFitted k s = true → t.water.tanks[k].quality = .uncertain) ∧ t.water.run = none ∧
  (s.water.run = none → t.water.pumpQueue = s.water.pumpQueue ∧ t.water.grants = s.water.grants ∧ t.bays = s.bays) ∧
  (∀ r, s.water.run = some r → t.water.pumpTimer = none ∧
    t.water.pumpQueue = pumpInsert { tank := r.tank, kind := r.kind, joined := s.clock.now } s.water.pumpQueue ∧
    t.water.tanks[r.tank].pumpPending = true ∧ t.water.tanks[r.tank].pumpRunning = false ∧
    (s.water.waitList = [] → t.water.grants = s.water.grants ∧ t.bays = s.bays) ∧
    (s.path.queue.length ≤ 32 → noticeNth (1 + changed.length)
      { kind := .pumpFailed, reason := 3, subject := r.tank.val, first := r.kind.code } s.clock.now s t))

/-- A session has ended with PORT_LOST (R107, R110): the visit WASHED with its summary, SESSION_ABORTED asked for. -/
abbrev sessionLost (b : BayId) (z : Session) (v : Visit) (m : Summary) (s t : State) : Prop :=
  t.yard = { s.yard with slots := s.yard.slots.set z.slot (some { v with
    state := .washed, outcome := some .aborted, summary := some m }) } ∧
  (s.path.queue.length ≤ 32 → noticeNth 1
    { kind := .sessionAborted, reason := AbortReason.portLost.code, subject := b.val, first := z.serial.toNat,
      second := z.completed } s.clock.now s t)

/-- A bay has lost its port (R110), by the bay's state. -/
abbrev bayPortLost (b : BayId) (s t : State) : Prop :=
  let x : Bay := { s.bays[b] with presence := .unknown, lastTag := none }
  let after : Bay := { x with bound := none, session := none, timer := none, holdAfter := false,
                              state := if s.bays[b].holdAfter then .closed else .fault }
  t.bays[b].presence = .unknown ∧
  (x.state = .free ∨ x.state = .closed ∨ x.state = .fault →
    t.bays = s.bays.set b x ∧ t.yard = s.yard ∧ t.water = s.water) ∧
  (x.state = .clearing → t.yard = s.yard ∧ t.water = s.water ∧
    t.bays = s.bays.set b { x with state := after.state, holdAfter := false }) ∧
  (∀ (slot : Slot) (v : Visit), x.state = .calling → x.bound = some slot → s.yard.slots[slot] = some v →
    (∀ c : BayId, c ≠ b → s.bays[c].state ≠ .free) →
    let w : Visit := { v with state := .queued, bay := none, callTimer := none }
    t.bays = s.bays.set b { x with state := after.state, holdAfter := false, bound := none } ∧ t.water = s.water ∧
    t.yard.slots = s.yard.slots.set slot (some w) ∧
    t.yard.queue = enqueueAt t.yard.slots slot w s.yard.queue ∧
    (s.path.queue.length ≤ 32 → noticeNth 1
      { kind := .callWithdrawn, reason := 1, subject := slot.val, first := v.serial.toNat,
        second := bayValue v.bay } s.clock.now s t)) ∧
  (∀ (z : Session) (r : StageRun) (v : Visit), x.session = some z → z.stages[z.current]? = some r →
    r.complete = false → s.yard.slots[z.slot] = some v →
    let m : Summary := {
      completed := z.completed, total := z.stages.length, fresh := z.fresh, reclaim := z.reclaim,
      detergent := z.detergent + ceilDiv (r.stage.rate * r.elapsed) 60, overrun := z.overrun,
      abort := some .portLost }
    (x.state = .waitingWater → t.bays = s.bays.set b after ∧ sessionLost b z v m s t ∧
      t.water = { s.water with waitList := s.water.waitList.filter (fun e => e.bay != b) }) ∧
    (∀ p : Part, x.state = .running ∨ x.state = .settling → z.part = some p → s.water.waitList = [] →
      s.water.pumpQueue = [] → p.grant = none ∨ (∃ g, s.water.grants[b] = some g ∧ p.grant = some g.number) →
      t.bays = s.bays.set b after ∧
      sessionLost b z v { m with
        fresh := z.fresh + (if p.source = .fresh then p.last else 0)
        reclaim := z.reclaim + (match p.source with | .tank _ => p.last | .fresh => 0 | .none => 0)
        overrun := z.overrun + (if p.grant.isSome then p.last - p.granted else 0) } s t ∧
      (p.grant = none → t.water = s.water) ∧
      (∀ g k, s.water.grants[b] = some g → p.grant = some g.number → g.source = .tank k →
        t.water = { s.water with
          grants := s.water.grants.set b none
          tanks := s.water.tanks.set k { s.water.tanks[k] with grants := s.water.tanks[k].grants.erase b } }) ∧
      (∀ g, s.water.grants[b] = some g → p.grant = some g.number → g.source = .fresh →
        t.water = { s.water with grants := s.water.grants.set b none,
                                 settled := s.water.settled + min p.last g.granted })))

/-- The role unit of a port has acted on its loss (R43, R55, R69, R110, R135). -/
abbrev roleUnitLost (p : PortId) (s t : State) : Prop :=
  (p = entryPort → entryGateLost s t) ∧
  (p = exitPort → t.gate = { s.gate with exitReady := false, recent := [] } ∧ t.yard = s.yard) ∧
  (p = plantPort → plantPortLost s t) ∧ ∀ b : BayId, p = bayPort b → bayPortLost b s t

/-! ### A stage part of a water class (R100, R119, R120, R122) -/

/-- The grant a request makes (R118, R119). -/
def grantMade (src : Source) (litres : Nat) (reserve : Bool) (s : State) : Grant :=
  { number := if s.water.counter = 65535 then 1 else s.water.counter + 1, source := src, granted := litres,
    metered := 0, revoked := false, day := s.clock.now.day, reserve := reserve }

/-- A part has started on a grant, entered in the bay's place and on its tank's list (R100, R119, R120, R121). -/
abbrev partStarted (b : BayId) (g : Stage) (seconds litres : Nat) (src : Source) (reserve : Bool) (s t : State) : Prop :=
  let m := grantMade src litres reserve s
  t.bays[b].state = .running ∧ t.bays[b].timer = some seconds ∧
  (∃ z, t.bays[b].session = some z ∧ z.part = some {
    grant := some m.number, source := src, granted := litres, last := 0, revoked := false }) ∧
  t.ports[bayPort b].outbound =
    s.ports[bayPort b].outbound ++ [stageStartFrame g.kind src g.flow litres] ∧
  t.water.grants = s.water.grants.set b (some m) ∧ t.water.counter = m.number ∧
  t.water.waitList = s.water.waitList ∧ t.water.reserveGiven = (s.water.reserveGiven || reserve) ∧
  (∀ k, src = .tank k → t.water.tanks =
    s.water.tanks.set k { s.water.tanks[k] with grants := s.water.tanks[k].grants ++ [b] }) ∧
  (src = .fresh → t.water.tanks = s.water.tanks) ∧
  (s.water.grants[b] = none → (∀ k, src = .tank k → owed k t = owed k s + litres) ∧
    (src = .fresh → freshDrawn t = freshDrawn s + litres))

/-- A part has been refused its water: the bay waits, its entry at the tail of the wait list (R100, R120, R122). -/
abbrev partWaits (b : BayId) (w : WaterClass) (litres : Nat) (stageDone : Bool) (s t : State) : Prop :=
  t.bays[b].state = .waitingWater ∧ t.bays[b].timer = none ∧
  t.ports[bayPort b].outbound = s.ports[bayPort b].outbound ∧
  t.water = { s.water with exhaustedGiven := true, waitList := s.water.waitList ++
    [{ bay := b, water := w, litres := litres, stageDone := stageDone }] }

/-! ### The bay queue's order (R80) -/

/-- Of two queued visits the first stands before the second. -/
def queuedBefore (s : State) (p q : Slot) : Prop :=
  ∀ v w, s.yard.slots[p] = some v → s.yard.slots[q] = some w → standsBefore v w = true

/-- Nothing but the Path Unit's requests, the Exchange Unit's positions, the free values and the commands differs. -/
abbrev sameUnits (s t : State) : Prop :=
  t.mem = s.mem ∧ t.latched = s.latched ∧ t.ports = s.ports ∧ t.gate = s.gate ∧ t.yard = s.yard ∧
    t.bays = s.bays ∧ t.water = s.water ∧ t.table = s.table ∧ t.tally = s.tally ∧ t.clock = s.clock

/-- The three arrival commands: the Port Unit judges the frame whichever brings it (log 36). -/
def arrivals (p : PortId) (f : Frame) : List Instr := [.badFrame p f, .goodFrameArrival p f, .status p f]

end Sys2Proof.Machine
end

