-- ==== Sys2Proof/Certificates/Slice0/Obligations.lean ====
section
/-! DEFINITION. The statements about the Elzorin 7208, from the numbered rules of its manual. -/

open Sys2Proof Sys2Proof.Machine

/-! ### The command queue -/

/-- A step takes the command at the front of the queue and runs it with the queue's rest. -/
def Obligations.StepRunsFrontCommand : Prop :=
  ∀ (c : Instr) (rest : List Instr) (s : State), s.pending = c :: rest → step s = exec c (s.withPending rest)

/-- On an empty queue one period of the reference input passes (the model's choice, log 2): nothing while the divider is
stopped, the divider count rises by one below SECOND_DIVIDER, and there it is a depot-second boundary (R171). -/
def Obligations.EmptyQueueIsOneReferencePeriod : Prop :=
  ∀ s : State, s.pending = [] →
    (s.clock.running = false → step s = .next s) ∧
    (s.clock.running = true → s.clock.divider + 1 < s.latched.secondDivider →
      step s = .next { s with clock := { s.clock with divider := s.clock.divider + 1 } }) ∧
    (s.clock.running = true → s.latched.secondDivider ≤ s.clock.divider + 1 →
      step s = exec .depotSecondBoundary s)

/-- No command changes the queue of commands that wait.
Every well-formed command answers a next state in every state; the one stop is a host transaction that is not one
aligned word or line with a mask bit a byte (the model's choice, log 9), and nothing is refused. -/
def Obligations.CommandsAnswerAndKeepTheQueue : Prop :=
  (∀ (c : Instr) (s t : State), exec c s = .next t → t.pending = s.pending) ∧
  ((∀ (c : Instr) (s : State), c.wellFormed = true → ∃ t, exec c s = .next t) ∧
  (∀ (span : Span) (addr : Word) (s : State), span.aligned addr = false →
    exec (.hostRead span addr) s = .fault .malformedTransaction) ∧
  (∀ (span : Span) (addr : Word) (bytes : List (Option Byte)) (s : State),
    span.aligned addr = false ∨ bytes.length ≠ span.size →
    exec (.hostWrite span addr bytes) s = .fault .malformedTransaction) ∧
  (∀ (c : Instr) (s : State) (r : Refusal), exec c s ≠ .refused r))

/-! ### The memory path (chapter 1) -/

/-- At an idle processor port, which takes the transaction at once; it then stays at the port until the memory port is next
free (the model's reading, log 6), behind the queued posts of its line (R16).
HOST_READ in every part state and to every address: the read is forwarded and nothing else changes (R2).
HOST_WRITE in DORMANT and HALTED: forwarded wherever it lands, handing nothing but a whole START word (R5).
HOST_WRITE in LOADING, RUNNING and STOPPING outside the guarded tables and not dropped: forwarded, handing the values
of the control words it covers, and in LOADING none (R6, R10). The values stand in ascending order of the words, START,
SERVICE, EDIT KEY, ORDER POST, NOTICE TAKEN, POOL POST (R10). A whole word hands its value, a count word its low 16 bits; a
word written in part hands a wrong value for SERVICE and EDIT KEY and nothing for the others; a word of which no byte is
written hands nothing (R11); the keys are those of R25, R142 and R176. -/
def Obligations.HostTransactionsAreForwarded : Prop :=
  (∀ (span : Span) (addr : Word) (s : State), portIdle s → span.aligned addr = true →
    exec (.hostRead span addr) s = .next { s with path := { s.path with
      host := some { op := .read span addr, hands := [], behind := behindOf (addr.toNat / 32) s.path.queue } } }) ∧
  (∀ (span : Span) (addr : Word) (bytes : List (Option Byte)) (s : State), portIdle s →
    (Instr.hostWrite span addr bytes).wellFormed = true → s.exch.part = .dormant ∨ s.exch.part = .halted →
    exec (.hostWrite span addr bytes) s = .next { s with path := { s.path with
      host := some { op := .write span addr bytes,
                     hands := handsStart (coverage addr.toNat Config.hostHalf bytes),
                     behind := behindOf (addr.toNat / 32) s.path.queue } } }) ∧
  (∀ (span : Span) (addr : Word) (bytes : List (Option Byte)) (s : State), portIdle s →
    (Instr.hostWrite span addr bytes).wellFormed = true → supervised s = true →
    dropOf addr.toNat s = none → guardedEntry addr.toNat s = none →
    exec (.hostWrite span addr bytes) s = .next { s with path := { s.path with
      host := some { op := .write span addr bytes,
                     hands := if s.exch.part = .loading then [] else controlHands addr.toNat bytes,
                     behind := behindOf (addr.toNat / 32) s.path.queue } } }) ∧
  (∀ (addr : Nat) (bytes : List (Option Byte)),
    let word := fun off => coverage addr (0x00100000 + off) bytes
    controlHands addr bytes = handsStart (word 0) ++ handsService (word 4) ++ handsEdit (word 8) ++
      handsCount .orderPost (word 12) ++ handsCount .noticeTaken (word 16) ++ handsCount .poolPost (word 20)) ∧
  (∀ v : Word,
    handsStart (.whole v) = (if v = 0x53A70C11 then [.start] else if v = 0x53A70CEE then [.stop] else []) ∧
    handsService (.whole v) = [if v = 0x61C30A5D then .serviceFirst
      else if v = 0x1F4E7B02 then .serviceSecond else .serviceWrong (some v)] ∧
    (v = 0x0C1A0000 → handsEdit (.whole v) = [.closeWindow]) ∧
    (∀ u : TableId, (v = 0x4B3D0000 + BitVec.ofNat 32 u.code → handsEdit (.whole v) = [.openFirst u]) ∧
      (v = 0x2E910000 + BitVec.ofNat 32 u.code → handsEdit (.whole v) = [.openSecond u])) ∧
    (v ≠ 0x0C1A0000 → (∀ u : TableId, v ≠ 0x4B3D0000 + BitVec.ofNat 32 u.code ∧
      v ≠ 0x2E910000 + BitVec.ofNat 32 u.code) → handsEdit (.whole v) = [.wrongKey]) ∧
    ∀ mk : Count → Handed, handsCount mk (.whole v) = [mk (v.truncate 16)]) ∧
  (handsStart .partly = [] ∧ handsService .partly = [.serviceWrong none] ∧ handsEdit .partly = [.wrongKey] ∧
    handsStart .untouched = [] ∧ handsService .untouched = [] ∧ handsEdit .untouched = [] ∧
    ∀ mk : Count → Handed, handsCount mk .partly = [] ∧ handsCount mk .untouched = []) ∧
  (∀ (addr word : Nat) (bytes : List (Option Byte)),
    let part := if addr ≤ word then (bytes.drop (word - addr)).take 4 else []
    (∀ x y z w : Byte, part = [some x, some y, some z, some w] →
      coverage addr word bytes = .whole (BitVec.ofNat 32 (leNat [x, y, z, w]))) ∧
    ((∀ x y z w : Byte, part ≠ [some x, some y, some z, some w]) → coverage addr word bytes =
      if part.any Option.isSome then .partly else .untouched))

/-- HOST_WRITE dropped: at its arrival it is counted, its byte address and class are recorded, and the refresh of the line
that holds the three is issued; it completes at once, and memory and the values handed are as they were.
In DORMANT and HALTED no write is dropped, and after the reset input the class is NONE and the address 0 (R12).
A drop that gives no notice of its table's own asks for one WRITE_DROPPED while the ring's location is accepted, unless the
one at the position kept is outstanding; the position kept is then the one it is written at, or none on a full ring (R13).
While the Exchange Unit holds a request, what it is asked for waits for it (R14; log 10). -/
def Obligations.DroppedWriteIsCounted : Prop :=
  (∀ (span : Span) (addr : Word) (bytes : List (Option Byte)) (c : DropClass) (s : State), portIdle s →
    (Instr.hostWrite span addr bytes).wellFormed = true → supervised s = true →
    dropOf addr.toNat s = some c →
    ∃ t, exec (.hostWrite span addr bytes) s = .next t ∧ t.path.dropped = s.path.dropped + 1 ∧
      t.path.dropAddr = addr ∧ t.path.dropClass = some c ∧ refreshAsked (.line 1) t = true ∧
      t.path.host = none ∧ t.path.waiting = [] ∧ t.path.handed = [] ∧ t.mem = s.mem) ∧
  (∀ s : State, recBytes (.line 1) s = pad 32 (le 4 s.path.dropped.toNat ++ le 4 s.path.dropAddr.toNat ++
    [byte (codeOr DropClass.code s.path.dropClass)])) ∧
  (∀ (span : Span) (addr : Word) (bytes : List (Option Byte)) (s t : State),
    s.exch.part = .dormant ∨ s.exch.part = .halted → exec (.hostWrite span addr bytes) s = .next t →
    t.path.dropped = s.path.dropped ∧ t.path.dropAddr = s.path.dropAddr ∧ t.path.dropClass = s.path.dropClass) ∧
  (∀ s : State, ∃ t, exec .resetInput s = .next t ∧ t.path.dropClass = none ∧ t.path.dropAddr = 0) ∧
  (∀ s : State, dropOutstanding s = true ↔ ∃ p, s.path.dropPos = some p ∧
    dist p s.exch.producer ≤ dist s.exch.taken s.exch.producer) ∧
  (∀ (span : Span) (addr : Word) (bytes : List (Option Byte)) (c : DropClass) (s : State), portIdle s →
    (Instr.hostWrite span addr bytes).wellFormed = true → supervised s = true → dropOf addr.toNat s = some c →
    (∀ u e, guardedEntry addr.toNat s = some (u, e) → s.table.window ≠ .opened u) →
    let n : Notice := { kind := .writeDropped, subject := c.code, first := addr.toNat,
                        second := (s.path.dropped + 1).toNat }
    ∃ t, exec (.hostWrite span addr bytes) s = .next t ∧
      (accepted s = false ∨ dropOutstanding s = true →
        t.exch = s.exch ∧ t.path.dropPos = s.path.dropPos) ∧
      (accepted s = true → dropOutstanding s = false → busy .exchange s = false → noticeGiven n s t ∧
        t.path.dropPos =
          if dist s.exch.taken s.exch.producer < Config.noticeEntries then some s.exch.producer else none) ∧
      (accepted s = true → dropOutstanding s = false → busy .exchange s = true →
        t.path.arrived.map Arrival.event = s.path.arrived.map Arrival.event ++ [.ask (.notice n s.clock.now)] ∧
        waits .exchange t = true ∧ t.path.dropPos = s.path.dropPos))

/-- Where writes are judged and what drops them: the layout page under both maps, and under the full map each region by
its row (R6). -/
def Obligations.JudgementByPlace : Prop :=
  ∀ (a : Nat) (s : State),
    (s.path.map = .provisional → within a Config.statusHalf Config.halfSize = false → dropOf a s = none) ∧
    (s.path.map ≠ .clear → within a Config.statusHalf Config.halfSize = true → dropOf a s = some .statusHalf) ∧
    (s.path.map ≠ .clear → within a Config.hostHalf Config.halfSize = true → dropOf a s = none) ∧
    (s.path.map = .full → within a Config.hostHalf Config.halfSize = false →
      within a Config.statusHalf Config.halfSize = false →
      (placeInRegions s.path.bases a = .noticeRing → dropOf a s = some .noticeRing) ∧
      (placeInRegions s.path.bases a = .visitArea → dropOf a s = some .visitArea) ∧
      (placeInRegions s.path.bases a = .balanceArea → dropOf a s = some .balanceArea) ∧
      (placeInRegions s.path.bases a = .poolRing ∨ placeInRegions s.path.bases a = .plain → dropOf a s = none) ∧
      (∀ i, placeInRegions s.path.bases a = .orderEntry i →
        dropOf a s = if entryClaimed i s then some .orderEntry else none) ∧
      (placeInRegions s.path.bases a = .tallySpan →
        dropOf a s = if inCurrentPage a s then some .tallyPage else none) ∧
      (∀ u e, placeInRegions s.path.bases a = .guarded u e →
        dropOf a s = if guardedForward u e s then none else some (.guarded u)))

/-- A host write is judged by its line's place, whatever its byte mask: with an accepted copy, whose regions are aligned and
apart, every byte of a line lies in one place; two writes that differ in their mask alone are both dropped or both
forwarded; one that names no byte leaves memory as it is; and a word is written whole, a commit word included, when the
mask names its four bytes (R7). -/
def Obligations.WriteJudgedAsAWhole : Prop :=
  (∀ (m : RegionMap) (c : List Byte) (a a' : Nat), validate c = none → a / 32 = a' / 32 →
    placeOf m (basesOf c) a = placeOf m (basesOf c) a') ∧
  (∀ (span : Span) (addr : Word) (bytes bytes' : List (Option Byte)) (s t t' : State), portIdle s →
    exec (.hostWrite span addr bytes) s = .next t → exec (.hostWrite span addr bytes') s = .next t' →
    (t.path.host = none ↔ t'.path.host = none) ∧ t.path.dropped = t'.path.dropped ∧
      t.path.dropClass = t'.path.dropClass) ∧
  (∀ (m : Memory) (a n : Nat), Memory.writeMasked m a (List.replicate n none) = m) ∧
  (∀ c : List Byte, validate c = none → (∀ r ∈ regionsOf c, r.2.1 % 32 = 0) ∧
    (regionsOf c).Pairwise (fun r q => overlaps r.2.1 r.2.2 q.2.1 q.2.2 = false)) ∧
  (∀ (addr word : Nat) (bytes : List (Option Byte)) (v : Word), coverage addr word bytes = .whole v ↔
    addr ≤ word ∧ ∃ x y z w : Byte,
      (bytes.drop (word - addr)).take 4 = [some x, some y, some z, some w] ∧
      v = BitVec.ofNat 32 (leNat [x, y, z, w])) ∧
  (∀ (u : TableId) (i addr : Nat) (bytes : List (Option Byte)) (s : State),
    (commitValue u i addr bytes s).isSome = true ↔
      ∃ v, coverage addr (s.path.bases.table u + u.entrySize * i + (u.entrySize - 4)) bytes = .whole v)

/-- HOST_WRITE into a guarded table whose window is not open: dropped, and nothing of the Table Unit changes (R144).
HOST_WRITE into an open guarded table: forwarded when its entry has room on the touched list and the pending list is
not full; an ordinary write touches its entry; a write of the entry's whole commit word takes it off the list, reserves a
line and will hand the commit with the value written (R8, R144).
HOST_WRITE into the table whose window is open, without that room: dropped, touching and reserving nothing; EDIT_REFUSED
with the first test that failed, 1 for the touched list and 2 for the pending list, once per reason and opening, before any
WRITE_DROPPED; a later one of that reason is counted alone, giving no notice while a WRITE_DROPPED is outstanding (R145). -/
def Obligations.GuardedWriteByItsWindow : Prop :=
  (∀ (span : Span) (addr : Word) (bytes : List (Option Byte)) (u : TableId) (e : Nat) (s : State), portIdle s →
    (Instr.hostWrite span addr bytes).wellFormed = true → supervised s = true →
    placeOf s.path.map s.path.bases addr.toNat = .guarded u e → s.table.window ≠ .opened u →
    ∃ t, exec (.hostWrite span addr bytes) s = .next t ∧ t.path.host = none ∧
      t.path.dropClass = some (.guarded u) ∧ t.mem = s.mem ∧ t.table = s.table) ∧
  (∀ (span : Span) (addr : Word) (bytes : List (Option Byte)) (u : TableId) (e : Nat) (s : State), portIdle s →
    (Instr.hostWrite span addr bytes).wellFormed = true → supervised s = true →
    placeOf s.path.map s.path.bases addr.toNat = .guarded u e → guardedForward u e s = true →
    ∃ t, exec (.hostWrite span addr bytes) s = .next t ∧ t.path.dropped = s.path.dropped ∧ t.mem = s.mem ∧
      (commitValue u e addr.toNat bytes s = none →
        (∃ n, t.path.host = some { op := .write span addr bytes, hands := [], behind := n }) ∧
        t.table.touched = (if e ∈ s.table.touched then s.table.touched else s.table.touched ++ [e]) ∧
        t.tally.reservations = s.tally.reservations) ∧
      (∀ v, commitValue u e addr.toNat bytes s = some v →
        coverage addr.toNat (s.path.bases.table u + u.entrySize * e + (u.entrySize - 4)) bytes = .whole v ∧
        (∃ n, t.path.host = some { op := .write span addr bytes, hands := [.commit u e v], behind := n }) ∧
        t.table.touched = s.table.touched.erase e ∧ t.tally.reservations = s.tally.reservations + 1)) ∧
  (∀ (span : Span) (addr : Word) (bytes : List (Option Byte)) (u : TableId) (e : Nat) (s : State), portIdle s →
    (Instr.hostWrite span addr bytes).wellFormed = true → supervised s = true →
    placeOf s.path.map s.path.bases addr.toNat = .guarded u e → s.table.window = .opened u →
    let room := s.table.touched.contains e || decide (s.table.touched.length < 32)
    room = false ∨ 16 ≤ pendingCount s →
    let given := if room then s.table.refusedTally else s.table.refusedTouched
    let n : Notice := { kind := .editRefused, reason := if room then 2 else 1, subject := u.code, first := e,
                        second := s.table.touched.length }
    ∃ t, exec (.hostWrite span addr bytes) s = .next t ∧ t.path.host = none ∧ t.mem = s.mem ∧
      t.path.dropped = s.path.dropped + 1 ∧ t.path.dropClass = some (.guarded u) ∧ t.tally = s.tally ∧
      (room = true → t.table = { s.table with refusedTally := true }) ∧
      (room = false → t.table = { s.table with refusedTouched := true }) ∧
      (given = false → accepted s = true → busy .exchange s = false →
        (dist s.exch.taken s.exch.producer < 256 →
          asked (s.path.bases.noticeRing + 16 * (s.exch.producer.toNat % 256)) (n.bytes s.clock.now) t = true) ∧
        (256 ≤ dist s.exch.taken s.exch.producer → t.exch.overrun = true) ∧
        (dropOutstanding s = true → noticeGiven n s t)) ∧
      (given = false → accepted s = true → busy .exchange s = true → waits .exchange t = true ∧
        ∃ more, t.path.arrived.map Arrival.event =
          s.path.arrived.map Arrival.event ++ .ask (.notice n s.clock.now) :: more) ∧
      (given = true → dropOutstanding s = true → t.exch = s.exch))

/-- A transaction takes effect when the memory port is next free (the model's reading, log 6).
MEMORY_PORT_FREE with the host's write in progress: memory takes the bytes the mask names and no other byte changes,
and the values it carries that the part state heeds are handed after those handed before (R1, R10, R25).
MEMORY_PORT_FREE with the host's read in progress: the host gets what memory holds, and memory is unchanged (R2).
MEMORY_PORT_FREE with an internal request in progress: a post writes its bytes and no other byte of memory; a read
returns the bytes of its lines to its unit (R14, R19). -/
def Obligations.PortPerformsItsTransaction : Prop :=
  (∀ (span : Span) (addr : Word) (bytes : List (Option Byte)) (hands : List Handed) (n : Nat) (s : State),
    s.path.port = some .host →
    s.path.host = some { op := .write span addr bytes, hands := hands, behind := n } →
    memoryCanonical s = true →
    ∃ t, exec .memoryPortFree s = .next t ∧
      t.path.handed = s.path.handed ++ hands.filter (Handed.heeded s.exch.part) ∧
      ∀ a : Nat, Memory.read t.mem a =
        (if addr.toNat ≤ a then
          match bytes[a - addr.toNat]? with
          | some (some b) => b
          | some none => Memory.read s.mem a
          | none => Memory.read s.mem a
        else Memory.read s.mem a)) ∧
  (∀ (span : Span) (addr : Word) (hands : List Handed) (n : Nat) (s : State), s.path.port = some .host →
    s.path.host = some { op := .read span addr, hands := hands, behind := n } →
    ∃ t, exec .memoryPortFree s = .next t ∧
      t.path.readData = Memory.readBytes s.mem addr.toNat span.size ∧ t.mem = s.mem ∧
      t.path.handed = s.path.handed) ∧
  ((∀ (addr : Nat) (bytes : List Byte) (s : State), memoryCanonical s = true →
    s.path.port = some (.internal (.place addr bytes)) ∨
      (∃ r, s.path.port = some (.internal (.refresh r addr bytes))) →
    ∃ t, exec .memoryPortFree s = .next t ∧ t.path.returned = s.path.returned ∧
      ∀ a : Nat, Memory.read t.mem a =
        (if addr ≤ a then (bytes[a - addr]?).getD (Memory.read s.mem a) else Memory.read s.mem a)) ∧
  (∀ (tag : ReadTag) (addr lines : Nat) (s : State), s.path.port = some (.internal (.read tag addr lines)) →
    ∃ t, exec .memoryPortFree s = .next t ∧ t.mem = s.mem ∧
      t.path.returned = s.path.returned ++ [(tag, Memory.readBytes s.mem addr (32 * lines))]))

/-- MEMORY_PORT_FREE, the arbiter's table: one grant each time the port is free, whether a transaction has just ended
there or the port is looked at again (the model's reading, log 6), by who waits and by the host run count; a host
transaction that has just ended, or is held back by a post of its line, does not wait for the port (R18). -/
def Obligations.ArbiterGrantsByTable : Prop :=
  (∀ s : State, hostWaits s = true ↔ ∃ x, s.path.host = some x ∧ x.behind = 0) ∧
  ∀ s : State, s.path.waiting = [] →
    let waits := s.path.port ≠ some .host ∧ hostWaits s = true
    ∃ t, exec .memoryPortFree s = .next t ∧
      (waits → s.path.queue = [] → t.path.port = some .host ∧ t.path.hostRun = 0) ∧
      (∀ r rest, ¬ waits → s.path.queue = r :: rest →
        t.path.port = some (.internal r) ∧ t.path.hostRun = 0) ∧
      (∀ r rest, waits → s.path.queue = r :: rest → s.path.hostRun < 4 →
        t.path.port = some .host ∧ t.path.hostRun = s.path.hostRun + 1) ∧
      (∀ r rest, waits → s.path.queue = r :: rest → s.path.hostRun = 4 →
        t.path.port = some (.internal r) ∧ t.path.hostRun = 0) ∧
      (¬ waits → s.path.queue = [] → t.path.port = none ∧ t.path.hostRun = s.path.hostRun)

/-- How many queued requests a host transaction waits behind: up to and with the last queued post of its line, none when
no queued post writes it (R16).
A refresh takes the place of the queued refresh of its record when no placement stands behind that one, and joins the tail
when one does (R15). A request that finds the queue full is held, and held requests join in their order as places free
(R14).
The model's reading for requests that are held, of which R14 and R15 do not speak (log 10): a refresh is held behind a held
placement, and merges while only other requests are held; a request that finds others held is held behind them; nothing
handed to a unit that holds one is taken; an event that reaches a unit which takes none at once makes every event that
stands for the unit late, and late events are taken in the order they fell.
A held refresh takes its record's content as it joins (R14). It makes way for the placements that a unit holds of its
present event when its record has come to tell of them, line 0 of a notice or a result word, line 4 of a tally line or page,
a balance or a visit of a line placed at once, so that it carries no content that depends on a placement still to come (R15); every
other request keeps its order, and a refresh passes nothing where the unit holds no placement (the model's choice of the
order, log 53). -/
def Obligations.QueuedPostsHoldTheHostAndMerge : Prop :=
  (∀ (line : Nat) (q : List Request),
    (behindOf line q = 0 ↔ ∀ r ∈ q, r.writesLine line = false) ∧
    (∀ n, behindOf line q = n + 1 →
      (∃ r, q[n]? = some r ∧ r.writesLine line = true) ∧ ∀ m r, n < m → q[m]? = some r → r.writesLine line = false)) ∧
  (∀ (u : UnitId) (r : Rec) (pre post : List Request) (addr : Nat) (bytes : List Byte) (s : State),
    s.path.queue = pre ++ .refresh r addr bytes :: post → (∀ q ∈ post, q.refreshes r = false) →
    ((∀ q ∈ post, q.isPlacement = false) → (∀ h ∈ s.path.held, h.issue.isPlacement = false) →
      (present u (.refresh r) s).path.held = s.path.held ∧
        (present u (.refresh r) s).path.queue = pre ++ .refresh r (recAddr r s) (recBytes r s) :: post) ∧
    ((∃ q ∈ post, q.isPlacement = true) → s.path.held = [] → s.path.queue.length < Config.queuePlaces →
      (present u (.refresh r) s).path.queue = s.path.queue ++ [.refresh r (recAddr r s) (recBytes r s)]) ∧
    ((∃ h ∈ s.path.held, h.issue.isPlacement = true) → (present u (.refresh r) s).path.queue = s.path.queue ∧
      (present u (.refresh r) s).path.held = s.path.held ++ [⟨u, .refresh r⟩])) ∧
  (∀ (r : Rec) (s : State), busy .exchange s = true → (post r s).path.queue = s.path.queue ∧
    (post r s).path.held = s.path.held ∧
    (post r s).path.arrived.map Arrival.event = s.path.arrived.map Arrival.event ++ [.ask (.refresh r)]) ∧
  ((∀ (u : UnitId) (r : Rec) (s : State),
      noneBehind u r (makeWay u r s) ∧ (makeWay u r s).path.held.Perm s.path.held ∧
      (makeWay u r s).path.held.filter (fun h => h.issue != .refresh r) =
        s.path.held.filter (fun h => h.issue != .refresh r) ∧
      ((∀ h ∈ s.path.held, Held.placedBy u h = false) → makeWay u r s = s)) ∧
    (∀ (r : Result) (s : State), noneBehind .exchange (.line 0) (finishOrder r s)) ∧
    (∀ (n : Notice) (at_ : Stamp) (s : State), dist s.exch.taken s.exch.producer < 256 →
      noneBehind .exchange (.line 0) (writeNotice n at_ s)) ∧
    (∀ (l : TallyLine) (t : TallyUnit) (s : State), s.tally.page ≠ none →
      noneBehind .tally (.line 4) (placeLine l t s)) ∧
    (∀ (r : Rec) (before s : State),
      (before.tally.lines = [] → before.tally.page ≠ none → noneBehind .tally r (tellOfLine r before s)) ∧
      (before.tally.lines ≠ [] ∨ before.tally.page = none → tellOfLine r before s = s)) ∧
    (∀ (v : Visit) (a : AccountId) (t : TallyUnit) (s : State), v.account = some a → s.tally.lines = [] →
      s.tally.page ≠ none → noneBehind .tally (.balance a) (composeVisitLine v t s))) ∧
  (∀ (u : UnitId) (r : Rec) (hs : List Held) (s : State), (∀ q ∈ s.path.queue, q.refreshes r = false) →
    s.path.queue.length < Config.queuePlaces → drainHeld (⟨u, .refresh r⟩ :: hs) s =
      drainHeld hs { s with path := { s.path with
        queue := s.path.queue ++ [.refresh r (recAddr r s) (recBytes r s)] } }) ∧
  (∀ (h : Held) (hs : List Held) (s : State), (∀ r, h.issue ≠ .refresh r) →
    (s.path.queue.length < Config.queuePlaces → drainHeld (h :: hs) s =
      drainHeld hs { s with path := { s.path with queue := s.path.queue ++ [asRequest h.issue s] } }) ∧
    (Config.queuePlaces ≤ s.path.queue.length →
      drainHeld (h :: hs) s = { s with path := { s.path with held := h :: hs } })) ∧
  (∀ (u : UnitId) (h : Handed) (s : State), holds u s = true → h.owner = some u → nextHanded s ≠ some h) ∧
  (∀ (u : UnitId) (e : Event) (s : State), u ∈ e.units → busy u s = true →
    (reach e s).path.arrived.map Arrival.event = s.path.arrived.map Arrival.event ++ [e] ∧
    ∀ a ∈ (reach e s).path.arrived, u ∈ a.event.units → a.late = true) ∧
  (∀ (u : UnitId) (e : Event) (s : State), waits u s = true → canTake u e s = true →
    holds u s = false ∧ firstFor u s = some e)

/-- RESET_INPUT: every unit in its reset-input state, the queue gone, memory as it was but for a post in progress, a
placement or a refresh, which stops after one of its lines; a read in progress returns nothing (R20, R29, R45, R76, R91,
R115, R137, R149, R160, R170, R178). Which line a post stops after is a free value (log 11); the values that no rule gives,
the latched parameters and the clock's day among them, are log 5's; that what was handed, returned or held is gone is log
44, and that a host transaction waiting is kept is log 12: the one at the processor port stays, its commit gone and with no
post before it, the one that the memory port is performing still in progress there, to complete; those issued and waiting
stay behind it, or at a free port the first is accepted, judged in DORMANT (R1, R20). -/
def Obligations.ResetInputResetsEveryUnit : Prop :=
  ∀ s : State,
    ∃ t, exec .resetInput s = .next t ∧ t.path.map = .clear ∧ t.path.dropped = 0 ∧ t.path.dropAddr = 0 ∧
      t.path.dropClass = none ∧ t.path.dropPos = none ∧ t.path.queue = [] ∧ t.path.held = [] ∧
      t.path.hostRun = 0 ∧ t.path.arrived = [] ∧ t.path.handed = [] ∧ t.path.returned = [] ∧
      t.exch = ExchangeUnit.reset ∧ t.latched = Latched.reset ∧ t.ports = Vector.replicate 11 Port.reset ∧
      t.gate = GateUnit.reset ∧ t.yard = YardUnit.reset ∧ t.bays = Vector.replicate 8 Bay.reset ∧
      t.water = WaterUnit.reset ∧ t.table = TableUnit.reset ∧ t.tally = TallyUnit.reset ∧
      t.clock = ClockUnit.reset ∧ t.path.readData = s.path.readData ∧
      (∀ x, s.path.host = some x → t.path.waiting = s.path.waiting ∧
        t.path.host = some { x with behind := 0, hands := x.hands.filter (fun h => !h.isCommit) }) ∧
      (s.path.host = none → s.path.waiting = [] → t.path.host = none ∧ t.path.waiting = []) ∧
      (∀ op ops, s.path.host = none → s.path.waiting = op :: ops → t.path.waiting = ops ∧
        t.path.host = some { op := op, behind := 0, hands := match op with
          | .read _ _ => []
          | .write _ addr bytes => handsStart (coverage addr.toNat Config.hostHalf bytes) }) ∧
      ((∀ q, s.path.port ≠ some (.internal q)) → t.mem = s.mem ∧ t.path.port = s.path.port) ∧
      (∀ addr bytes, s.path.port = some (.internal (.place addr bytes)) →
        ∃ n, 1 ≤ n ∧ (1 ≤ linesOf addr bytes → n ≤ linesOf addr bytes) ∧
          t.mem = Memory.writeBytes s.mem addr (firstLines addr n bytes)) ∧
      (∀ r addr bytes, s.path.port = some (.internal (.refresh r addr bytes)) →
        ∃ n, 1 ≤ n ∧ (1 ≤ linesOf addr bytes → n ≤ linesOf addr bytes) ∧
          t.mem = Memory.writeBytes s.mem addr (firstLines addr n bytes)) ∧
      (∀ tag addr lines, s.path.port = some (.internal (.read tag addr lines)) → t.mem = s.mem) ∧
      (∀ q, s.path.port = some (.internal q) → t.path.port = none)

/-! ### Start-up (chapter 2) -/

/-- START_VALUE in DORMANT and HALTED with a monitor not LAPSED: LOADING begins with the provisional map, the attention
line low, no error, every port DOWN with its counts at 0, and the read of all 64 lines of the host half issued (R4, R25,
R26, R44), and the gates and the visit table as at the reset input (R54, R76, R91), at once (the model's choice, log 23); that LOAD_ERROR_FIELD is 0 then is log 60, and that what was
handed stays is log 44.
START_VALUE while the monitor is LAPSED is refused with MONITOR_LAPSED, the part staying in its state; in the other
part states it is ignored (R25); what waited behind the value has its turn then (R14; log 10). -/
def Obligations.StartValueByPartState : Prop :=
  (∀ s : State, nextHanded s = some .start → s.exch.part = .dormant ∨ s.exch.part = .halted →
    s.clock.monitor ≠ .lapsed →
    ∃ t, exec .startValue s = .next t ∧ t.exch.part = .loading ∧ t.path.map = .provisional ∧
      t.path.dropPos = none ∧ t.path.dropped = s.path.dropped ∧ t.exch.attention = false ∧
      t.exch.loadError = none ∧ t.exch.loadErrorField = 0 ∧ t.gate = GateUnit.reset ∧ t.yard = YardUnit.reset ∧
      (∀ p : PortId, t.ports[p].link = .down ∧ t.ports[p].inGood = 0 ∧ t.ports[p].inBad = 0 ∧
        t.ports[p].inDiscarded = 0 ∧ t.ports[p].outSent = 0 ∧ t.ports[p].outDiscarded = 0 ∧
        t.ports[p].downReason = s.ports[p].downReason ∧ t.ports[p].station = s.ports[p].station) ∧
      issued (.read .hostHalf 0x00100000 64) t = true ∧
      t.mem = s.mem ∧ t.path.handed = s.path.handed.erase .start) ∧
  ((∀ s : State, nextHanded s = some .start → s.exch.part = .dormant ∨ s.exch.part = .halted →
    s.clock.monitor = .lapsed →
    ∃ t, exec .startValue s = .next (afterTurn [.exchange] s t) ∧ t.exch.part = s.exch.part ∧
      t.exch.loadError = some .monitorLapsed ∧
      t.exch.loadErrorField = 0 ∧ t.path.map = s.path.map ∧ sameUnits s t) ∧
  (∀ s : State, nextHanded s = some .start → s.exch.part ≠ .dormant → s.exch.part ≠ .halted →
    exec .startValue s = .next (afterTurn [.exchange] s (dropHanded .start s))))

/-- STOP_VALUE: in RUNNING with a visit in the table STOPPING begins, the edit window no longer primed or open and the
entry gate without a pair; in the other part states it is ignored, and what waited behind it has its turn (R14, R25, R28, R57, R143; log 10).
STOP_VALUE with nothing left to wind down: the part enters HALTED at once; every UP port goes DOWN, the divider
stops, the window is SHUT, no page is current, and the monitor is IDLE or stays LAPSED (R28, R43, R164, R176). -/
def Obligations.StopValueByPartState : Prop :=
  ((∀ s : State, quiet s → nextHanded s = some .stop → 0 < openVisits s →
    ∃ t, exec .stopValue s = .next t ∧ t.exch.part = .stopping ∧ t.gate.pair =
        (if s.gate.entry = .pairing ∨ s.gate.entry = .blocked then none else s.gate.pair) ∧
      t.gate.entry ≠ .pairing ∧ t.gate.entry ≠ .blocked ∧ (∀ u, t.table.window ≠ .primed u) ∧
      (∀ u, t.table.window ≠ .opened u) ∧ t.yard = s.yard ∧ t.bays = s.bays ∧ t.water = s.water ∧
      t.clock = s.clock ∧ t.mem = s.mem) ∧
  (∀ s : State, nextHanded s = some .stop → s.exch.part ≠ .running →
    exec .stopValue s = .next (afterTurn [.exchange] s (dropHanded .stop s)))) ∧
  (∀ s : State, quiet s → nextHanded s = some .stop → openVisits s = 0 → pendingCount s = 0 →
    s.water.run = none → s.exch.inExecution = false →
    ∃ t, exec .stopValue s = .next t ∧ t.exch.part = .halted ∧ (∀ p : PortId, t.ports[p].link ≠ .up) ∧
      t.clock.running = false ∧ t.table.window = .shut ∧ t.tally.page = none ∧
      t.clock.monitor = (if s.clock.monitor = .lapsed then .lapsed else .idle) ∧ t.mem = s.mem)

/-- HOST_HALF_READ of a copy that fails: back in DORMANT with the error kept, the map cleared, every unit but the Path
Unit as the reset input leaves it, the drop fields kept, and the refresh of the line that shows the error issued (R24,
R27).
HOST_HALF_READ of a copy that passes: the full map, the region bases, the parameters with the tank capacities and the bay
descriptors of those fitted, the counts, the clock, the calibration and the bays as the copy gives them, and the first table
read issued (R22, R26 step 3, R116, R127, R141, R158, R161); the copies are empty with nothing counted, and the load counts
last posted stand until those of this LOADING are posted (R141, R149), at once (the model's choice, log 23). The zeros for
the calibration temperature of a copy that declares no calibration, and for the capacity and descriptor of what is not
fitted, are the model's reading (log 38). -/
def Obligations.HostHalfReadByValidation : Prop :=
  (∀ (tag : ReadTag) (c : List Byte) (e : LoadError) (n : Nat) (s : State),
    findReturned isHostHalf s = some (tag, c) → busy .exchange s = false → s.exch.part = .loading →
    validate c = some (e, n) →
    ∃ t, exec .hostHalfRead s = .next t ∧ t.exch.part = .dormant ∧ t.exch.loadError = some e ∧
      t.exch.loadErrorField = n ∧ t.path.map = .clear ∧ t.path.dropPos = none ∧
      t.exch = { ExchangeUnit.reset with loadError := some e, loadErrorField := n } ∧
      refreshAsked (.line 0) t = true ∧ t.latched = Latched.reset ∧
      t.path.dropped = s.path.dropped ∧ t.path.dropAddr = s.path.dropAddr ∧ t.path.dropClass = s.path.dropClass ∧
      t.path.hostRun = s.path.hostRun ∧
      t.ports = Vector.replicate 11 Port.reset ∧ t.gate = GateUnit.reset ∧ t.yard = YardUnit.reset ∧
      t.bays = Vector.replicate 8 Bay.reset ∧ t.water = WaterUnit.reset ∧ t.table = TableUnit.reset ∧
      t.tally = TallyUnit.reset ∧ t.clock = ClockUnit.reset ∧ t.mem = s.mem) ∧
  (∀ (tag : ReadTag) (c : List Byte) (s : State),
    findReturned isHostHalf s = some (tag, c) → busy .exchange s = false → s.exch.part = .loading →
    validate c = none →
    ∃ t, exec .hostHalfRead s = .next t ∧ t.exch.part = .loading ∧ t.path.map = .full ∧
      t.path.bases.noticeRing = hostField 58 c ∧ t.path.bases.tally = hostField 66 c ∧
      t.path.bases.tallyPages = hostField 67 c ∧ t.latched.baysFitted = hostField 1 c ∧
      t.latched.callLimit = hostField 9 c ∧ t.latched.secondDivider = hostField 28 c ∧
      t.path.bases = basesOf c ∧ t.latched = latchedOf c ∧
      (∀ k : TankId, t.latched.tankCapacity[k] = (if k.val < hostField 2 c then hostField (3 + k.val) c else 0) ∧
        t.water.tanks[k] = { Tank.reset with capacity := t.latched.tankCapacity[k] }) ∧
      (∀ b : BayId, b.val < hostField 1 c → t.latched.bays[b] = {
        axleLimit := hostField (33 + 3 * b.val) c, mask := BitVec.ofNat 16 (hostField (34 + 3 * b.val) c),
        pulses := hostField (35 + 3 * b.val) c }) ∧
      t.water.calDay = BitVec.ofNat 16 (hostField 24 c) ∧
      t.water.calTemp = (if hostField 23 c = 2 then signed 32 (hostField 25 c) else 0) ∧
      t.exch.orderTaken = BitVec.ofNat 16 (field 0x0C 2 c) ∧ t.exch.orderPosted = t.exch.orderTaken ∧
      t.exch.producer = BitVec.ofNat 16 (field 0x10 2 c) ∧ t.exch.taken = t.exch.producer ∧
      t.exch.overrun = false ∧ t.tally.poolPos = BitVec.ofNat 16 (field 0x14 2 c) ∧
      t.tally.poolPosted = t.tally.poolPos ∧ t.tally.invoice = BitVec.ofNat 32 (hostField 32 c) ∧
      t.tally.pageSeq = BitVec.ofNat 32 (hostField 31 c) ∧ t.clock.running = true ∧ t.clock.divider = 0 ∧
      t.clock.now = { day := BitVec.ofNat 16 (hostField 29 c), second := hostField 30 c } ∧
      t.water.calibrated = (hostField 23 c == 2) ∧
      (∀ b : BayId, t.bays[b].state = if b.val < hostField 1 c then .free else .closed) ∧
      (∀ b : BayId, t.ports[bayPort b].link = .held ↔ hostField 1 c ≤ b.val ∨ s.ports[bayPort b].link = .held) ∧
      t.table = { TableUnit.reset with loadCounts := s.table.loadCounts } ∧
      issued (.read (.table .tariffs 0) (hostField 64 c) 32) t = true ∧ t.mem = s.mem)

/-- A copy that passes has its fields in range, the tanks' and bays' of those fitted, CAL_TEMP's when a calibration is
declared, and its regions apart: ten regions inside memory, none meeting the layout page or another (R23, R24). -/
def Obligations.AcceptedCopyIsInRange : Prop :=
  ∀ c : List Byte, validate c = none →
    (1 ≤ hostField 1 c ∧ hostField 1 c ≤ 8) ∧ hostField 2 c ≤ 4 ∧
    (∀ k, k < hostField 2 c → 1000 ≤ hostField (3 + k) c ∧ hostField (3 + k) c ≤ 200000) ∧
    (2 ≤ hostField 7 c ∧ hostField 7 c ≤ 30) ∧ hostField 8 c ≤ 100 ∧
    (60 ≤ hostField 9 c ∧ hostField 9 c ≤ 900) ∧ (2 ≤ hostField 10 c ∧ hostField 10 c ≤ 60) ∧
    (1 ≤ hostField 11 c ∧ hostField 11 c ≤ 16) ∧ hostField 12 c ≤ 16 ∧ hostField 12 c < 32 - hostField 11 c ∧
    (10 ≤ hostField 13 c ∧ hostField 13 c ≤ 600) ∧ hostField 14 c ≤ 11 ∧
    (hostField 15 c = 1 ∨ hostField 15 c = 2) ∧ (60 ≤ hostField 16 c ∧ hostField 16 c ≤ 1440) ∧
    (5 ≤ hostField 17 c ∧ hostField 17 c ≤ 240) ∧ (1 ≤ hostField 18 c ∧ hostField 18 c ≤ 1000) ∧
    hostField 19 c ≤ 100 ∧ hostField 20 c ≤ 20 ∧ hostField 21 c ≤ 20 ∧
    (50 ≤ hostField 22 c ∧ hostField 22 c ≤ 300) ∧ hostField 19 c < hostField 22 c ∧
    (hostField 23 c = 1 ∨ hostField 23 c = 2) ∧
    (hostField 23 c = 2 → -20 ≤ signed 32 (hostField 25 c) ∧ signed 32 (hostField 25 c) ≤ 60) ∧
    hostField 26 c ≤ 1000000 ∧ hostField 27 c ≤ 100000 ∧
    (900000 ≤ hostField 28 c ∧ hostField 28 c ≤ 1100000) ∧ hostField 30 c ≤ 86399 ∧
    (∀ b, b < hostField 1 c → 2 ≤ hostField (33 + 3 * b) c ∧ hostField (33 + 3 * b) c ≤ 9 ∧
      1 ≤ hostField (35 + 3 * b) c ∧ hostField (35 + 3 * b) c ≤ 1000) ∧
    hostField 66 c % 4096 = 0 ∧ (16 ≤ hostField 67 c ∧ hostField 67 c ≤ 4096) ∧
    (∀ r ∈ regionsOf c, r.2.1 + r.2.2 ≤ 2 ^ 32 ∧ (r.1 ≠ 66 → r.2.1 % 32 = 0) ∧
      overlaps r.2.1 r.2.2 Config.hostHalf (2 * Config.halfSize) = false) ∧
    (regionsOf c).Pairwise (fun r q => overlaps r.2.1 r.2.2 q.2.1 q.2.2 = false)

/-- TABLE_READ: the tariffs and programmes accepted are those whose entries are present and in range, the accounts those
whose tariff is committed besides, and the others are absent; a vehicle is accepted when its identities are no committed
vehicle's and its account and programme are committed; an entry rejected is counted and changes no copy; and when a read
has been acted on (the model's inference, log 21) the next in order is issued, the balances after the last; the load counts
stand as last posted until the vehicle register has been read, and then those of this LOADING are posted on line 3 (R139,
R140, R141, R149). -/
def Obligations.LoadingReadsTheTables : Prop :=
  (∀ (data : List Byte) (s : State), findTableRead s = some (.tariffs, 0, data) → busy .table s = false →
    s.exch.part = .loading → s.path.map = .full → s.table.tariffs = [] →
    ∃ t, exec .tableRead s = .next t ∧ issued (.read (.table .programmes 0) s.path.bases.programmes 64) t = true ∧
      ∀ i : Nat, i < 8 → lookup t.table.tariffs i =
        (match judgeEntry .tariffs ((data.drop (128 * i)).take 128) with
          | .ok (some (.tariff x)) => some x
          | _ => none)) ∧
  (∀ (data : List Byte) (s : State), findTableRead s = some (.programmes, 0, data) → busy .table s = false →
    s.exch.part = .loading → s.path.map = .full → s.table.programmes = [] →
    ∃ t, exec .tableRead s = .next t ∧
      ∀ i : Nat, i < 16 → lookup t.table.programmes i =
        (match judgeEntry .programmes ((data.drop (128 * i)).take 128) with
          | .ok (some (.programme x)) => some x
          | _ => none)) ∧
  (∀ (k : Nat) (data : List Byte) (s : State), findTableRead s = some (.accounts, k, data) →
    busy .table s = false → s.exch.part = .loading → s.path.map = .full → copySorted s.table.accounts →
    (∀ e ∈ s.table.accounts, e.1 < 64 * k) →
    ∃ t, exec .tableRead s = .next t ∧ t.table.tariffs = s.table.tariffs ∧
      (∀ i, i < 64 * k → lookup t.table.accounts i = lookup s.table.accounts i) ∧
      ∀ i : Nat, i < 64 → lookup t.table.accounts (64 * k + i) =
        (match judgeEntry .accounts ((data.drop (32 * i)).take 32) with
          | .ok (some (.account x)) => if (lookup s.table.tariffs x.tariff).isSome then some x else none
          | _ => none)) ∧
  (∀ (i : Nat) (v : Vehicle) (s : State), presentTest i (.vehicle v) s = none ↔
    (∀ e ∈ s.table.vehicles, e.1 ≠ i → (v.tag ≠ 0 → e.2.tag ≠ v.tag) ∧ (v.plate ≠ none → e.2.plate ≠ v.plate)) ∧
      (lookup s.table.accounts v.account.val).isSome = true ∧
      (lookup s.table.programmes v.programme).isSome = true) ∧
  (∀ (u : TableId) (i : Nat) (bytes : List Byte) (s : State),
    (judgeLoad u i bytes s = .ok none → loadEntry u i bytes s = s) ∧
    (∀ e, judgeLoad u i bytes s = .ok (some e) →
      loadEntry u i bytes s = addLoadCount u 1 0 (storeEntry u i (some e) s)) ∧
    (∀ r, judgeLoad u i bytes s = .error r →
      (loadEntry u i bytes s).table = (addLoadCount u 0 1 s).table)) ∧
  (∀ (u : TableId) (k : Nat) (data : List Byte) (s : State), findTableRead s = some (u, k, data) →
    busy .table s = false → s.exch.part = .loading → s.path.map = .full →
    ∃ t, exec .tableRead s = .next t ∧ t.exch.part = .loading ∧ t.mem = s.mem ∧
      (u = .programmes → issued (.read (.table .accounts 0) s.path.bases.accounts 64) t = true) ∧
      (u = .accounts → k < 3 →
        issued (.read (.table .accounts (k + 1)) (s.path.bases.accounts + 2048 * (k + 1)) 64) t = true) ∧
      (u = .accounts → k = 3 → issued (.read (.table .vehicles 0) s.path.bases.vehicles 64) t = true) ∧
      (u = .vehicles → k < 63 →
        issued (.read (.table .vehicles (k + 1)) (s.path.bases.vehicles + 2048 * (k + 1)) 64) t = true) ∧
      (u = .vehicles → k = 63 → issued (.read (.balances 0) s.path.bases.balanceArea 64) t = true ∧
        t.table.loadCounts = t.table.counting ∧ refreshAsked (.line 3) t = true) ∧
      ((u = .vehicles → k < 63) → t.table.loadCounts = s.table.loadCounts))

/-- BALANCE_READ: every account of the half read takes its balance and HOST_STOP from its record, or 0 and HOST_STOP set
when the record is none the part can load; PARTIAL is set and CREDIT_STOP is computed (R151). When the first half has been
acted on (the model's inference, log 21) the second is issued; after the second the part is RUNNING (R26), or that waits
its turn at an Exchange Unit that takes no event at once, and the MEMORY_PORT_FREE whose grant lets the one held request
join completes LOADING (log 47). -/
def Obligations.BalancesAreLoaded : Prop :=
  (∀ s : State, (busy .exchange s = false → (askCompletion s).exch.part = .running) ∧
    (busy .exchange s = true → askCompletion s = reach (.ask .complete) s)) ∧
  (∀ (a : Arrival) (xs : List Arrival) (h : Held) (r : Request) (rest : List Request) (s : State),
    s.path.arrived = a :: xs → a.event = .ask .complete → a.late = true → s.path.held = [h] → s.path.queue = r :: rest →
    rest.length < Config.queuePlaces → s.path.host = none → s.path.waiting = [] → s.exch.part = .loading →
    ∃ t, exec .memoryPortFree s = .next t ∧ t.exch.part = .running) ∧
  ∀ (k : Nat) (data : List Byte) (s : State), findBalanceRead s = some (k, data) → busy .tally s = false →
    s.exch.part = .loading → s.path.map = .full → k ≤ 1 →
    ∃ t, exec .balanceRead s = .next t ∧ (k = 0 → t.exch.part = .loading) ∧
      (k = 1 → t.exch.part = .running ∨ (t.exch.part = .loading ∧
        ∃ x ∈ t.path.arrived, x.event = .ask .complete)) ∧
      (k = 0 → issued (.read (.balances 1) (s.path.bases.balanceArea + 2048) 64) t = true) ∧
      ∀ a : AccountId, a.val / 128 = k →
        let r := (data.drop (16 * (a.val - 128 * k))).take 16
        let good := field 0 8 r ≤ 2 ^ 48 - 1 ∧ field 8 4 r ≤ 3
        t.tally.accounts[a].balance = (if good then field 0 8 r else 0) ∧
        t.tally.accounts[a].hostStop = (if good then field 8 1 r % 2 == 1 else true) ∧
        t.tally.accounts[a].partialPeriod = true ∧ t.tally.accounts[a].charges = 0 ∧
        t.tally.accounts[a].payments = 0 ∧ t.tally.accounts[a].visitCount = 0 ∧
        t.tally.accounts[a].paymentCount = 0 ∧
        t.tally.accounts[a].creditStop =
          (match lookup s.table.accounts a.val with
            | none => false
            | some e => decide (e.limit ≤ t.tally.accounts[a].balance))

/-! ### The rings and the notices (chapter 2) -/

/-- A notice asked for: nothing while the ring's location is not accepted; below 256 it is placed at the producer count,
which advances by one; on a full ring OVERRUN is set and the count stays (R33).
NOTICE_TAKEN: a count that moves forward without passing the producer count becomes NOTICE TAKEN; a change clears
OVERRUN; any other value is ignored with one notice TAKEN_INVALID; the attention line then shows whether the counts
differ; outside RUNNING and STOPPING the value is not acted on (R34, R35), and what waited behind it has its turn (R14; log
10). -/
def Obligations.NoticesAndNoticeTaken : Prop :=
  (∀ (n : Notice) (s : State),
    (accepted s = false → notify n s = s) ∧
    (accepted s = true → busy .exchange s = false → noticeGiven n s (notify n s)) ∧
    (accepted s = true → busy .exchange s = false →
      (notify n s).exch.taken = s.exch.taken ∧ sameUnits s (notify n s))) ∧
  ((∀ (u : Count) (s : State), nextHanded s = some (.noticeTaken u) → calm s → s.exch.part = .running →
    dist u s.exch.producer ≤ dist s.exch.taken s.exch.producer →
    ∃ t, exec .noticeTaken s = .next t ∧ t.exch.taken = u ∧ t.exch.producer = s.exch.producer ∧
      t.exch.overrun = (s.exch.overrun && u == s.exch.taken) ∧
      t.exch.attention = (s.exch.producer != u) ∧ sameUnits s t) ∧
  (∀ (u : Count) (s : State), nextHanded s = some (.noticeTaken u) → calm s → s.exch.part = .running →
    dist s.exch.taken s.exch.producer < dist u s.exch.producer →
    ∃ t, exec .noticeTaken s = .next t ∧ t.exch.taken = s.exch.taken ∧ sameUnits s t ∧
      noticeGiven { kind := .takenInvalid, first := u.toNat, second := s.exch.taken.toNat } s t) ∧
  (∀ (u : Count) (s : State), nextHanded s = some (.noticeTaken u) → working s = false →
    exec .noticeTaken s = .next (afterTurn [.exchange] s (dropHanded (.noticeTaken u) s))))

/-- ORDER_POST: a count at most 64 from ORDER TAKEN that does not move backwards becomes the posted count; any other is
refused, leaving it, with one notice ORDER_POST_INVALID carrying the value and the count in force; outside RUNNING and
STOPPING the value is not acted on (R30), and what waited behind it has its turn (R14; log 10). The distances are taken from
ORDER TAKEN as it stood at the handing, when the write that carried the value was performed, though an order has ended since
(R10, R30).
ORDER_POST that offers an order while none is in execution: its entry's read is issued and it is in execution (R31). -/
def Obligations.OrderPostMovesForward : Prop :=
  ((∀ (v o : Count) (s : State), nextHanded s = some (.orderPost v) → working s = true →
    takenAtHanding (.orderPost v) s = o → dist o v ≤ 64 → dist o s.exch.orderPosted ≤ dist o v →
    ∃ t, exec .orderPost s = .next t ∧ t.exch.orderPosted = v ∧ t.exch.orderTaken = s.exch.orderTaken) ∧
  (∀ (v o : Count) (s : State), nextHanded s = some (.orderPost v) → calm s → s.exch.part = .running →
    takenAtHanding (.orderPost v) s = o → 64 < dist o v ∨ dist o v < dist o s.exch.orderPosted →
    ∃ t, exec .orderPost s = .next t ∧ t.exch.orderPosted = s.exch.orderPosted ∧
      t.exch.orderTaken = s.exch.orderTaken ∧ sameUnits s t ∧
      noticeGiven { kind := .orderPostInvalid, first := v.toNat, second := s.exch.orderPosted.toNat } s t) ∧
  (∀ (v : Count) (s : State), nextHanded s = some (.orderPost v) → working s = false →
    exec .orderPost s = .next (afterTurn [.exchange] s (dropHanded (.orderPost v) s)))) ∧
  (∀ (h : Handed) (s : State), h ∉ s.path.handed → takenAtHanding h (reach (.value h) s) = s.exch.orderTaken) ∧
  (∀ (v : Count) (span : Span) (addr : Word) (bytes : List (Option Byte)) (hands : List Handed) (n : Nat) (s : State),
    s.path.port = some .host → s.path.host = some { op := .write span addr bytes, hands := hands, behind := n } →
    .orderPost v ∈ hands → .orderPost v ∉ s.path.handed → working s = true →
    ∃ t, exec .memoryPortFree s = .next t ∧ .orderPost v ∈ t.path.handed ∧
      takenAtHanding (.orderPost v) t = s.exch.orderTaken) ∧
  (∀ (v o : Count) (s : State), nextHanded s = some (.orderPost v) → calm s → s.exch.part = .running →
    takenAtHanding (.orderPost v) s = o → dist o v ≤ 64 → dist o s.exch.orderPosted ≤ dist o v →
    v ≠ s.exch.orderTaken → s.exch.inExecution = false →
    ∃ t, exec .orderPost s = .next t ∧ t.exch.inExecution = true ∧ sameUnits s t ∧
      issued (.read .order (s.path.bases.orderRing + 32 * (s.exch.orderTaken.toNat % 64)) 1) t = true)

/-- UNKNOWN_ORDER_KIND: the order ends with REFUSED_KIND and no unit sees it (R32).
The four orders that name a visit: a slot above 63 ends them with REFUSED_RANGE, a free slot or another visit's
serial with STALE, and nothing else changes (R32). -/
def Obligations.OrdersAreCheckedFirst : Prop :=
  (∀ (k : Nat) (entry : List Byte) (s : State), orderReady k entry s → k = 0 ∨ 15 < k →
    ∃ t, exec .unknownOrderKind s = .next t ∧ answered .refusedKind s t ∧ sameUnits s t ∧
      t.exch.inExecution = (s.exch.orderTaken + 1 != s.exch.orderPosted)) ∧
  (∀ (k : Nat) (c : Instr) (entry : List Byte) (s : State),
    (k, c) ∈ [(1, Instr.admitVisit), (2, .turnAway), (3, .setProgramme), (4, .cancelVisit)] →
    orderReady k entry s →
    (63 < arg16 4 entry → ∃ t, exec c s = .next t ∧ answered .refusedRange s t ∧ sameUnits s t) ∧
    (∀ slot : Slot, slot.val = arg16 4 entry →
      (∀ v, s.yard.slots[slot] = some v → v.serial.toNat ≠ arg16 6 entry) →
      ∃ t, exec c s = .next t ∧ answered .stale s t ∧ sameUnits s t))

/-! ### Field ports (chapter 3) -/

/-- An arrival outside LOADING, RUNNING and STOPPING is neither judged nor counted; on a held port it is only counted as
discarded (R38, R44).
A bad frame is discarded and counted and lengthens the run, up to 8; the one that brings it to 8 takes an UP port
DOWN with reason BAD_FRAMES, its queues flushed and counted, and its role unit acts on the loss (R40, R43, R55, R69, R110,
R135).
The model's choices: it holds for each of the three arrival commands (log 36); a session whose port is lost in SETTLING
counts no further stage, though the stage has run its full duration (log 56); PUMP_FAILED is asked for behind the tanks'
TANK_QUALITY notices, as every notice of the loss in its place (log 19). -/
def Obligations.BadAndUnsupervisedFrames : Prop :=
  (∀ (p : PortId) (f : Frame) (c : Instr) (s : State), c ∈ arrivals p f → calm s →
    (supervised s = false → exec c s = .next s) ∧
    (s.exch.part = .running → s.ports[p].link = .held →
      ∃ t, exec c s = .next t ∧
        t.ports[p] = { s.ports[p] with inDiscarded := s.ports[p].inDiscarded + 1 } ∧
        (∀ q, q ≠ p → t.ports[q] = s.ports[q]) ∧ t.yard = s.yard ∧ t.bays = s.bays ∧ t.water = s.water)) ∧
  (∀ (p : PortId) (f : Frame) (c : Instr) (s : State), c ∈ arrivals p f → quiet s →
    s.ports[p].link ≠ .held → goodFrame p f = false →
    ∃ t, exec c s = .next t ∧ t.ports[p].inBad = s.ports[p].inBad + 1 ∧
      t.ports[p].inGood = s.ports[p].inGood ∧
      (s.ports[p].link = .up → 7 ≤ s.ports[p].badRun →
        portFlushed p .badFrames s t ∧ roleUnitLost p s t) ∧
      (s.ports[p].link = .down ∨ s.ports[p].badRun < 7 →
        t.ports[p] = { s.ports[p] with badRun := min 8 (s.ports[p].badRun + 1), inBad := s.ports[p].inBad + 1 } ∧
        ∀ q, q ≠ p → t.ports[q] = s.ports[q]))

/-- A good frame other than STATUS on an UP port joins the inbound queue, counted, the run cleared and the link timer
restarted; on a full queue it is discarded and the overflow flag stands; on a DOWN port it is discarded (R41, R46, R47).
A good STATUS is taken by the Port Unit: its station state is recorded and it enters no queue; on a DOWN port it
brings the link UP with the link timer started and GO pending (R41, R42). It holds for each of the three arrival commands
(the model's choice, log 36). -/
def Obligations.GoodFramesByKind : Prop :=
  (∀ (p : PortId) (f : Frame) (c : Instr) (s : State), c ∈ arrivals p f → quiet s →
    goodFrame p f = true → f.kind ≠ Kind.status →
    (s.ports[p].link = .up → s.ports[p].inbound.length < 32 →
      ∃ t, exec c s = .next t ∧
        t.ports[p].inbound = s.ports[p].inbound ++ [{ kind := f.kind, payload := f.payload }] ∧
        t.ports[p].inGood = s.ports[p].inGood + 1 ∧ t.ports[p].badRun = 0 ∧
        t.ports[p].timer = some s.latched.linkTimeout ∧ t.ports[p].link = .up ∧
        (s.ports[p].hold = false → t.ports[p].hold =
          decide (32 - (s.ports[p].inbound.length + 1) ≤ s.latched.holdMargin)) ∧
        t.yard = s.yard ∧ t.bays = s.bays ∧ t.water = s.water ∧ t.gate = s.gate) ∧
    (s.ports[p].link = .up → 32 ≤ s.ports[p].inbound.length →
      ∃ t, exec c s = .next t ∧ t.ports[p].inbound = s.ports[p].inbound ∧ t.ports[p].overflow = true ∧
        t.ports[p].inDiscarded = s.ports[p].inDiscarded + 1 ∧ t.ports[p].inGood = s.ports[p].inGood + 1 ∧
        (s.ports[p].overflow = false →
          noticeGiven { kind := .portOverflow, subject := p.val, first := f.kind.toNat }
            (setPort p t.ports[p] s) t ∨ busy .exchange (setPort p t.ports[p] s) = true)) ∧
    (s.ports[p].link = .down →
      ∃ t, exec c s = .next t ∧ t.ports[p].inbound = s.ports[p].inbound ∧ t.ports[p].link = .down ∧
        t.ports[p].inDiscarded = s.ports[p].inDiscarded + 1 ∧ t.ports[p].badRun = 0)) ∧
  (∀ (p : PortId) (f : Frame) (c : Instr) (s : State), c ∈ arrivals p f → quiet s →
    goodFrame p f = true → f.kind = Kind.status →
    (s.ports[p].link = .up →
      ∃ t, exec c s = .next t ∧ t.ports[p] = { s.ports[p] with
        badRun := 0, inGood := s.ports[p].inGood + 1, timer := some s.latched.linkTimeout,
        station := some (stationOf f.payload) }) ∧
    (s.ports[p].link = .down → s.ports[p].outbound = [] →
      ∃ t, exec c s = .next t ∧ t.ports[p].link = .up ∧ t.ports[p].inGood = s.ports[p].inGood + 1 ∧
        t.ports[p].badRun = 0 ∧ t.ports[p].timer = some s.latched.linkTimeout ∧ t.ports[p].flow = some .go ∧
        t.ports[p].station = some (stationOf f.payload) ∧ t.ports[p].inbound = s.ports[p].inbound))

/-- LINK_FREE: a transmission in progress ends and is counted, and a flow frame that was sent is no longer pending; an UP
port of an accepted part then begins to send the pending flow frame, which stays pending until it has been sent, else the
head of its outbound queue, whose place is free from then (log 49); a frame goes out as kind, length, payload and check,
low byte first (R44, R50, R183). That the end of one frame and the begin of the next are one command is log 25; which flow
frame is pending while one is sent is log 24. -/
def Obligations.LinkFreeSendsTheNextFrame : Prop :=
  ∀ (p : PortId) (s : State),
    let flow := if s.ports[p].sending.isSome && s.ports[p].flowSending then none else s.ports[p].flow
    ∃ t, exec (.linkFree p) s = .next t ∧ (∀ q, q ≠ p → t.ports[q] = s.ports[q]) ∧
      t.ports[p].outSent = s.ports[p].outSent + (if s.ports[p].sending.isSome then 1 else 0) ∧
      t.ports[p].flow = flow ∧
      (s.ports[p].link ≠ .up ∨ accepted s = false →
        t.ports[p].sending = none ∧ t.ports[p].outbound = s.ports[p].outbound) ∧
      (s.ports[p].link = .up → accepted s = true →
        (∀ g, flow = some g → t.ports[p].flowSending = true ∧ t.ports[p].outbound = s.ports[p].outbound ∧
          ∃ kind, kind = (match g with | .hold => Kind.hold | .go => Kind.go) ∧
            t.ports[p].sending = some ([kind, 0] ++ le 2 (frameCheck kind []).toNat)) ∧
        (flow = none → s.ports[p].outbound = [] → t.ports[p].sending = none) ∧
        (∀ x xs, flow = none → s.ports[p].outbound = x :: xs →
          t.ports[p].outbound = xs ∧ t.ports[p].sending = some
            ([x.kind, byte x.payload.length] ++ x.payload ++ le 2 (frameCheck x.kind x.payload).toNat))) ∧
      t.yard = s.yard ∧ t.bays = s.bays ∧ t.water = s.water ∧ t.tally = s.tally ∧ t.mem = s.mem

/-- LINK_TIMER run out on an UP port takes it DOWN with reason LINK_TIMEOUT, its queues flushed and counted, with PORT_DOWN
(R42, R43, R52); a timer that has not run out does nothing.
RESET_PORT by the port's state: above 10 REFUSED_RANGE, held REFUSED_STATE, UP goes DOWN with RESET_ORDER in the same way,
DOWN is cleared (R51).
The role unit acts on the loss. The entry gate is DOWN, its pair discarded (R55); the exit gate is DOWN, the recent-exit list
empty (R69). A bay's presence is UNKNOWN; its call is withdrawn, its request for water leaves the wait list, its part is
settled at its last litres, its session ends with PORT_LOST, and a bay that was in use or CLEARING is FAULT, or CLOSED when
held after (R87, R110). The plant's tanks are UNCERTAIN, and the run in flight has failed and is queued again (R133, R135).
The model's choices: a session whose port is lost in SETTLING counts no further stage, in its summary and in
SESSION_ABORTED, though the stage has run its full duration (log 56); PUMP_FAILED is asked for behind the tanks'
TANK_QUALITY notices, as every notice of the loss in its place (log 19). -/
def Obligations.LinkTimerAndResetPort : Prop :=
  ((∀ (p : PortId) (s : State), quiet s → s.ports[p].link = .up → s.ports[p].timer = some 0 →
    ∃ t, exec (.linkTimer p) s = .next t ∧ portFlushed p .linkTimeout s t ∧ roleUnitLost p s t) ∧
  (∀ (p : PortId) (s : State), s.ports[p].timer ≠ some 0 → exec (.linkTimer p) s = .next s)) ∧
  (∀ (entry : List Byte) (s : State), orderReady 15 entry s →
    (10 < arg16 4 entry → ∃ t, exec .resetPort s = .next t ∧ answered .refusedRange s t ∧ sameUnits s t) ∧
    (∀ p : PortId, p.val = arg16 4 entry →
      (s.ports[p].link = .held → ∃ t, exec .resetPort s = .next t ∧ answered .refusedState s t ∧ sameUnits s t) ∧
      (s.ports[p].link = .up → ∃ t, exec .resetPort s = .next t ∧ answered .done s t ∧
        portFlushed p .resetOrder s t ∧ roleUnitLost p s t) ∧
      (s.ports[p].link = .down → ∃ t, exec .resetPort s = .next t ∧ answered .done s t ∧
        t.ports[p] = { s.ports[p] with badRun := 0, hold := false, overflow := false, flow := none,
                                       flowSending := false, downReason := some .resetOrder } ∧
        (∀ q, q ≠ p → t.ports[q] = s.ports[q]) ∧ t.yard = s.yard ∧ t.bays = s.bays ∧ t.water = s.water)))

/-! ### The gates (chapter 4) -/

/-- SIGHT_TAG and SIGHT_PLATE at a READY entry gate open a pair for PAIR_WINDOW seconds; a sighting identification cannot
use changes nothing of the gates; either way the frame leaves its queue (R46, R56, R58).
At a PAIRING gate a sighting of a kind the pair lacks joins it and the pair is decided; one that repeats the pair's value
changes nothing; one of another value has the old pair decided as it stands, and opens a new pair unless the gate is then
BLOCKED. A pair decided is a repeat that comes to nothing, a new visit, or a gate BLOCKED with it (R58, R61, R62). -/
def Obligations.SightingsMakePairs : Prop :=
  (∀ (x : QFrame) (xs : List QFrame) (s : State), quiet s → s.ports[entryPort].link = .up →
    s.ports[entryPort].inbound = x :: xs → x.kind = Kind.sightTag → s.gate.entry = .ready → s.gate.pair = none →
    ∃ t, exec (.sightTag .entry) s = .next t ∧ t.ports[entryPort].inbound = xs ∧ t.yard = s.yard ∧
      (tagOf x.payload ≠ 0 → t.gate.entry = .pairing ∧ t.gate.timer = some s.latched.pairWindow ∧
        t.gate.pair = some { tag := some (tagOf x.payload), plate := none }) ∧
      (tagOf x.payload = 0 → t.gate = s.gate)) ∧
  (∀ (x : QFrame) (xs : List QFrame) (s : State), quiet s → s.ports[entryPort].link = .up →
    s.ports[entryPort].inbound = x :: xs → x.kind = Kind.sightPlate → s.gate.entry = .ready →
    s.gate.pair = none →
    ∃ t, exec (.sightPlate .entry) s = .next t ∧ t.ports[entryPort].inbound = xs ∧ t.yard = s.yard ∧
      (field 0 1 x.payload ≤ 100 → (x.payload.drop 1).all plateChar = true →
        t.gate.entry = .pairing ∧ t.gate.timer = some s.latched.pairWindow ∧
        t.gate.pair = some { tag := none, plate := some (x.payload.drop 1, field 0 1 x.payload) }) ∧
      (100 < field 0 1 x.payload ∨ (x.payload.drop 1).all plateChar = false → t.gate = s.gate)) ∧
  (∀ (c : Instr) (kind : Byte) (x : QFrame) (xs : List QFrame) (p : Pair) (s : State),
    (c, kind) ∈ [(Instr.sightTag .entry, Kind.sightTag), (.sightPlate .entry, Kind.sightPlate)] →
    quiet s → s.ports[entryPort].link = .up → s.ports[entryPort].inbound = x :: xs → x.kind = kind →
    s.ports[entryPort].outbound.length < 16 → (sightingOf x).usable = true → s.gate.entry = .pairing →
    s.gate.pair = some p →
    ∃ t, exec c s = .next t ∧ t.ports[entryPort].inbound = xs ∧
      (∀ q, p.joined (sightingOf x) = some q → t.gate.timer = none ∧
        (isRepeat q (identify q s) s = true → t.gate.entry = .ready ∧ t.gate.pair = none ∧ t.yard = s.yard) ∧
        (isRepeat q (identify q s) s = false → (∃ slot : Slot, s.yard.slots[slot] = none) →
          t.gate.entry = .ready ∧ t.gate.pair = none ∧ t.yard.serial = s.yard.serial + 1) ∧
        (isRepeat q (identify q s) s = false → (∀ slot : Slot, (s.yard.slots[slot]).isSome) →
          t.gate.entry = .blocked ∧ t.gate.pair = some q ∧ t.yard = s.yard)) ∧
      (p.joined (sightingOf x) = none → p.holdsValue (sightingOf x) = true →
        t.gate = s.gate ∧ t.yard = s.yard) ∧
      (p.joined (sightingOf x) = none → p.holdsValue (sightingOf x) = false →
        (isRepeat p (identify p s) s = true ∨ (∃ slot : Slot, s.yard.slots[slot] = none) →
          t.gate.entry = .pairing ∧ t.gate.timer = some s.latched.pairWindow ∧
          t.gate.pair = some (sightingOf x).pair ∧ t.yard.serial =
            if isRepeat p (identify p s) s = true then s.yard.serial else s.yard.serial + 1) ∧
        (isRepeat p (identify p s) s = false → (∀ slot : Slot, (s.yard.slots[slot]).isSome) →
          t.gate.entry = .blocked ∧ t.gate.timer = none ∧ t.gate.pair = some p ∧ t.yard = s.yard)))

/-- SIGHT_TAG and SIGHT_PLATE at the exit gate: one that a recent exit names changes no visit; one that matches no visit
is entered in the recent-exit list for PAIR_WINDOW seconds and raises no barrier (R69, R70, R71).
RECENT_EXIT_EXPIRY removes the entries whose time has run out and changes nothing else (R71). -/
def Obligations.UnmatchedAndRecentExits : Prop :=
  (∀ (c : Instr) (kind : Byte) (x : QFrame) (xs : List QFrame) (s : State),
    (c, kind) ∈ [(Instr.sightTag .exit, Kind.sightTag), (.sightPlate .exit, Kind.sightPlate)] →
    quiet s → s.ports[exitPort].link = .up → s.ports[exitPort].inbound = x :: xs → x.kind = kind →
    s.gate.exitReady = true → (sightingOf x).usable = true →
    ∃ t, exec c s = .next t ∧ t.ports[exitPort].inbound = xs ∧
      (inRecent (sightingOf x) s = true → t.gate = s.gate ∧ t.yard = s.yard) ∧
      (inRecent (sightingOf x) s = false → matchedSlots (sightingOf x) s = [] →
        t.yard = s.yard ∧ t.ports[exitPort].outbound = s.ports[exitPort].outbound ∧ t.gate.recent.getLast? =
          some { tags := (sightingOf x).tags, plates := (sightingOf x).plates, serial := none,
                 left := s.latched.pairWindow })) ∧
  (∀ s : State, exec .recentExitExpiry s =
    .next { s with gate := { s.gate with recent := s.gate.recent.filter (fun e => e.left != 0) } })

/-- SIGHT_TAG at the exit gate of the one visit it matches, WASHED: with room on the pending list and the Tally Unit free
its line is composed, the slot is freed and the exit barrier is told (R70, R72, R73, R90); the line's total is added to the
balance and the period charges of the account it names, which counts one more visit, CREDIT_STOP is set to its condition and
the balance record's refresh asked for, and a line that names no account changes none (R152, R156).
TURN_AWAY: a visit not AT_GATE is REFUSED_STATE; one AT_GATE, with room on the pending list, has its closing line
composed, with a total of 0, and its slot freed, and no barrier is raised (R68, R90, R154, R156). -/
def Obligations.ClosedVisitsFreeTheirSlot : Prop :=
  (∀ (x : QFrame) (xs : List QFrame) (slot : Slot) (v : Visit) (s : State), quiet s → pendingCount s < 7 →
    s.path.queue.length ≤ 32 → s.ports[exitPort].link = .up → s.ports[exitPort].inbound = x :: xs →
    s.ports[exitPort].outbound.length < 16 → x.kind = Kind.sightTag → tagOf x.payload ≠ 0 →
    s.gate.exitReady = true → s.gate.entry ≠ .blocked → inRecent (sightingOf x) s = false →
    matchedSlots (sightingOf x) s = [slot] → s.yard.slots[slot] = some v → v.state = .washed →
    v.outcome ≠ some .turnedAway →
    ∃ t, exec (.sightTag .exit) s = .next t ∧ t.yard.slots = s.yard.slots.set slot none ∧
      t.tally.lineNumber = s.tally.lineNumber + 1 ∧ lineCharged v (lineTotal (pricedItems v s)) s t ∧
      t.ports[exitPort].outbound = s.ports[exitPort].outbound ++ [raiseFrame v.serial] ∧ t.bays = s.bays) ∧
  (∀ (entry : List Byte) (slot : Slot) (v : Visit) (s : State), orderReady 2 entry s →
    slot.val = arg16 4 entry → s.yard.slots[slot] = some v → v.serial.toNat = arg16 6 entry →
    (v.state ≠ .atGate → ∃ t, exec .turnAway s = .next t ∧ answered .refusedState s t ∧ sameUnits s t) ∧
    (v.state = .atGate → pendingCount s < 7 → s.gate.entry ≠ .blocked → s.path.queue.length ≤ 32 →
      ∃ t, exec .turnAway s = .next t ∧ answered .done s t ∧ t.yard.slots = s.yard.slots.set slot none ∧
        t.tally.lineNumber = s.tally.lineNumber + 1 ∧ lineCharged v 0 s t ∧ t.ports = s.ports ∧ t.bays = s.bays))

/-- PAIRING_TIMER run out: a pair that names a visit already in the depot comes to nothing; one whose vehicle is not
identified makes a visit in the lowest free slot, held AT_GATE for that reason; with no slot free the gate is BLOCKED
with the pair (R59, R60, R61, R62, R63, R78).
A pair that is identified makes a visit linked to its entry, held or QUEUED by the admission decision: BARRED, then the
account stopped, then its credit, then the depot paused; QUEUED, its RAISE is offered (R63, R64, R75). -/
def Obligations.PairingTimerDecidesThePair : Prop :=
  (∀ (p : Pair) (b : Basis) (e : Nat) (x : Vehicle) (s : State), lookup s.table.vehicles e = some x →
    let v := newVisit p (.identified b e) s
    v.serial = s.yard.serial + 1 ∧ v.entered = s.clock.now ∧ v.tag = p.tag ∧
      v.plate = p.plate.map (fun y => y.1) ∧ v.vehicle = some e ∧ v.account = some x.account ∧
      v.programme = some x.programme ∧ v.axles = some x.axles ∧ v.callCount = 0 ∧ v.bay = none ∧
      v.summary = none ∧ v.outcome = none ∧ v.left = none ∧
      v.priority = (match lookup s.table.accounts x.account.val with | none => false | some a => a.priority) ∧
      admission v s =
        (if x.barred = true then some .barred
         else if s.tally.accounts[x.account].hostStop = true then some .accountStopped
         else if s.tally.accounts[x.account].creditStop = true ∨
             (match lookup s.table.accounts x.account.val with
               | none => false
               | some a => match lookup s.table.tariffs a.tariff with
                 | none => false
                 | some f => decide (a.limit < s.tally.accounts[x.account].balance + f.gateFee +
                     f.prices.getD x.programme 0)) = true then
           some .credit
         else if s.tally.pause = true ∨ s.clock.fallback = true then some .depotPaused
         else none)) ∧
  (∀ (p : Pair) (b : Basis) (e : Nat) (slot : Slot) (s : State), quiet s → s.gate.entry = .pairing →
    s.gate.timer = some 0 → s.gate.pair = some p → identify p s = .identified b e →
    isRepeat p (.identified b e) s = false → s.yard.slots[slot] = none →
    (∀ j : Slot, j < slot → (s.yard.slots[j]).isSome) →
    let v := newVisit p (.identified b e) s
    (∀ r, admission v s = some r → ∃ t, exec .pairingTimer s = .next t ∧ t.gate.entry = .ready ∧
      t.yard.serial = s.yard.serial + 1 ∧ t.yard.queue = s.yard.queue ∧ t.ports = s.ports ∧
      t.yard.slots = s.yard.slots.set slot (some { v with state := .atGate, reason := some r })) ∧
    (admission v s = none → (∀ c : BayId, s.bays[c].state ≠ .free) → s.ports[entryPort].link = .up →
      s.ports[entryPort].outbound.length < 16 →
      ∃ t, exec .pairingTimer s = .next t ∧ t.gate.entry = .ready ∧ t.yard.serial = s.yard.serial + 1 ∧
        slot ∈ t.yard.queue ∧ t.bays = s.bays ∧ t.yard.queue = enqueueAt t.yard.slots slot { v with
          state := .queued, reason := none, admitted := some s.clock.now, admission := s.yard.admitted } s.yard.queue ∧
        t.ports[entryPort].outbound = s.ports[entryPort].outbound ++ [raiseFrame v.serial] ∧
        t.yard.slots = s.yard.slots.set slot (some { v with
          state := .queued, reason := none, admitted := some s.clock.now, admission := s.yard.admitted }))) ∧
  ∀ (p : Pair) (s : State), quiet s → s.gate.entry = .pairing → s.gate.timer = some 0 → s.gate.pair = some p →
    ∃ t, exec .pairingTimer s = .next t ∧ t.gate.timer = none ∧ t.gate.entry ≠ .pairing ∧
      (isRepeat p (identify p s) s = true → t.gate.entry = .ready ∧ t.yard = s.yard) ∧
      (isRepeat p (identify p s) s = false → (∀ slot : Slot, (s.yard.slots[slot]).isSome) →
        t.gate.entry = .blocked ∧ t.gate.pair = some p ∧ t.yard = s.yard) ∧
      (∀ slot : Slot, isRepeat p (identify p s) s = false → s.yard.slots[slot] = none →
        (∀ j : Slot, j < slot → (s.yard.slots[j]).isSome) →
        identify p s = .unknown ∨ identify p s = .uncertain ∨ identify p s = .conflict →
        t.gate.entry = .ready ∧ t.yard.serial = s.yard.serial + 1 ∧ t.yard.queue = s.yard.queue ∧
        ∃ v, t.yard.slots = s.yard.slots.set slot (some v) ∧ v.serial = s.yard.serial + 1 ∧
          v.state = .atGate ∧ v.tag = p.tag ∧ v.plate = p.plate.map (fun x => x.1) ∧ v.vehicle = none ∧
          v.entered = s.clock.now ∧ v.reason =
            (match identify p s with
              | .unknown => some .unknown
              | .uncertain => some .uncertain
              | .conflict => some .conflict
              | .identified _ _ => none))

/-- Identification: by tag and plate against the vehicle index, a plate being reliable from PLATE_THRESHOLD up; only an
IDENTIFIED pair links its visit to an entry, and its basis goes on to admission (R60). -/
def Obligations.IdentificationByIndex : Prop :=
  ∀ (s : State) (g : Tag) (text : Plate) (n : Nat),
    (resolveTag g s = none → identify { tag := some g, plate := none } s = .unknown) ∧
    (∀ e, resolveTag g s = some e → identify { tag := some g, plate := none } s = .identified .tag e) ∧
    (resolvePlate text s = none → identify { tag := none, plate := some (text, n) } s = .unknown) ∧
    (∀ e, resolvePlate text s = some e → identify { tag := none, plate := some (text, n) } s =
      if s.latched.plateThreshold ≤ n then .identified .plate e else .uncertain) ∧
    (∀ e f, resolveTag g s = some e → resolvePlate text s = some f →
      identify { tag := some g, plate := some (text, n) } s = if e = f then .identified .both e else .conflict) ∧
    (∀ e, resolveTag g s = some e → resolvePlate text s = none →
      identify { tag := some g, plate := some (text, n) } s =
        if s.latched.plateThreshold ≤ n then .conflict else .identified .tag e) ∧
    (∀ f, resolveTag g s = none → resolvePlate text s = some f →
      identify { tag := some g, plate := some (text, n) } s = .conflict) ∧
    (resolveTag g s = none → resolvePlate text s = none →
      identify { tag := some g, plate := some (text, n) } s = .unknown) ∧
    resolveTag 0 s = none ∧
    (∀ (p : Pair) (o : Ident), (∀ b e, o ≠ .identified b e) →
      (newVisit p o s).vehicle = none ∧ (newVisit p o s).basis = none) ∧
    (∀ (p : Pair) (b : Basis) (e : Nat), (newVisit p (.identified b e) s).basis = some b ∧
      (∀ x, lookup s.table.vehicles e = some x → (newVisit p (.identified b e) s).vehicle = some e))

/-- ADMIT_VISIT on a held visit: refused when it is not AT_GATE, when the depot is paused, when an argument is out of
range, when no vehicle is named or linked and an argument is missing, when an entry named is not committed, or when the
vehicle named is not the one linked, or for a visit not linked is linked to another, in this order (R67).
ADMIT_VISIT done with every argument given and no vehicle named, while no bay is FREE: the visit takes them, is
QUEUED with the depot clock as admission time, and its RAISE is offered to the UP entry gate (R67, R75, R80). -/
def Obligations.AdmitVisitByItsChecks : Prop :=
  (∀ (entry : List Byte) (slot : Slot) (v : Visit) (s : State), orderReady 1 entry s →
    slot.val = arg16 4 entry → s.yard.slots[slot] = some v → v.serial.toNat = arg16 6 entry →
    (v.state ≠ .atGate → ∃ t, exec .admitVisit s = .next t ∧ answered .refusedState s t ∧ sameUnits s t) ∧
    (v.state = .atGate → paused s = true →
      ∃ t, exec .admitVisit s = .next t ∧ answered .depotPaused s t ∧ sameUnits s t) ∧
    (v.state = .atGate → paused s = false → admitInRange (admitArgs entry) = false →
      ∃ t, exec .admitVisit s = .next t ∧ answered .refusedRange s t ∧ sameUnits s t) ∧
    (v.state = .atGate → paused s = false → admitInRange (admitArgs entry) = true →
      admitComplete v (admitArgs entry) = true → admitCommitted (admitArgs entry) s = false →
      ∃ t, exec .admitVisit s = .next t ∧ answered .referenced s t ∧ sameUnits s t) ∧
    (v.state = .atGate → paused s = false → admitInRange (admitArgs entry) = true → v.vehicle = none →
      optArg 8 entry = none → optArg 10 entry = none ∨ optArg 12 entry = none ∨ optArg 14 entry = none →
      ∃ t, exec .admitVisit s = .next t ∧ answered .refusedRange s t ∧ sameUnits s t) ∧
    (∀ i : Nat, v.state = .atGate → paused s = false → admitInRange (admitArgs entry) = true →
      admitCommitted (admitArgs entry) s = true → optArg 8 entry = some i →
      (∃ j, v.vehicle = some j ∧ i ≠ j) ∨ (v.vehicle = none ∧
        ∃ (other : Slot) (w : Visit), s.yard.slots[other] = some w ∧ w.vehicle = some i) →
      ∃ t, exec .admitVisit s = .next t ∧ answered .refusedState s t ∧ sameUnits s t)) ∧
  (∀ (entry : List Byte) (slot : Slot) (v : Visit) (a p n : Nat) (s : State), orderReady 1 entry s →
    slot.val = arg16 4 entry → s.yard.slots[slot] = some v → v.serial.toNat = arg16 6 entry →
    v.state = .atGate → s.clock.fallback = false → optArg 8 entry = none → optArg 10 entry = some a →
    optArg 12 entry = some p → optArg 14 entry = some n → a < 256 → p < 16 → 2 ≤ n → n ≤ 9 →
    (lookup s.table.accounts a).isSome → (lookup s.table.programmes p).isSome →
    (∀ b : BayId, s.bays[b].state ≠ .free) → s.ports[entryPort].link = .up →
    s.ports[entryPort].outbound.length < 16 →
    ∃ t, exec .admitVisit s = .next t ∧ answered .done s t ∧ slot ∈ t.yard.queue ∧
      t.ports[entryPort].outbound = s.ports[entryPort].outbound ++ [raiseFrame v.serial] ∧ t.bays = s.bays ∧
      ∃ w, t.yard.slots = s.yard.slots.set slot (some w) ∧ w.state = .queued ∧ w.reason = none ∧
        w.admission = s.yard.admitted ∧ t.yard.queue = enqueueAt t.yard.slots slot w s.yard.queue ∧ w.serial = v.serial ∧ w.vehicle = v.vehicle ∧ w.account.map Fin.val = some a ∧ w.programme = some p ∧
        w.axles = some n ∧ w.admitted = some s.clock.now ∧ w.tag = v.tag ∧ w.plate = v.plate)

/-! ### Visits and the bay queue (chapter 5) -/

/-- By R82 a bay is eligible exactly when it is fitted and FREE, its port UP, its presence OFF, its descriptor takes the
axles and the programme, and the programme is committed; by R83 the arbiter calls no visit while the fallback flag is set.
A run takes the first visit in queue order that has an eligible bay, calls it to the lowest of its eligible bays, and looks
again, until no visit has one (R83, R85); shown for PRESENCE OFF in a FREE bay, no other bay being FREE.
A visit joins the queue before the first that it precedes: by R80 PRIORITY precedes, and within a group the earlier admitted;
a queue in that order stays so. -/
def Obligations.EligibleBays : Prop :=
  (∀ (b : BayId) (v : Visit) (s : State), eligible b v s = true ↔
    bayFitted b s = true ∧ s.bays[b].state = .free ∧ s.ports[bayPort b].link = .up ∧ s.bays[b].presence = .off ∧
    ∃ n p, v.axles = some n ∧ v.programme = some p ∧ n ≤ s.latched.bays[b].axleLimit ∧
      s.latched.bays[b].mask.getLsbD p = true ∧ (lookup s.table.programmes p).isSome) ∧
  (∀ s : State, s.clock.fallback = true → arbiter s = s) ∧
  ((∀ (slot : Slot) (v : Visit) (b : BayId) (s : State), nextCall s = some (slot, v, b) ↔
    ∃ pre post, s.yard.queue = pre ++ slot :: post ∧ s.yard.slots[slot] = some v ∧ eligible b v s = true ∧
      (∀ c : BayId, c < b → eligible c v s = false) ∧
      ∀ q ∈ pre, ∀ w, s.yard.slots[q] = some w → ∀ c : BayId, eligible c w s = false) ∧
  (∀ s : State, s.clock.fallback = false → (nextCall s = none → arbiter s = s) ∧ nextCall (arbiter s) = none ∧
    ∀ slot v b, nextCall s = some (slot, v, b) → arbiter s = arbiter (callVisit slot v b s)) ∧
  (∀ (b : BayId) (x : QFrame) (xs : List QFrame) (s : State), quiet s → bayFitted b s = true →
    s.ports[bayPort b].link = .up → s.ports[bayPort b].inbound = x :: xs → s.ports[bayPort b].outbound.length < 16 →
    x.kind = Kind.presence → presenceOf x.payload = .off → s.bays[b].presence ≠ .off → s.bays[b].state = .free →
    (∀ c : BayId, c ≠ b → s.bays[c].state ≠ .free) →
    let u : State := { s with bays := s.bays.set b { s.bays[b] with presence := .off } }
    ∃ t, exec (.presence b) s = .next t ∧ t.ports[bayPort b].inbound = xs ∧
      ((∀ q ∈ s.yard.queue, ∀ w, s.yard.slots[q] = some w → eligible b w u = false) →
        t.bays = u.bays ∧ t.yard = s.yard) ∧
      (∀ (pre post : List Slot) (slot : Slot) (v : Visit), s.yard.queue = pre ++ slot :: post →
        s.yard.slots[slot] = some v → eligible b v u = true →
        (∀ q ∈ pre, ∀ w, s.yard.slots[q] = some w → eligible b w u = false) →
        t.bays = s.bays.set b { s.bays[b] with presence := .off, state := .calling, bound := some slot, lastTag := none } ∧
        t.yard = { s.yard with queue := pre ++ post, slots := s.yard.slots.set slot (some { v with
          state := .called, bay := some b, callTimer := some s.latched.callLimit }) } ∧
        t.ports[bayPort b].outbound =
          s.ports[bayPort b].outbound ++ [signFrame v.serial (signPlate v s)]))) ∧
  ((∀ v w : Visit, standsBefore v w = true ↔ (v.priority = true ∧ w.priority = false) ∨
    (v.priority = w.priority ∧ v.admission < w.admission)) ∧
  (∀ (slot : Slot) (v : Visit) (s : State), ∃ pre post, s.yard.queue = pre ++ post ∧
    (enqueue slot v s).yard.queue = pre ++ slot :: post ∧
    (∀ q ∈ pre, ∀ w, s.yard.slots[q] = some w → standsBefore v w = false) ∧
    ∀ q qs, post = q :: qs → ∃ w, s.yard.slots[q] = some w ∧ standsBefore v w = true) ∧
  (∀ (slot : Slot) (v : Visit) (s : State), s.yard.slots[slot] = some v →
    (∀ q ∈ s.yard.queue, ∃ w, s.yard.slots[q] = some w ∧ w.admission ≠ v.admission) →
    s.yard.queue.Pairwise (queuedBefore s) → (enqueue slot v s).yard.queue.Pairwise (queuedBefore s)))

/-- SET_PROGRAMME: refused unless AT_GATE or QUEUED, in range and committed, in this order; done, a visit not held for
credit and with no FREE bay to take it keeps all but its programme (R88). -/
def Obligations.SetProgrammeSetsIt : Prop :=
  ∀ (entry : List Byte) (slot : Slot) (v : Visit) (s : State), orderReady 3 entry s →
    slot.val = arg16 4 entry → s.yard.slots[slot] = some v → v.serial.toNat = arg16 6 entry →
    (v.state ≠ .atGate → v.state ≠ .queued →
      ∃ t, exec .setProgramme s = .next t ∧ answered .refusedState s t ∧ sameUnits s t) ∧
    (v.state = .atGate ∨ v.state = .queued →
      (15 < arg16 8 entry → ∃ t, exec .setProgramme s = .next t ∧ answered .refusedRange s t ∧ sameUnits s t) ∧
      (arg16 8 entry ≤ 15 → lookup s.table.programmes (arg16 8 entry) = none →
        ∃ t, exec .setProgramme s = .next t ∧ answered .referenced s t ∧ sameUnits s t) ∧
      (arg16 8 entry ≤ 15 → (lookup s.table.programmes (arg16 8 entry)).isSome →
        v.state = .queued ∧ (∀ b : BayId, s.bays[b].state ≠ .free) ∨
          v.state = .atGate ∧ v.reason ≠ some .credit →
        ∃ t, exec .setProgramme s = .next t ∧ answered .done s t ∧
          t.yard = { s.yard with
            slots := s.yard.slots.set slot (some { v with programme := some (arg16 8 entry) }) } ∧
          t.bays = s.bays ∧ t.ports = s.ports))

/-- CANCEL_VISIT: a queued visit leaves the queue RELEASED for CANCELLED; a called one too, its bay unbound and told with
STAGE_STOP; any other is REFUSED_STATE (R89, R98).
CALL_TIMER run out: below the third expiry the visit is QUEUED again without a bay; at the third it is RELEASED for
NO_SHOW keeping its bay; the bay is unbound and its station told (R86, R98). A bay whose presence is OFF and that is not
held after is FREE for the arbiter at once: below the third expiry the one visit waiting, served by that bay, is called to
it again (R83, R85). -/
def Obligations.CallsEndByOrderAndTimer : Prop :=
  (∀ (entry : List Byte) (slot : Slot) (v : Visit) (s : State), orderReady 4 entry s →
    slot.val = arg16 4 entry → s.yard.slots[slot] = some v → v.serial.toNat = arg16 6 entry →
    (v.state = .queued → ∃ t, exec .cancelVisit s = .next t ∧ answered .done s t ∧
      t.yard.queue = s.yard.queue.erase slot ∧ t.yard.slots = s.yard.slots.set slot (some { v with
        state := .released, outcome := some .released, reason := some .cancelled, callTimer := none }) ∧
      t.bays = s.bays ∧ t.ports = s.ports) ∧
    (∀ b : BayId, v.state = .called → v.bay = some b → s.yard.queue = [] →
      s.ports[bayPort b].link = .up → s.ports[bayPort b].outbound.length < 16 →
      ∃ t, exec .cancelVisit s = .next t ∧ answered .done s t ∧
        t.yard.slots = s.yard.slots.set slot (some { v with
          state := .released, outcome := some .released, reason := some .cancelled, callTimer := none }) ∧
        t.bays[b].bound = none ∧ t.bays[b].lastTag = none ∧ t.bays[b].holdAfter = false ∧
        t.bays[b].state = (if s.bays[b].holdAfter then .closed else .free) ∧
        t.ports[bayPort b].outbound = s.ports[bayPort b].outbound ++ [stageStopFrame]) ∧
    (v.state ≠ .queued → v.state ≠ .called →
      ∃ t, exec .cancelVisit s = .next t ∧ answered .refusedState s t ∧ sameUnits s t)) ∧
  ((∀ (slot : Slot) (v : Visit) (b : BayId) (s : State), quiet s → s.yard.slots[slot] = some v →
    v.state = .called → v.callTimer = some 0 → v.bay = some b → s.yard.queue = [] →
    (∀ c : BayId, c ≠ b → s.bays[c].state ≠ .free) →
    s.bays[b].presence ≠ .off ∨ s.bays[b].holdAfter = true ∨ 3 ≤ v.callCount + 1 →
    s.ports[bayPort b].link = .up → s.ports[bayPort b].outbound.length < 16 →
    ∃ t, exec (.callTimer slot) s = .next t ∧ t.bays[b].bound = none ∧
      t.bays[b].state = (if s.bays[b].holdAfter then .closed else .free) ∧
      t.ports[bayPort b].outbound = s.ports[bayPort b].outbound ++ [stageStopFrame] ∧
      (v.callCount + 1 < 3 → t.yard.queue = [slot] ∧ t.yard.slots = s.yard.slots.set slot (some { v with
        state := .queued, bay := none, callCount := v.callCount + 1, callTimer := none })) ∧
      (3 ≤ v.callCount + 1 → t.yard.queue = [] ∧ t.yard.slots = s.yard.slots.set slot (some { v with
        state := .released, outcome := some .released, reason := some .noShow,
        callCount := v.callCount + 1, callTimer := none }))) ∧
  (∀ (slot : Slot) (v : Visit) (b : BayId) (n p : Nat) (s : State), quiet s → s.yard.slots[slot] = some v →
    v.state = .called → v.callTimer = some 0 → v.bay = some b → s.yard.queue = [] →
    (∀ c : BayId, c ≠ b → s.bays[c].state ≠ .free) → s.bays[b].presence = .off → s.bays[b].holdAfter = false →
    v.callCount + 1 < 3 → s.ports[bayPort b].link = .up → s.ports[bayPort b].outbound.length < 15 →
    bayFitted b s = true → v.axles = some n → v.programme = some p → n ≤ s.latched.bays[b].axleLimit →
    s.latched.bays[b].mask.getLsbD p = true → (lookup s.table.programmes p).isSome = true →
    ∃ t, exec (.callTimer slot) s = .next t ∧ t.bays[b].state = .calling ∧ t.bays[b].bound = some slot ∧
      t.yard.queue = [] ∧ t.yard.slots = s.yard.slots.set slot (some { v with
        callCount := v.callCount + 1, callTimer := some s.latched.callLimit }) ∧
      t.ports[bayPort b].outbound = s.ports[bayPort b].outbound ++
        [stageStopFrame, signFrame v.serial (signPlate v s)]) ∧
  (∀ (slot : Slot) (s : State), callDue slot s = none → exec (.callTimer slot) s = .next s))

/-! ### Wash bays (chapter 6) -/

/-- PRESENCE: a value already recorded changes no bay; ON in a FREE or CLOSED bay is recorded and starts no session; OFF in
a CLEARING bay takes it to FREE, or to CLOSED for a bay to be held after (R94, R97, R112).
ON in a CALLING bay is recorded; when the visit has no tag, or the last tag read is one of its, the session starts on its first
stage: of class NONE at once; of any other class on the grant that the Water Unit makes, or, refused, in WAITING_WATER at the
tail of the wait list (R96, R99, R100, R119, R120, R122). OFF in a CALLING bay clears the last tag (R96).
OFF in a WAITING_WATER bay: the request leaves the wait list and the session ends ABORTED with VEHICLE_LEFT, the bay FREE or
CLOSED. In RUNNING the part is stopped and the bay SETTLING; there and in SETTLING VEHICLE_LEFT is pending, unless an abort
is (R107, R109). -/
def Obligations.PresenceIsRecorded : Prop :=
  ∀ (b : BayId) (x : QFrame) (xs : List QFrame) (s : State), quiet s → bayFitted b s = true →
    s.ports[bayPort b].link = .up → s.ports[bayPort b].inbound = x :: xs → x.kind = Kind.presence →
    (s.bays[b].presence = presenceOf x.payload →
      ∃ t, exec (.presence b) s = .next t ∧ t.ports[bayPort b].inbound = xs ∧ t.bays = s.bays ∧
        t.yard = s.yard ∧ t.water = s.water) ∧
    (presenceOf x.payload = .on → s.bays[b].presence ≠ .on → s.bays[b].state = .free ∨ s.bays[b].state = .closed →
      ∃ t, exec (.presence b) s = .next t ∧ t.ports[bayPort b].inbound = xs ∧
        t.bays = s.bays.set b { s.bays[b] with presence := .on } ∧ t.yard = s.yard ∧ t.water = s.water) ∧
    (presenceOf x.payload = .off → s.bays[b].presence ≠ .off → s.bays[b].state = .clearing → s.yard.queue = [] →
      ∃ t, exec (.presence b) s = .next t ∧ t.ports[bayPort b].inbound = xs ∧
        t.bays = s.bays.set b { s.bays[b] with
          presence := .off, holdAfter := false,
          state := if s.bays[b].holdAfter then .closed else .free } ∧ t.yard = s.yard) ∧
    (∀ (slot : Slot) (v : Visit), presenceOf x.payload = .on → s.bays[b].presence ≠ .on → s.bays[b].state = .calling →
      s.bays[b].bound = some slot → s.yard.slots[slot] = some v → s.ports[bayPort b].outbound.length < 16 →
      let arrived := visitTags v s = [] ∨ ∃ g ∈ visitTags v s, s.bays[b].lastTag = some g
      (¬ arrived → ∃ t, exec (.presence b) s = .next t ∧ t.ports[bayPort b].inbound = xs ∧ t.yard = s.yard ∧
        t.bays = s.bays.set b { s.bays[b] with presence := .on } ∧ t.water = s.water) ∧
      (∀ (p : Programme) (g : Stage) (gs : List Stage), arrived →
        v.programme.bind (lookup s.table.programmes) = some p → p.stages = g :: gs → g.water = .none →
        ∃ t, exec (.presence b) s = .next t ∧ t.ports[bayPort b].inbound = xs ∧ t.water = s.water ∧
          t.yard.slots = s.yard.slots.set slot (some { v with state := .washing, callTimer := none }) ∧
          t.bays[b].state = .running ∧ t.bays[b].presence = .on ∧ t.bays[b].timer = some g.duration ∧
          t.bays[b].lastTag = none ∧ t.ports[bayPort b].outbound = s.ports[bayPort b].outbound ++
            [stageStartFrame g.kind .none 0 0]) ∧
      (∀ (p : Programme) (g : Stage) (gs : List Stage), arrived →
        v.programme.bind (lookup s.table.programmes) = some p → p.stages = g :: gs → g.water ≠ .none →
        let litres := ceilDiv (g.flow * g.duration) 60
        ∃ t, exec (.presence b) s = .next t ∧ t.ports[bayPort b].inbound = xs ∧ t.bays[b].presence = .on ∧
          t.yard.slots = s.yard.slots.set slot (some { v with state := .washing, callTimer := none }) ∧
          (∀ src reserve, answer g.water litres false s = some (src, reserve) →
            partStarted b g g.duration litres src reserve s t) ∧
          (answer g.water litres false s = none → partWaits b g.water litres false s t))) ∧
    (presenceOf x.payload = .off → s.bays[b].presence ≠ .off → s.bays[b].state = .calling →
      ∃ t, exec (.presence b) s = .next t ∧ t.ports[bayPort b].inbound = xs ∧ t.yard = s.yard ∧ t.water = s.water ∧
        t.bays = s.bays.set b { s.bays[b] with presence := .off, lastTag := none }) ∧
    (∀ (z : Session) (r : StageRun) (v : Visit), presenceOf x.payload = .off → s.bays[b].presence ≠ .off →
      s.bays[b].state = .waitingWater → s.bays[b].session = some z → z.stages[z.current]? = some r →
      r.complete = false → s.yard.slots[z.slot] = some v → s.yard.queue = [] →
      ∃ t, exec (.presence b) s = .next t ∧ t.ports[bayPort b].inbound = xs ∧
        t.ports[bayPort b].outbound = s.ports[bayPort b].outbound ∧
        t.bays = s.bays.set b { s.bays[b] with
          presence := .off, holdAfter := false, bound := none, session := none, timer := none, lastTag := none,
          state := if s.bays[b].holdAfter then .closed else .free } ∧
        t.water = { s.water with waitList := s.water.waitList.filter (fun e => e.bay != b) } ∧
        t.yard.slots = s.yard.slots.set z.slot (some { v with
          state := .washed, outcome := some .aborted, summary := some {
            completed := z.completed, total := z.stages.length, fresh := z.fresh, reclaim := z.reclaim,
            detergent := z.detergent + ceilDiv (r.stage.rate * r.elapsed) 60, overrun := z.overrun,
            abort := some .vehicleLeft } }) ∧
        (s.path.queue.length ≤ 32 → noticeGiven
          { kind := .sessionAborted, reason := AbortReason.vehicleLeft.code, subject := b.val,
            first := z.serial.toNat, second := z.completed } s t)) ∧
    (∀ z : Session, presenceOf x.payload = .off → s.bays[b].presence ≠ .off → s.bays[b].session = some z →
      let pending := some { z with abort := some (z.abort.getD .vehicleLeft) }
      (s.bays[b].state = .running → s.ports[bayPort b].outbound.length < 16 →
        ∃ t, exec (.presence b) s = .next t ∧ t.ports[bayPort b].inbound = xs ∧ t.yard = s.yard ∧ t.water = s.water ∧
          t.bays = s.bays.set b { s.bays[b] with
            presence := .off, state := .settling, timer := none, session := pending } ∧
          t.ports[bayPort b].outbound = s.ports[bayPort b].outbound ++ [stageStopFrame]) ∧
      (s.bays[b].state = .settling →
        ∃ t, exec (.presence b) s = .next t ∧ t.ports[bayPort b].inbound = xs ∧ t.yard = s.yard ∧ t.water = s.water ∧
          t.bays = s.bays.set b { s.bays[b] with presence := .off, session := pending } ∧
          t.ports[bayPort b].outbound = s.ports[bayPort b].outbound))

/-- BAY_TAG in a CALLING bay: identity 0 is discarded; a tag that is not one of the visit's is recorded and starts no
session; one that is, with presence ON, starts the session on its first stage: of class NONE at once with flow 0; of any other
class on the grant that the Water Unit makes, or, refused, in WAITING_WATER at the tail of the wait list (R95, R96, R99, R100,
R119, R120, R122). -/
def Obligations.BayTagStartsTheSession : Prop :=
  ∀ (b : BayId) (slot : Slot) (v : Visit) (x : QFrame) (xs : List QFrame) (s : State), quiet s →
    bayFitted b s = true → s.ports[bayPort b].link = .up → s.ports[bayPort b].inbound = x :: xs →
    s.ports[bayPort b].outbound.length < 16 → x.kind = Kind.bayTag → s.bays[b].state = .calling →
    s.bays[b].bound = some slot → s.yard.slots[slot] = some v → visitTags v s ≠ [] →
    ∃ t, exec (.bayTag b) s = .next t ∧ t.ports[bayPort b].inbound = xs ∧
      (tagOf x.payload = 0 → t.bays = s.bays ∧ t.yard = s.yard) ∧
      (tagOf x.payload ≠ 0 → tagOf x.payload ∉ visitTags v s →
        t.bays = s.bays.set b { s.bays[b] with lastTag := some (tagOf x.payload) } ∧ t.yard = s.yard) ∧
      (∀ (p : Programme) (g : Stage) (gs : List Stage), tagOf x.payload ≠ 0 → tagOf x.payload ∈ visitTags v s →
        s.bays[b].presence = .on → v.programme.bind (lookup s.table.programmes) = some p →
        p.stages = g :: gs → g.water = .none →
        t.yard.slots = s.yard.slots.set slot (some { v with state := .washing, callTimer := none }) ∧
        t.bays[b].state = .running ∧ t.bays[b].timer = some g.duration ∧ t.bays[b].lastTag = none ∧
        t.ports[bayPort b].outbound = s.ports[bayPort b].outbound ++
          [stageStartFrame g.kind .none 0 0] ∧ t.water = s.water) ∧
      (∀ (p : Programme) (g : Stage) (gs : List Stage), tagOf x.payload ≠ 0 → tagOf x.payload ∈ visitTags v s →
        s.bays[b].presence = .on → v.programme.bind (lookup s.table.programmes) = some p →
        p.stages = g :: gs → g.water ≠ .none →
        let litres := ceilDiv (g.flow * g.duration) 60
        t.yard.slots = s.yard.slots.set slot (some { v with state := .washing, callTimer := none }) ∧
        (∀ src reserve, answer g.water litres false s = some (src, reserve) →
          partStarted b g g.duration litres src reserve s t) ∧
        (answer g.water litres false s = none → partWaits b g.water litres false s t))

/-- METER outside RUNNING and SETTLING finds no part and is discarded; in RUNNING without FINAL an increase is metered
against the bay's grant, exactly, a tank's book level falling with it, and a reading that has gone backwards changes no
litres (R103, R124).
METER with FINAL in SETTLING on the last stage, run its full time: the session ends COMPLETE, the visit is WASHED with
its summary, the bay is unbound, and a part's grant is settled, from a tank or from fresh water (R105, R107, R124); in
RUNNING the stage is complete whatever its seconds, no STAGE_STOP goes out, and without CAP STATION_STOPPED is asked for
(R104); shown for an unchanged reading. With a stage left and no abort pending, the next stage's part starts, or waits for
its water, for a session that has completed a stage (R100, R105, R120); shown for a part that held no grant. A bay whose presence is not ON is then FREE or CLOSED (the model's choice for
UNKNOWN, log 34). -/
def Obligations.MeterByBayState : Prop :=
  (∀ (b : BayId) (x : QFrame) (xs : List QFrame) (s : State), quiet s → bayFitted b s = true →
    s.ports[bayPort b].link = .up → s.ports[bayPort b].inbound = x :: xs → x.kind = Kind.meter →
    (s.bays[b].state ≠ .running → s.bays[b].state ≠ .settling →
      ∃ t, exec (.meter b) s = .next t ∧ t.ports[bayPort b].inbound = xs ∧ t.bays = s.bays ∧ t.yard = s.yard ∧
        t.water = s.water) ∧
    (∀ (z : Session) (p : Part) (g : Grant), s.bays[b].state = .running → field 4 1 x.payload % 2 = 0 →
      s.bays[b].session = some z → z.part = some p → p.grant = some g.number → s.water.grants[b] = some g →
      0 < s.latched.bays[b].pulses →
      let l := field 0 4 x.payload * 10 / s.latched.bays[b].pulses
      let bays := s.bays.set b { s.bays[b] with session := some { z with part := some { p with last := l } } }
      let grants := s.water.grants.set b (some { g with metered := g.metered + (l - p.last) })
      (p.last < l → g.source = .fresh →
        ∃ t, exec (.meter b) s = .next t ∧ t.water = { s.water with grants := grants } ∧ t.bays = bays) ∧
      (∀ k, p.last < l → g.source = .tank k → g.revoked = false → g.metered + (l - p.last) ≤ g.granted →
        owed k s ≤ s.water.tanks[k].book →
        ∃ t, exec (.meter b) s = .next t ∧ t.bays = bays ∧ t.water = { s.water with
          grants := grants, tanks := s.water.tanks.set k { s.water.tanks[k] with
            book := s.water.tanks[k].book - (l - p.last) } }) ∧
      (l ≤ p.last → ∃ t, exec (.meter b) s = .next t ∧ t.water = s.water ∧ t.bays = s.bays))) ∧
  (∀ (b : BayId) (x : QFrame) (xs : List QFrame) (z : Session) (p : Part) (r : StageRun) (v : Visit) (s : State),
    quiet s → bayFitted b s = true → s.ports[bayPort b].link = .up → s.ports[bayPort b].inbound = x :: xs →
    x.kind = Kind.meter → field 4 1 x.payload % 2 = 1 →
    s.bays[b].session = some z → z.part = some p →
    litresOf (field 0 4 x.payload) b s = p.last → z.stages[z.current]? = some r →
    s.bays[b].state = .settling ∧ r.elapsed = r.stage.duration ∨ s.bays[b].state = .running →
    z.current + 1 = z.stages.length → s.yard.slots[z.slot] = some v → s.yard.queue = [] →
    s.water.waitList = [] → s.water.pumpQueue = [] →
    let stopped : Notice := { kind := .stationStopped, subject := b.val, first := z.current, second := r.elapsed }
    let overrun := if p.grant.isSome then p.last - p.granted else 0
    let fresh := if p.source = .fresh then p.last else 0
    let reclaim := match p.source with | .tank _ => p.last | .fresh => 0 | .none => 0
    p.grant = none ∨ (∃ g, s.water.grants[b] = some g ∧ p.grant = some g.number ∧ p.source = g.source) →
    ∃ t, exec (.meter b) s = .next t ∧ t.bays[b].session = none ∧ t.bays[b].bound = none ∧
      t.bays[b].timer = none ∧ t.bays[b].state =
        (if s.bays[b].presence = .on then .clearing else if s.bays[b].holdAfter then .closed else .free) ∧
      t.yard.slots = s.yard.slots.set z.slot (some { v with
        state := .washed, outcome := some .complete, summary := some {
          completed := z.completed + 1, total := z.stages.length, fresh := z.fresh + fresh,
          reclaim := z.reclaim + reclaim, detergent := z.detergent + ceilDiv (r.stage.rate * r.elapsed) 60,
          overrun := z.overrun + overrun, abort := none } }) ∧
      t.ports[bayPort b].outbound = s.ports[bayPort b].outbound ∧
      (p.grant = none → t.water = s.water) ∧
      (∀ g k, s.water.grants[b] = some g → p.grant = some g.number → g.source = .tank k →
        t.water = { s.water with
          grants := s.water.grants.set b none
          tanks := s.water.tanks.set k { s.water.tanks[k] with grants := s.water.tanks[k].grants.erase b } }) ∧
      (∀ g, s.water.grants[b] = some g → p.grant = some g.number → g.source = .fresh →
        t.water = { s.water with grants := s.water.grants.set b none,
                                 settled := s.water.settled + min p.last g.granted }) ∧
      (s.bays[b].state = .running → s.path.queue.length ≤ 32 →
        (field 4 1 x.payload / 2 % 2 = 0 → noticeGiven stopped s t) ∧
        (field 4 1 x.payload / 2 % 2 = 1 → t.exch.producer = s.exch.producer))) ∧
  (∀ (b : BayId) (x : QFrame) (xs : List QFrame) (z : Session) (p : Part) (r n : StageRun) (s : State),
    quiet s → bayFitted b s = true → s.ports[bayPort b].link = .up → s.ports[bayPort b].inbound = x :: xs →
    s.ports[bayPort b].outbound.length < 16 → x.kind = Kind.meter → field 4 1 x.payload % 2 = 1 →
    s.bays[b].session = some z → z.part = some p → p.grant = none → z.abort = none →
    litresOf (field 0 4 x.payload) b s = p.last → z.stages[z.current]? = some r →
    s.bays[b].state = .settling → r.elapsed = r.stage.duration → z.stages[z.current + 1]? = some n →
    let seconds := n.stage.duration - n.elapsed
    let litres := ceilDiv (n.stage.flow * seconds) 60
    ∃ t, exec (.meter b) s = .next t ∧ t.ports[bayPort b].inbound = xs ∧ t.yard = s.yard ∧
      (∃ y, t.bays[b].session = some y ∧ y.current = z.current + 1 ∧ y.completed = z.completed + 1 ∧
        y.detergent = z.detergent + ceilDiv (r.stage.rate * r.elapsed) 60) ∧
      (n.stage.water = .none → t.bays[b].state = .running ∧ t.bays[b].timer = some seconds ∧ t.water = s.water ∧
        t.ports[bayPort b].outbound =
          s.ports[bayPort b].outbound ++ [stageStartFrame n.stage.kind .none 0 0]) ∧
      (n.stage.water ≠ .none →
        (∀ src reserve, answer n.stage.water litres true s = some (src, reserve) →
          partStarted b n.stage seconds litres src reserve s t) ∧
        (answer n.stage.water litres true s = none → partWaits b n.stage.water litres true s t)))

/-- STAGE_TIMER run out: STAGE_STOP is offered and the bay is SETTLING with its timer stopped; one that has not run out
does nothing (R102).
ABORT_SESSION: REFUSED_RANGE, REFUSED_STATE and STALE in this order; a RUNNING session is stopped with ORDER pending, a
SETTLING one keeps an abort that is pending already (R108). -/
def Obligations.StageTimerAndAbortSession : Prop :=
  ((∀ (b : BayId) (s : State), quiet s → s.bays[b].state = .running → s.bays[b].timer = some 0 →
    s.ports[bayPort b].link = .up → s.ports[bayPort b].outbound.length < 16 →
    ∃ t, exec (.stageTimer b) s = .next t ∧
      t.bays = s.bays.set b { s.bays[b] with state := .settling, timer := none } ∧
      t.ports[bayPort b].outbound = s.ports[bayPort b].outbound ++ [stageStopFrame] ∧ t.yard = s.yard ∧
      t.water = s.water) ∧
  (∀ (b : BayId) (s : State), s.bays[b].state ≠ .running ∨ s.bays[b].timer ≠ some 0 →
    exec (.stageTimer b) s = .next s)) ∧
  (∀ (entry : List Byte) (s : State), orderReady 7 entry s →
    (7 < arg16 4 entry → ∃ t, exec .abortSession s = .next t ∧ answered .refusedRange s t ∧ sameUnits s t) ∧
    (∀ b : BayId, b.val = arg16 4 entry →
      (s.bays[b].state ≠ .waitingWater → s.bays[b].state ≠ .running → s.bays[b].state ≠ .settling →
        ∃ t, exec .abortSession s = .next t ∧ answered .refusedState s t ∧ sameUnits s t) ∧
      (∀ z, s.bays[b].session = some z →
        s.bays[b].state = .waitingWater ∨ s.bays[b].state = .running ∨ s.bays[b].state = .settling →
        (z.serial.toNat ≠ arg16 6 entry →
          ∃ t, exec .abortSession s = .next t ∧ answered .stale s t ∧ sameUnits s t) ∧
        (z.serial.toNat = arg16 6 entry → s.bays[b].state = .running → s.ports[bayPort b].link = .up →
          s.ports[bayPort b].outbound.length < 16 →
          ∃ t, exec .abortSession s = .next t ∧ answered .done s t ∧ t.bays = s.bays.set b { s.bays[b] with
              state := .settling, timer := none,
              session := some { z with abort := some (z.abort.getD .order) } } ∧
            t.ports[bayPort b].outbound = s.ports[bayPort b].outbound ++ [stageStopFrame] ∧ t.yard = s.yard) ∧
        (z.serial.toNat = arg16 6 entry → s.bays[b].state = .settling →
          ∃ t, exec .abortSession s = .next t ∧ answered .done s t ∧ t.ports = s.ports ∧ t.yard = s.yard ∧
            t.bays = s.bays.set b { s.bays[b] with
              session := some { z with abort := some (z.abort.getD .order) } }))))

/-- HOLD_BAY and OPEN_BAY by the bay's state; a bay with no visit waiting for it is FREE after OPEN_BAY (R113, R114). -/
def Obligations.HoldAndOpenBay : Prop :=
  (∀ (entry : List Byte) (s : State), orderReady 5 entry s →
    (7 < arg16 4 entry → ∃ t, exec .holdBay s = .next t ∧ answered .refusedRange s t ∧ sameUnits s t) ∧
    (∀ b : BayId, b.val = arg16 4 entry →
      (bayFitted b s = false → ∃ t, exec .holdBay s = .next t ∧ answered .refusedState s t ∧ sameUnits s t) ∧
      (bayFitted b s = true → ∃ t, exec .holdBay s = .next t ∧ answered .done s t ∧ t.yard = s.yard ∧
        t.ports = s.ports ∧ t.water = s.water ∧ t.bays = s.bays.set b
          (if s.bays[b].state = .free ∨ s.bays[b].state = .fault then { s.bays[b] with state := .closed }
           else if s.bays[b].state = .closed then s.bays[b]
           else { s.bays[b] with holdAfter := true })))) ∧
  (∀ (entry : List Byte) (s : State), orderReady 6 entry s →
    (7 < arg16 4 entry → ∃ t, exec .openBay s = .next t ∧ answered .refusedRange s t ∧ sameUnits s t) ∧
    (∀ b : BayId, b.val = arg16 4 entry →
      (bayFitted b s = false ∨ (s.bays[b].state ≠ .closed ∧ s.bays[b].state ≠ .fault) ∨
        (s.bays[b].state = .fault ∧ s.ports[bayPort b].link ≠ .up) →
        ∃ t, exec .openBay s = .next t ∧ answered .refusedState s t ∧ sameUnits s t) ∧
      (bayFitted b s = true → s.yard.queue = [] →
        s.bays[b].state = .closed ∨ (s.bays[b].state = .fault ∧ s.ports[bayPort b].link = .up) →
        ∃ t, exec .openBay s = .next t ∧ answered .done s t ∧ t.yard = s.yard ∧ t.ports = s.ports ∧
          t.water = s.water ∧ t.bays = s.bays.set b { s.bays[b] with state := .free, holdAfter := false })))

/-! ### Water (chapter 7) -/

/-- LEVEL for a fitted tank sets its reported and its book level, a level above the capacity taken as the capacity; with
no shortfall and nobody waiting nothing else changes; a frame for a tank not fitted changes no tank (R126). -/
def Obligations.LevelSetsTheTank : Prop :=
  ∀ (x : QFrame) (xs : List QFrame) (s : State), quiet s → s.ports[plantPort].link = .up →
    s.ports[plantPort].inbound = x :: xs → x.kind = Kind.level →
    (∀ k : TankId, k.val = field 0 1 x.payload → tankFitted k s = true →
      let l := min (field 1 4 x.payload) s.water.tanks[k].capacity
      (∃ t, exec .level s = .next t ∧ t.water.tanks[k].reported = l ∧ t.water.tanks[k].book = l) ∧
      (owed k s ≤ l → s.water.waitList = [] →
        ∃ t, exec .level s = .next t ∧ t.ports[plantPort].inbound = xs ∧ t.bays = s.bays ∧
          t.water = { s.water with
            tanks := s.water.tanks.set k { s.water.tanks[k] with reported := l, book := l } })) ∧
    ((∀ k : TankId, k.val = field 0 1 x.payload → tankFitted k s = false) →
      ∃ t, exec .level s = .next t ∧ t.ports[plantPort].inbound = xs ∧ t.water = s.water ∧ t.bays = s.bays ∧
        t.yard = s.yard)

/-- SAMPLE for a fitted tank: discarded while a pump request is pending or running; UNCERTAIN under an expired probe; else
the quality by the two products, and a FAILED tank has a pump request (R127, R128). -/
def Obligations.SampleSetsTheQuality : Prop :=
  ∀ (k : TankId) (x : QFrame) (xs : List QFrame) (s : State), quiet s → s.ports[plantPort].link = .up →
    s.ports[plantPort].inbound = x :: xs → s.ports[plantPort].outbound.length < 16 → x.kind = Kind.sample →
    k.val = field 0 1 x.payload → tankFitted k s = true →
    let m := field 1 2 x.payload
    let tol := s.latched.tolBase +
      s.latched.tolTemp * (signed 8 (field 3 1 x.payload) - s.water.calTemp).natAbs +
      s.latched.tolAge * (s.clock.now.day.toNat - s.water.calDay.toNat)
    let q : Quality := if m * (1000 + tol) ≤ s.latched.qualityLimit * 1000 then .certified
      else if s.latched.qualityLimit * 1000 < m * (1000 - tol) then .failed else .uncertain
    (s.water.tanks[k].pumpPending = true ∨ s.water.tanks[k].pumpRunning = true →
      ∃ t, exec .sample s = .next t ∧ t.water = s.water ∧ t.ports[plantPort].inbound = xs) ∧
    (s.water.tanks[k].pumpPending = false → s.water.tanks[k].pumpRunning = false →
      (s.water.calibrated = false ∨ s.latched.tolCeiling < tol →
        ∃ t, exec .sample s = .next t ∧ t.water.tanks[k].quality = .uncertain ∧ t.water.probeExpired = true) ∧
      (s.water.calibrated = true → tol ≤ s.latched.tolCeiling →
        ∃ t, exec .sample s = .next t ∧ t.water.probeExpired = false ∧ t.water.tanks[k].quality = q ∧
          (q = .failed → t.water.tanks[k].pumpPending = true ∨ t.water.tanks[k].pumpRunning = true)))

/-- CALIBRATE: a temperature outside -20 to 60 is REFUSED_RANGE; else it is the calibration, made today, the probe state
left as it is (R130). -/
def Obligations.CalibrateSetsTheCalibration : Prop :=
  ∀ (entry : List Byte) (s : State),
    (orderReady 8 entry s → signed 32 (arg32 entry) < -20 ∨ 60 < signed 32 (arg32 entry) →
      ∃ t, exec .calibrate s = .next t ∧ answered .refusedRange s t ∧ sameUnits s t) ∧
    (orderRead 8 entry s → -20 ≤ signed 32 (arg32 entry) → signed 32 (arg32 entry) ≤ 60 →
      ∃ t, exec .calibrate s = .next t ∧ answered .done s t ∧ t.water.calTemp = signed 32 (arg32 entry) ∧
        t.water.calDay = s.clock.now.day ∧ t.water.calibrated = true ∧
        t.water.probeExpired = s.water.probeExpired)

/-- PUMP_DONE and PUMP_TIMER end the run in flight, complete or failed, a failed one queued again; PUMP_DONE with no run, for
another tank or kind, or of a run that the timer ended while the frame stood untaken, is discarded with UNEXPECTED_DONE (R133;
log 59). PUMP_TIMER run out: the request goes back to the tail of its kind, PUMP_FAILED is given with TIMEOUT (2),
the tank's quality stays, and the next request is looked for: with the plant port UP the first in the queue whose tank has no
grant is sent, and its timer starts (R132, R133); with bays waiting for water, which are retried first, shown for the tank's
quality and its request, queued or sent. CIRCULATION_DUE queues a run unless one is pending or running, and TANK_STALE sets STALE (R131). -/
def Obligations.PumpRunsAndThresholds : Prop :=
  (∀ (r : PumpReq) (x : QFrame) (xs : List QFrame) (s : State), quiet s → s.ports[plantPort].link = .up →
    s.ports[plantPort].inbound = x :: xs → x.kind = Kind.pumpDone → field 0 1 x.payload = r.tank.val →
    tankFitted r.tank s = true → field 1 1 x.payload = r.kind.code → s.water.run = some r → x.overtaken = false →
    (field 2 1 x.payload = 1 → s.water.waitList = [] → s.water.pumpQueue = [] →
      ∃ t, exec .pumpDone s = .next t ∧ t.ports[plantPort].inbound = xs ∧ t.water.run = none ∧
        t.water.pumpTimer = none ∧ t.water.tanks[r.tank].pumpRunning = false ∧
        t.water.tanks[r.tank].stale = false ∧ t.water.tanks[r.tank].age = 0 ∧
        t.water.tanks[r.tank].quality = .uncertain) ∧
    (field 2 1 x.payload = 2 → s.ports[plantPort].outbound.length < 16 →
      ∃ t, exec .pumpDone s = .next t ∧ t.water.tanks[r.tank].quality = s.water.tanks[r.tank].quality ∧
        (t.water.tanks[r.tank].pumpPending = true ∨ t.water.tanks[r.tank].pumpRunning = true))) ∧
  (∀ (k : TankId) (x : QFrame) (xs : List QFrame) (s : State), quiet s → s.ports[plantPort].link = .up →
    s.ports[plantPort].inbound = x :: xs → x.kind = Kind.pumpDone → field 0 1 x.payload = k.val →
    tankFitted k s = true → x.overtaken = true ∨ (∀ r, s.water.run = some r → r.tank ≠ k ∨ r.kind.code ≠ field 1 1 x.payload) →
    ∃ t, exec .pumpDone s = .next t ∧ t.ports[plantPort].inbound = xs ∧ t.water = s.water ∧
      (field 1 1 x.payload = 1 ∨ field 1 1 x.payload = 2 → field 2 1 x.payload = 1 ∨ field 2 1 x.payload = 2 →
        s.path.queue.length ≤ 32 → noticeGiven { kind := .plantFrameInvalid, reason := 4, subject := plantPort.val,
                                                 first := Kind.pumpDone.toNat, second := k.val } s t)) ∧
  (∀ (r : PumpReq) (s : State), quiet s → s.water.pumpTimer = some 0 → s.water.run = some r →
    s.ports[plantPort].outbound.length < 16 →
    let q := pumpInsert { tank := r.tank, kind := r.kind, joined := s.clock.now } s.water.pumpQueue
    let first := q.find? (fun x => s.water.tanks[x.tank].grants.isEmpty)
    ∃ t, exec .pumpTimer s = .next t ∧ t.water.tanks[r.tank].quality = s.water.tanks[r.tank].quality ∧
      (t.water.tanks[r.tank].pumpPending = true ∨ t.water.tanks[r.tank].pumpRunning = true) ∧
      (s.water.waitList = [] → t.ports[plantPort].inbound = s.ports[plantPort].inbound.map (fun f =>
          if f.kind = Kind.pumpDone ∧ field 0 1 f.payload = r.tank.val ∧ field 1 1 f.payload = r.kind.code then
            { f with overtaken := true } else f) ∧
        (s.path.queue.length ≤ 32 → noticeGiven
          { kind := .pumpFailed, reason := 2, subject := r.tank.val, first := r.kind.code } s t) ∧
        (∀ x, s.ports[plantPort].link = .up → first = some x → t.water.run = some x ∧
          t.water.pumpTimer = some (s.latched.pumpTimeout * 60) ∧ t.water.pumpQueue = q.erase x ∧
          t.water.tanks[x.tank].pumpPending = false ∧ t.water.tanks[x.tank].pumpRunning = true ∧
          t.ports[plantPort].outbound = s.ports[plantPort].outbound ++ [pumpRunFrame x.tank x.kind]) ∧
        (s.ports[plantPort].link ≠ .up ∨ first = none → t.water.run = none ∧ t.water.pumpTimer = none ∧
          t.water.pumpQueue = q ∧ t.water.tanks[r.tank].pumpPending = true ∧
          t.water.tanks[r.tank].pumpRunning = false ∧ t.ports = s.ports.set plantPort
            { s.ports[plantPort] with inbound := t.ports[plantPort].inbound }))) ∧
  (∀ s : State, s.water.pumpTimer ≠ some 0 → exec .pumpTimer s = .next s) ∧
  (∀ (k : TankId) (s : State), quiet s → s.water.tanks[k].circulationDue = true →
    ∃ t, exec (.circulationDue k) s = .next t ∧ t.water.tanks[k].circulationDue = false ∧
      (t.water.tanks[k].pumpPending = true ∨ t.water.tanks[k].pumpRunning = true)) ∧
  (∀ (k : TankId) (s : State), quiet s → s.water.tanks[k].staleDue = true →
    ∃ t, exec (.tankStale k) s = .next t ∧ t.bays = s.bays ∧ t.water = { s.water with
      tanks := s.water.tanks.set k { s.water.tanks[k] with stale := true, staleDue := false } }) ∧
  (∀ (k : TankId) (s : State), (s.water.tanks[k].circulationDue = false → exec (.circulationDue k) s = .next s) ∧
    (s.water.tanks[k].staleDue = false → exec (.tankStale k) s = .next s))

/-- A grant comes from the issuable tank with the most room for it, the lowest of equals, or, when no issuable tank has room
or the class asks for fresh water, from fresh water within the allowance, or within the reserve for a session past its first
stage; a tank is issuable only when fitted, CERTIFIED, not STALE, without a pump request, and with the plant port UP (R117,
R119, R120).
A stage part of class RECLAIM_OK or FRESH_ONLY, whenever one starts: granted, its grant takes the bay's place, the tank owes
its litres or fresh drawn today counts them, and the part runs for the stage's remaining seconds; refused, the bay is in
WAITING_WATER and its entry at the tail of the wait list (R100, R116, R121, R122). -/
def Obligations.GrantsComeFromIssuableTanks : Prop :=
  (∀ (k : TankId) (s : State), issuable k s = true ↔ tankFitted k s = true ∧
    s.water.tanks[k].quality = .certified ∧ s.water.tanks[k].stale = false ∧
    s.water.tanks[k].pumpPending = false ∧ s.water.tanks[k].pumpRunning = false ∧
    s.ports[plantPort].link = .up) ∧
  (∀ (w : WaterClass) (l : Nat) (d r : Bool) (k : TankId) (s : State), answer w l d s = some (.tank k, r) →
    w = .reclaimOk ∧ r = false ∧ issuable k s = true ∧ l ≤ room k s ∧
    ∀ j : TankId, issuable j s = true → l ≤ room j s → room j s ≤ room k s ∧ (j < k → room j s < room k s)) ∧
  (∀ (w : WaterClass) (l : Nat) (d r : Bool) (s : State), answer w l d s = some (.fresh, r) →
    (w = .reclaimOk → ∀ j : TankId, issuable j s = true → room j s < l) ∧
    ((r = false ∧ freshDrawn s + l ≤ s.latched.freshAllowance) ∨
      (r = true ∧ d = true ∧ s.latched.freshAllowance < freshDrawn s + l ∧
        freshDrawn s + l ≤ s.latched.freshAllowance + s.latched.freshReserve))) ∧
  (∀ (w : WaterClass) (l : Nat) (d : Bool) (s : State), answer w l d s = none →
    s.latched.freshAllowance < freshDrawn s + l ∧
    (d = true → s.latched.freshAllowance + s.latched.freshReserve < freshDrawn s + l) ∧
    (w = .reclaimOk → ∀ j : TankId, issuable j s = true → room j s < l)) ∧
  (∀ (b : BayId) (z : Session) (r : StageRun) (s : State), s.bays[b].session = some z →
    z.stages[z.current]? = some r → r.stage.water ≠ .none → s.clock.fallback = false →
    s.ports[bayPort b].link = .up → s.ports[bayPort b].outbound.length < 16 →
    let seconds := r.stage.duration - r.elapsed
    let litres := ceilDiv (r.stage.flow * seconds) 60
    let done := decide (0 < z.completed)
    (∀ src reserve, answer r.stage.water litres done s = some (src, reserve) →
      partStarted b r.stage seconds litres src reserve s (startPart b s)) ∧
    (answer r.stage.water litres done s = none → partWaits b r.stage.water litres done s (startPart b s)))

/-! ### Guarded tables and edit windows (chapter 8) -/

/-- The edit window by its state and the key handed, in RUNNING with the fallback flag clear; otherwise a key is ignored;
and the lifetime and lockout timers shut it (R142, R143). Fallback, STOPPING and HALTED shut it at once.
The model's reading for a Table Unit that takes no event at once (R14; log 10): the window stands, what the unit is told and
a timer run out wait their turn, the MEMORY_PORT_FREE whose grant lets the one held request join shuts the window, and what
waited behind a key has its turn when the key is taken. -/
def Obligations.EditKeysMoveTheWindow : Prop :=
  (∀ (h : Handed) (c : Instr) (s : State), editCommand h = some c → nextHanded s = some h →
    s.exch.part = .running → s.clock.fallback = false →
    ∃ t, exec c s = .next (afterTurn [.table] s t) ∧ t.path.handed = s.path.handed.erase h ∧
      (s.table.window = .shut → (∀ u, h = .openFirst u → t.table = { s.table with window := .primed u }) ∧
        ((∀ u, h ≠ .openFirst u) → t.table = s.table)) ∧
      (∀ u, s.table.window = .primed u →
        (h = .openSecond u → t.table.window = .opened u ∧ t.table.lifetime = some s.latched.editLifetime ∧
          t.table.touched = []) ∧
        (h ≠ .openSecond u → t.table.window = .lockout ∧ t.table.lockout = some 60)) ∧
      (∀ u, s.table.window = .opened u → t.table.touched = [] ∧ t.table.lifetime = none ∧
        (h = .closeWindow → t.table.window = .shut) ∧
        (h ≠ .closeWindow → t.table.window = .lockout ∧ t.table.lockout = some 60)) ∧
      (s.table.window = .lockout → t.table = { s.table with lockout := some 60 })) ∧
  (∀ (h : Handed) (c : Instr) (s : State), editCommand h = some c → nextHanded s = some h →
    s.exch.part ≠ .running ∨ s.clock.fallback = true → exec c s = .next (afterTurn [.table] s (dropHanded h s))) ∧
  (∀ (u : TableId) (s : State), s.table.window = .opened u → s.table.lifetime = some 0 → busy .table s = false →
    ∃ t, exec .lifetimeTimer s = .next t ∧ t.table.window = .shut ∧ t.table.lifetime = none ∧
      t.table.touched = []) ∧
  (∀ s : State, s.table.window = .lockout → s.table.lockout = some 0 → busy .table s = false →
    ∃ t, exec .lockoutTimer s = .next t ∧ t.table =
      { s.table with window := .shut, lifetime := none, lockout := none }) ∧
  (∀ (e : Told) (s : State), e.owner = .table → busy .table s = true →
    (tellTable e s).table = s.table ∧ ∃ a ∈ (tellTable e s).path.arrived, a.event = .told e ∧ a.late = true) ∧
  (∀ (c : Instr) (e : Told) (s : State), busy .table s = true →
    (c = .lifetimeTimer ∧ e = .lifetime ∧ ∃ u, s.table.window = .opened u ∧ s.table.lifetime = some 0) ∨
      (c = .lockoutTimer ∧ e = .lockout ∧ s.table.window = .lockout ∧ s.table.lockout = some 0) →
    ∃ t, exec c s = .next t ∧ t.table = s.table ∧ ∃ x ∈ t.path.arrived, x.event = .told e) ∧
  (∀ s : State, busy .table s = false →
    (tellTable .fallback s).table.window = .shut ∧ (tellTable .windowHalted s).table.window = .shut ∧
    (∀ u, (tellTable .stopping s).table.window ≠ .primed u ∧ (tellTable .stopping s).table.window ≠ .opened u)) ∧
  (∀ (e : Told) (a : Arrival) (h : Held) (r : Request) (rest : List Request) (s : State),
    e = .fallback ∨ e = .windowHalted →
    s.path.arrived = [a] → a.event = .told e → a.late = true → s.path.held = [h] → s.path.queue = r :: rest →
    rest.length < Config.queuePlaces → s.path.host = none → s.path.waiting = [] →
    ∃ t, exec .memoryPortFree s = .next t ∧ t.table.window = .shut)

/-- COMMIT issues the readback of its whole entry; COMMIT_READBACK puts an accepted entry, present or absent, into its
copy and leaves the rest, leaves every copy for a rejected one, and composes one EDIT line in its reservation's place
(R146, R147, R148). -/
def Obligations.CommitIsReadBackAndApplied : Prop :=
  (∀ (u : TableId) (i : Nat) (v : Word) (s : State), nextHanded s = some (.commit u i v) → working s = true →
    ∃ t, exec .commit s = .next t ∧ t.table.commits = s.table.commits ++ [(u, i)] ∧
      issued (.read (.readback u i) (s.path.bases.table u + u.entrySize * i) u.readbackLines) t = true) ∧
  (∀ (u : TableId) (i : Nat) (bytes : List Byte) (s : State), quiet s →
    findReadback s = some (u, i, bytes) → copiesSorted s = true →
    ∃ t, exec .commitReadback s = .next t ∧ t.table.commits = s.table.commits.erase (u, i) ∧
      t.tally.lineNumber = s.tally.lineNumber + 1 ∧ t.tally.reservations = s.tally.reservations - 1 ∧
      (u ≠ .vehicles → t.table.vehicles = s.table.vehicles) ∧ (u ≠ .accounts → t.table.accounts = s.table.accounts) ∧
      (u ≠ .programmes → t.table.programmes = s.table.programmes) ∧
      (u ≠ .tariffs → t.table.tariffs = s.table.tariffs) ∧
      (∀ r, judgeCommit u i bytes s = .error r → t.table.vehicles = s.table.vehicles ∧
        t.table.accounts = s.table.accounts ∧ t.table.programmes = s.table.programmes ∧
        t.table.tariffs = s.table.tariffs ∧ t.gate.tagMap = s.gate.tagMap) ∧
      (∀ e, judgeCommit u i bytes s = .ok e →
        (u = .vehicles → lookup t.table.vehicles i = e.bind Entry.toVehicle ∧
          ∀ j, j ≠ i → lookup t.table.vehicles j = lookup s.table.vehicles j) ∧
        (u = .accounts → lookup t.table.accounts i = e.bind Entry.toAccount ∧
          ∀ j, j ≠ i → lookup t.table.accounts j = lookup s.table.accounts j) ∧
        (u = .programmes → lookup t.table.programmes i = e.bind Entry.toProgramme ∧
          ∀ j, j ≠ i → lookup t.table.programmes j = lookup s.table.programmes j) ∧
        (u = .tariffs → lookup t.table.tariffs i = e.bind Entry.toTariff ∧
          ∀ j, j ≠ i → lookup t.table.tariffs j = lookup s.table.tariffs j)))

/-! ### Accounts and pages (chapters 9 and 10) -/

/-- PAYMENT and CLOSE_PERIOD by their checks: what they refuse changes nothing; a payment lowers the balance it does not
exceed, a period closed takes an invoice number and clears the period; a full pending list refuses them, CUT_PAGE and
TURN_AWAY with TALLY_FULL (R157, R158, R168, R169). -/
def Obligations.PaymentsAndPeriods : Prop :=
  (∀ (entry : List Byte) (s : State), orderReady 9 entry s →
    (255 < arg16 4 entry ∨ arg32 entry < 1 ∨ 2147483647 < arg32 entry →
      ∃ t, exec .payment s = .next t ∧ answered .refusedRange s t ∧ sameUnits s t) ∧
    (∀ a : AccountId, a.val = arg16 4 entry → 1 ≤ arg32 entry → arg32 entry ≤ 2147483647 →
      (s.tally.accounts[a].balance < arg32 entry →
        ∃ t, exec .payment s = .next t ∧ answered .refusedRange s t ∧ sameUnits s t) ∧
      (arg32 entry ≤ s.tally.accounts[a].balance →
        ∃ t, exec .payment s = .next t ∧ answered .done s t ∧ t.tally.lineNumber = s.tally.lineNumber + 1 ∧
          t.tally.accounts = s.tally.accounts.set a { s.tally.accounts[a] with
            balance := s.tally.accounts[a].balance - arg32 entry
            payments := s.tally.accounts[a].payments + arg32 entry
            paymentCount := s.tally.accounts[a].paymentCount + 1
            creditStop := match lookup s.table.accounts a.val with
              | none => false
              | some e => decide (e.limit ≤ s.tally.accounts[a].balance - arg32 entry) }))) ∧
  (∀ (entry : List Byte) (s : State), orderReady 10 entry s →
    (255 < arg16 4 entry →
      ∃ t, exec .closePeriod s = .next t ∧ answered .refusedRange s t ∧ sameUnits s t) ∧
    (∀ a : AccountId, a.val = arg16 4 entry →
      ∃ t, exec .closePeriod s = .next t ∧ answered .done s t ∧ t.tally.lineNumber = s.tally.lineNumber + 1 ∧
        t.tally.invoice = s.tally.invoice + 1 ∧
        t.tally.accounts = s.tally.accounts.set a { s.tally.accounts[a] with
          charges := 0, payments := 0, visitCount := 0, paymentCount := 0, partialPeriod := false })) ∧
  (∀ (k : Nat) (c : Instr) (entry : List Byte) (s : State),
    (k, c) ∈ [(9, Instr.payment), (10, .closePeriod), (13, .cutPage)] → orderRead k entry s →
    16 ≤ pendingCount s → s.tally.pause = true → (k ≠ 13 → arg16 4 entry ≤ 255) →
    (k = 9 → 1 ≤ arg32 entry ∧ arg32 entry ≤ 2147483647) →
    ∃ t, exec c s = .next t ∧ answered .tallyFull s t ∧ sameUnits s t) ∧
  (∀ (entry : List Byte) (slot : Slot) (v : Visit) (s : State), orderRead 2 entry s → 16 ≤ pendingCount s →
    s.tally.pause = true → slot.val = arg16 4 entry → s.yard.slots[slot] = some v →
    v.serial.toNat = arg16 6 entry → v.state = .atGate →
    ∃ t, exec .turnAway s = .next t ∧ answered .tallyFull s t ∧ sameUnits s t)

/-- STOP_ACCOUNT sets HOST_STOP and RESUME_ACCOUNT clears it, with the balance record's refresh on a change and nothing
else touched, even on a full pending list; HOST_STOP holds an arriving truck ACCOUNT_STOPPED (R159). -/
def Obligations.StopAndResumeAccount : Prop :=
  (∀ (k : Nat) (c : Instr) (stop : Bool) (entry : List Byte) (s : State),
    (k, c, stop) ∈ [(11, Instr.stopAccount, true), (12, .resumeAccount, false)] → orderReady k entry s →
    (255 < arg16 4 entry → ∃ t, exec c s = .next t ∧ answered .refusedRange s t ∧ sameUnits s t) ∧
    (∀ a : AccountId, a.val = arg16 4 entry →
      ∃ t, exec c s = .next t ∧ answered .done s t ∧
        t.tally = { s.tally with
          accounts := s.tally.accounts.set a { s.tally.accounts[a] with hostStop := stop } } ∧
        t.yard = s.yard ∧ t.gate = s.gate ∧ t.bays = s.bays ∧ t.ports = s.ports ∧ t.water = s.water ∧
        t.table = s.table ∧ t.clock = s.clock ∧ t.mem = s.mem ∧
        (s.tally.accounts[a].hostStop ≠ stop → refreshAsked (.balance a) t = true))) ∧
  (∀ (k : Nat) (c : Instr) (stop : Bool) (a : AccountId) (entry : List Byte) (s : State),
    (k, c, stop) ∈ [(11, Instr.stopAccount, true), (12, .resumeAccount, false)] → orderRead k entry s →
    a.val = arg16 4 entry → 16 ≤ pendingCount s → s.tally.pause = true →
    ∃ t, exec c s = .next t ∧ answered .done s t ∧ t.tally = { s.tally with
        accounts := s.tally.accounts.set a { s.tally.accounts[a] with hostStop := stop } } ∧
      (s.tally.accounts[a].hostStop ≠ stop → refreshAsked (.balance a) t = true)) ∧
  (∀ (v : Visit) (a : AccountId) (s : State), v.account = some a → s.tally.accounts[a].hostStop = true →
    (∀ e, linkedEntry v s = some e → e.barred = false) → admission v s = some .accountStopped)

/-- POOL_POST moves the posted count forward by at most 32 from the pool position as it stands when the value is taken (the
model's choice, log 10); POOL_ENTRY_READ takes an aligned page inside the tally span
and passes over any other entry; CUT_PAGE closes a page with a line on it (R161, R162, R164, R169).
A line composed with a page and no pending line is placed on it: its items, its header, then the page's header with used
bytes, count and times raised, in this order; a page left without room for 80 bytes is closed, its closed header behind them
(R163, R164). POOL_ENTRY_READ that takes a page places the pending lines on it one after another from the head, behind the
page's own header, and leaves the list empty; a line that closes the page leaves the rest of the list as it is (R167). What
waited behind a POOL POST value not acted on has its turn (R14; log 10). -/
def Obligations.PagesAreTakenAndCut : Prop :=
  (∀ (v : Count) (s : State), nextHanded s = some (.poolPost v) → quiet s →
    (dist s.tally.poolPos v ≤ 32 → dist s.tally.poolPos s.tally.poolPosted ≤ dist s.tally.poolPos v →
      ∃ t, exec .poolPost s = .next t ∧ t.tally = { s.tally with
        poolPosted := v, poolRead := s.tally.poolRead || (s.tally.page.isNone && s.tally.poolPos != v) }) ∧
    (32 < dist s.tally.poolPos v ∨ dist s.tally.poolPos v < dist s.tally.poolPos s.tally.poolPosted →
      ∃ t, exec .poolPost s = .next t ∧ sameUnits s t ∧
        noticeGiven { kind := .poolPostInvalid, first := v.toNat, second := s.tally.poolPosted.toNat } s t)) ∧
  (∀ (v : Count) (s : State), nextHanded s = some (.poolPost v) → working s = false →
    exec .poolPost s = .next (afterTurn [.tally] s (dropHanded (.poolPost v) s))) ∧
  (∀ (tag : ReadTag) (line : List Byte) (s : State), findReturned isPool s = some (tag, line) → quiet s →
    s.tally.page = none → s.tally.lines = [] →
    let e := line.drop (poolEntryOff s)
    let addr := field 0 4 e
    let valid := addr % 4096 = 0 ∧ s.path.bases.tally ≤ addr ∧
      addr < s.path.bases.tally + 4096 * s.path.bases.tallyPages
    ∃ t, exec .poolEntryRead s = .next t ∧ t.tally.poolPos = s.tally.poolPos + 1 ∧
      (valid → t.tally.pageSeq = s.tally.pageSeq + 1 ∧ t.tally.poolRead = false ∧
        t.tally.page = some { addr := addr, seq := s.tally.pageSeq, used := 32, lines := 0,
                              hostRef := BitVec.ofNat 32 (field 4 4 e), firstTime := none, lastTime := none }) ∧
      (¬ valid → t.tally.page = none ∧ t.tally.pageSeq = s.tally.pageSeq ∧
        t.tally.poolRead = (s.tally.poolPos + 1 != s.tally.poolPosted))) ∧
  (∀ (tag : ReadTag) (line : List Byte) (s : State), findReturned isPool s = some (tag, line) →
    busy .tally s = false → working s = false →
    ∃ t, exec .poolEntryRead s = .next t ∧ t.tally = { s.tally with poolRead := false }) ∧
  (∀ (entry : List Byte) (s : State), orderReady 13 entry s →
    ((∀ p, s.tally.page = some p → p.lines = 0) →
      ∃ t, exec .cutPage s = .next t ∧ answered .refusedState s t ∧ sameUnits s t) ∧
    (∀ p, s.tally.page = some p → 0 < p.lines →
      ∃ t, exec .cutPage s = .next t ∧ answered .done s t ∧ t.tally = { s.tally with
          page := none, poolRead := s.tally.poolRead || s.tally.poolPos != s.tally.poolPosted } ∧
        issued (.place p.addr (p.header true)) t = true)) ∧
  (∀ (before : TallyUnit) (reserved : Bool) (header : Word → List Byte) (items : List Byte) (p : Page) (s : State),
    s.tally.page = some p → s.tally.lines = [] → (header before.lineNumber).length = 24 →
    let l : TallyLine := { header := header before.lineNumber, items := items, time := s.clock.now }
    let t := composeLine before reserved header items s
    t.tally.lineNumber = before.lineNumber + 1 ∧
    ((p.raised l).used + 80 ≤ 4096 → t.tally.page = some (p.raised l) ∧
      placements t = placements s ++ linePlacements p l) ∧
    (4096 < (p.raised l).used + 80 → t.tally.page = none ∧ ∃ more, placements t =
      placements s ++ linePlacements p l ++ [(p.addr, (p.raised l).header true)] ++ more)) ∧
  (∀ (tag : ReadTag) (line : List Byte) (s : State), findReturned isPool s = some (tag, line) →
    busy .tally s = false → s.exch.part = .running → s.tally.page = none → s.tally.closings = [] →
    s.tally.lines.length ≤ 16 → (∀ l ∈ s.tally.lines, l.header.length = 24 ∧ l.items.length ≤ 56) →
    let e := line.drop (poolEntryOff s)
    let addr := field 0 4 e
    let p : Page := { addr := addr, seq := s.tally.pageSeq, used := 32, lines := 0,
                      hostRef := BitVec.ofNat 32 (field 4 4 e), firstTime := none, lastTime := none }
    addr % 4096 = 0 → s.path.bases.tally ≤ addr → addr < s.path.bases.tally + 4096 * s.path.bases.tallyPages →
    ∃ t more, exec .poolEntryRead s = .next t ∧ t.tally.lines = [] ∧
      t.tally.page = some (s.tally.lines.foldl Page.raised p) ∧
      placements t = placements s ++ [(addr, p.header false)] ++ drainPlacements p s.tally.lines ++ more ∧
      (s.tally.pause = false → pendingCount s < 8 → more = [])) ∧
  (∀ (l : TallyLine) (ls : List TallyLine) (p : Page) (s : State), s.tally.page = some p → l.header.length = 24 →
    4096 < (p.raised l).used + 80 →
    (drainLines (l :: ls) s).tally.lines = ls ∧ (drainLines (l :: ls) s).tally.page = none)

/-- A visit line: at most six items, each of a quantity from 1 to 2,000 and an amount below 2^31, the total held at
2,147,483,647; a turned-away visit has none; the line is 24 bytes and 8 for each item (R154, R155).
The items by outcome, in their order: gate fee, programme, unwashed fee, axles above two, fresh and reclaim water in hundreds
of litres rounded up, detergent, each at the tariff's price and left out at quantity 0; an aborted programme at its
percentage, rounded down. The tariff is that of the account's class; a visit without an account has no items (R154). The
line total is the sum of the amounts, held at 2,147,483,647 (R155). -/
def Obligations.LineAmountsAreHeld : Prop :=
  (∀ (v : Visit) (f : Tariff), f.gateFee ≤ 1000000 → (∀ p ∈ f.prices, p ≤ 1000000) → f.axle ≤ 1000000 →
    f.fresh ≤ 1000000 → f.reclaim ≤ 1000000 → f.detergent ≤ 1000000 → f.unwashed ≤ 1000000 →
    f.abortPercent ≤ 100 →
    (visitItems v f).length ≤ 6 ∧ lineTotal (visitItems v f) ≤ 2147483647 ∧
    (∀ i ∈ visitItems v f, 1 ≤ i.quantity ∧ i.quantity ≤ 2000 ∧ i.amount < 2 ^ 31) ∧
    (v.outcome = some .turnedAway → visitItems v f = [])) ∧
  (∀ (v : Visit) (items : List Item) (now : Stamp) (n : Word),
    (visitHeader v items now n ++ itemsBytes items).length = 24 + 8 * items.length) ∧
  (∀ (kind : ItemKind) (q p : Nat), itemAt kind q p = if q = 0 then []
    else [{ kind := kind, clamped := decide (2000 < q), quantity := min q 2000, amount := min q 2000 * p }]) ∧
  (∀ (v : Visit) (f : Tariff),
    let of := fun (g : Summary → Nat) => match v.summary with | none => 0 | some m => g m
    let price := f.prices.getD (v.programme.getD 0) 0
    let gate := itemAt .gate 1 f.gateFee
    let axles := itemAt .axle (v.axles.getD 0 - 2) f.axle
    let used := itemAt .fresh ((of Summary.fresh + 99) / 100) f.fresh ++
      itemAt .reclaim ((of Summary.reclaim + 99) / 100) f.reclaim ++ itemAt .detergent (of Summary.detergent) f.detergent
    (v.outcome = some .complete → visitItems v f = gate ++ itemAt .programme 1 price ++ axles ++ used) ∧
    (v.outcome = some .aborted → visitItems v f =
      gate ++ itemAt .programme 1 (price * f.abortPercent / 100) ++ axles ++ used) ∧
    (v.outcome = some .unwashed ∨ v.outcome = some .released → visitItems v f =
      gate ++ itemAt .unwashed 1 f.unwashed ++ axles)) ∧
  (∀ (v : Visit) (s : State), (v.account = none → pricedItems v s = []) ∧
    ∀ (a : AccountId) (e : Account) (f : Tariff), v.account = some a → lookup s.table.accounts a.val = some e →
      lookup s.table.tariffs e.tariff = some f → pricedItems v s = visitItems v f) ∧
  (∀ items : List Item, lineTotal items = min ((items.map Item.amount).sum) 2147483647)

/-! ### The depot clock and the service monitor (chapter 11) -/

/-- DEPOT_SECOND_BOUNDARY with nothing overdue advances the clock by one second, past 86399 to the next day, and counts
every timer, the recent exits' times, a running stage's seconds and the tanks' ages; SET_CLOCK sets the clock and moves no
timer (R171, R172, R173, R174). A change of day is a rollover at either: fresh settled today is 0, so that fresh drawn today is
what the fresh grants in the table hold, the two daily notices are armed again, the wait list is retried, DAY_ROLLED gives its
reason and the two days, and the clock's line is refreshed (R134, R172, R174); shown at the commands with nobody waiting for
water. The command leaves the divider count at 0 (the model's choice, log 2), and what is due is
served before the boundary counts (log 3). -/
def Obligations.BoundariesAndSetClock : Prop :=
  (∀ s : State, s.clock.running = false → exec .depotSecondBoundary s = .next s) ∧
  (∀ s : State, quiet s → s.clock.running = true → overdue s = false → s.clock.now.second ≠ 86399 →
    ∃ t, exec .depotSecondBoundary s = .next t ∧ t.clock.divider = 0 ∧ t.clock.running = true ∧
      t.clock.now = { s.clock.now with second := s.clock.now.second + 1 } ∧
      t.clock.countdown = s.clock.countdown.map (fun n => n - 1) ∧
      (∀ p : PortId, t.ports[p] = { s.ports[p] with timer := s.ports[p].timer.map (fun n => n - 1) }) ∧
      t.gate.timer = s.gate.timer.map (fun n => n - 1) ∧
      t.gate.recent = s.gate.recent.map (fun e => { e with left := e.left - 1 }) ∧
      t.table.lifetime = s.table.lifetime.map (fun n => n - 1) ∧
      t.table.lockout = s.table.lockout.map (fun n => n - 1) ∧
      t.water.pumpTimer = s.water.pumpTimer.map (fun n => n - 1) ∧ t.yard.queue = s.yard.queue ∧
      (∀ slot : Slot, t.yard.slots[slot] =
        (s.yard.slots[slot]).map (fun v => { v with callTimer := v.callTimer.map (fun n => n - 1) })) ∧
      (∀ b : BayId, (s.bays[b].state ≠ .running → t.bays[b] = s.bays[b]) ∧
        (s.bays[b].state = .running → t.bays[b].timer = s.bays[b].timer.map (fun n => n - 1) ∧
          ∀ z r, s.bays[b].session = some z → z.stages[z.current]? = some r → t.bays[b].session =
            some { z with stages := z.stages.set z.current { r with elapsed := r.elapsed + 1 } })) ∧
      (∀ k : TankId, tankFitted k s = true →
        t.water.tanks[k].age = min (s.latched.turnover * 60) (s.water.tanks[k].age + 1)) ∧
      t.tally = s.tally ∧ t.mem = s.mem) ∧
  (∀ s : State, quiet s → s.clock.running = true → overdue s = false → s.clock.now.second = 86399 →
    ∃ t, exec .depotSecondBoundary s = .next t ∧ t.clock.now = { day := s.clock.now.day + 1, second := 0 } ∧
      refreshAsked (.line 2) t = true ∧
      (s.water.waitList = [] → t.water.settled = 0 ∧ t.water.reserveGiven = false ∧ t.water.exhaustedGiven = false ∧
        t.water.grants = s.water.grants ∧ freshDrawn t = (s.water.grants.toList.map grantFresh).sum ∧
        (s.path.queue.length ≤ 32 → noticeNth 0
          { kind := .dayRolled, reason := 1, first := s.clock.now.day.toNat,
            second := (s.clock.now.day + 1).toNat } t.clock.now s t))) ∧
  (∀ (reason : Nat) (old : BitVec 16) (s : State), rollover reason old s = postLine 2 (notify
    { kind := .dayRolled, reason := reason, first := old.toNat, second := s.clock.now.day.toNat }
    (retry (setWater { s.water with settled := 0, reserveGiven := false, exhaustedGiven := false } s)))) ∧
  (∀ (entry : List Byte) (s : State), orderReady 14 entry s →
    (86399 < arg32 entry → ∃ t, exec .setClock s = .next t ∧ answered .refusedRange s t ∧ sameUnits s t) ∧
    (arg32 entry ≤ 86399 → ∃ t, exec .setClock s = .next t ∧ answered .done s t ∧
      t.clock = { s.clock with now := { day := BitVec.ofNat 16 (arg16 4 entry), second := arg32 entry } } ∧
      (BitVec.ofNat 16 (arg16 4 entry) = s.clock.now.day → t.ports = s.ports ∧ t.gate = s.gate ∧
        t.yard = s.yard ∧ t.bays = s.bays ∧ t.water = s.water ∧ t.table = s.table ∧ t.tally = s.tally) ∧
      (BitVec.ofNat 16 (arg16 4 entry) ≠ s.clock.now.day → refreshAsked (.line 2) t = true ∧
        (s.water.waitList = [] →
          t.water = { s.water with settled := 0, reserveGiven := false, exhaustedGiven := false } ∧
          freshDrawn t = (s.water.grants.toList.map grantFresh).sum ∧
          (s.path.queue.length ≤ 32 → noticeNth 0
            { kind := .dayRolled, reason := 2, first := s.clock.now.day.toNat,
              second := (BitVec.ofNat 16 (arg16 4 entry) : BitVec 16).toNat } t.clock.now s t)))))

/-- The monitor by its state and the value handed in RUNNING, and in STOPPING with a visit left, and its countdown run out:
arming loads 2^(code + 1) - 1 seconds, a reload too (one less when it meets the boundary that brought the countdown to 0,
the model's choice, log 3), and a first key that meets that boundary in ARMED cannot save the monitor, which lapses (in the
key's own row, the model's choice, log 3); a lapse stops the countdown, asserts the fault line and under FALLBACK sets the
flag; with NOTICE_ONLY the depot runs on as before, and under FALLBACK the window shuts and no bay calls or waits (R176, R177). -/
def Obligations.MonitorByItsTable : Prop :=
  (∀ (h : Handed) (c : Instr) (s : State), serviceCommand h = some c → nextHanded s = some h →
    s.exch.part = .running ∨ (s.exch.part = .stopping ∧ calm s ∧ 0 < openVisits s) →
    ∃ t, exec c s = .next t ∧
      (s.clock.monitor = .idle → t.clock.monitor = if h = .serviceFirst then .primed else .idle) ∧
      (s.clock.monitor = .primed →
        (h = .serviceSecond → t.clock.monitor = .armed ∧
          t.clock.countdown = some (2 ^ (s.latched.periodCode + 1) - 1) ∧
          t.clock.latchedPeriod = some s.latched.periodCode ∧ t.clock.latchedAction = some s.latched.action) ∧
        (h ≠ .serviceSecond → t.clock.monitor = .idle)) ∧
      (s.clock.monitor = .armed → h = .serviceFirst → s.clock.countdown ≠ some 0 →
        t.clock = { s.clock with monitor := .armedPrimed }) ∧
      (s.clock.monitor = .armed → h = .serviceFirst → s.clock.countdown = some 0 →
        t.clock = { s.clock with monitor := .lapsed, countdown := none, faultLine := true, fallback :=
          s.clock.fallback || s.clock.latchedAction == some .fallback }) ∧
      (∀ code, s.clock.monitor = .armedPrimed → h = .serviceSecond → s.clock.latchedPeriod = some code →
        t.clock.monitor = .armed ∧ t.clock.countdown =
          some (if s.clock.countdown = some 0 then 2 ^ (code + 1) - 2 else 2 ^ (code + 1) - 1)) ∧
      (s.clock.monitor = .armed ∧ h ≠ .serviceFirst ∨ s.clock.monitor = .armedPrimed ∧ h ≠ .serviceSecond →
        t.clock = { s.clock with monitor := .lapsed, countdown := none, faultLine := true, fallback :=
          s.clock.fallback || s.clock.latchedAction == some .fallback }) ∧
      (s.clock.monitor = .lapsed → t.clock = s.clock)) ∧
  (∀ (h : Handed) (c : Instr) (s : State), serviceCommand h = some c → nextHanded s = some h →
    working s = false → exec c s = .next (dropHanded h s)) ∧
  (∀ s : State, calm s → s.clock.fallback = false →
    s.exch.part = .running ∨ (s.exch.part = .stopping ∧ 0 < openVisits s) → monitorDue s = true →
    ∃ t, exec .monitorCountdown s = .next t ∧
      t.clock = { s.clock with monitor := .lapsed, countdown := none, faultLine := true,
                               fallback := s.clock.latchedAction == some .fallback } ∧
      (s.clock.latchedAction ≠ some .fallback → t.ports = s.ports ∧ t.gate = s.gate ∧ t.yard = s.yard ∧
        t.bays = s.bays ∧ t.water = s.water ∧ t.table = s.table ∧ t.tally = s.tally) ∧
      (s.clock.latchedAction = some .fallback →
        (∀ b : BayId, s.bays[b].state = .calling → (boundVisit b s).isSome) →
        (∀ b : BayId, s.bays[b].state = .waitingWater → (s.bays[b].session).isSome) →
        t.table.window = .shut ∧ ∀ b : BayId, t.bays[b].state ≠ .calling ∧ t.bays[b].state ≠ .waitingWater)) ∧
  (∀ s : State, monitorDue s = false → exec .monitorCountdown s = .next s)

/-! ### What commands leave alone -/

/-- Memory changes only when the memory port is free and at the reset input; parameters, bases, the map, the internal
copies, the load counts, the vehicle index, the drop fields, the ports to host and memory, the calibration and the clock change only at
the commands named. That memory changes when the memory port is next free is log 6, and that the transaction at the
processor port and those that wait change only at the host's transactions, MEMORY_PORT_FREE and the reset input is log 7,
the model's readings. -/
def Obligations.StateChangesOnlyByItsCommands : Prop :=
  ∀ (c : Instr) (s t : State), exec c s = .next t →
    (c ≠ .memoryPortFree → c ≠ .resetInput → ∀ a, Memory.read t.mem a = Memory.read s.mem a) ∧
    (c ≠ .hostHalfRead → c ≠ .resetInput → t.latched = s.latched ∧ t.path.bases = s.path.bases) ∧
    (c ≠ .startValue → c ≠ .hostHalfRead → c ≠ .resetInput → t.path.map = s.path.map) ∧
    (c ≠ .tableRead → c ≠ .commitReadback → c ≠ .hostHalfRead → c ≠ .resetInput →
      t.table.vehicles = s.table.vehicles ∧ t.table.accounts = s.table.accounts ∧
      t.table.programmes = s.table.programmes ∧ t.table.tariffs = s.table.tariffs) ∧
    (c ≠ .tableRead → c ≠ .hostHalfRead → c ≠ .resetInput →
      t.table.counting = s.table.counting ∧ t.table.loadCounts = s.table.loadCounts) ∧
    (c ≠ .commitReadback → c ≠ .balanceRead → c ≠ .startValue → c ≠ .hostHalfRead → c ≠ .resetInput →
      t.gate.tagMap = s.gate.tagMap ∧ t.gate.plateMap = s.gate.plateMap) ∧
    ((∀ span addr, c ≠ .hostRead span addr) → (∀ span addr bytes, c ≠ .hostWrite span addr bytes) →
      c ≠ .memoryPortFree → c ≠ .resetInput →
      t.path.dropped = s.path.dropped ∧ t.path.dropAddr = s.path.dropAddr ∧ t.path.dropClass = s.path.dropClass ∧
      t.path.host = s.path.host ∧ t.path.waiting = s.path.waiting ∧ t.path.port = s.path.port ∧
      t.path.readData = s.path.readData ∧ t.path.hostRun = s.path.hostRun) ∧
    (c ≠ .calibrate → c ≠ .hostHalfRead → c ≠ .resetInput → t.water.calibrated = s.water.calibrated ∧
      t.water.calDay = s.water.calDay ∧ t.water.calTemp = s.water.calTemp) ∧
    (c ≠ .depotSecondBoundary → c ≠ .setClock → c ≠ .hostHalfRead → c ≠ .resetInput →
      t.clock.now = s.clock.now ∧ t.clock.divider = s.clock.divider)

/-- The frame, timer and link rows on ports, gates, bays and pump leave memory, the Path Unit's part of them, the ring
positions of the host, the parameters, the index, the calibration, the copies and the window, the invoice counter, the
posted pool count and the clock as they are, unless the part has entered HALTED. -/
def Obligations.PortAndTimerRowsKeepTheRest : Prop :=
  ∀ (p : PortId) (f : Frame) (g : Gate) (b : BayId) (k : TankId) (slot : Slot) (c : Instr) (s t : State),
    c ∈ [Instr.badFrame p f, .goodFrameArrival p f, .status p f, .linkFree p, .linkTimer p, .sightTag g,
      .sightPlate g, .pairingTimer, .recentExitExpiry, .callTimer slot, .presence b, .bayTag b, .meter b,
      .stageTimer b, .level, .pumpDone, .pumpTimer, .circulationDue k, .tankStale k] →
    exec c s = .next t → kept t = kept s ∨ t.exch.part = .halted

/-! ### What every step keeps -/

/-- Memory keeps its canonical form, the internal request queue its 64 places, the host run count its range, and each
internal copy its entries in rising order, one for an index (R14, R18, R138; log 4). -/
def Obligations.MemoryQueueAndCopiesStayLawful : Prop :=
  ∀ s t : State, step s = .next t →
    (memoryCanonical s = true → memoryCanonical t = true) ∧ (queueBounded s = true → queueBounded t = true) ∧
    (hostRunBounded s = true → hostRunBounded t = true) ∧ (copiesSorted s = true → copiesSorted t = true)

/-- The fallback flag and the fault line go with LAPSED, the monitor is IDLE outside RUNNING and STOPPING but for LAPSED in
HALTED, and LAPSED is left only at the reset input, with the fault line and the flag (R25, R176, R177). -/
def Obligations.LapseStaysLawful : Prop :=
  (∀ s t : State, lapseLawful s = true → step s = .next t → lapseLawful t = true) ∧
  (∀ (c : Instr) (s t : State), lapseLawful s = true → c ≠ .resetInput → s.clock.monitor = .lapsed →
    exec c s = .next t → t.clock.monitor = .lapsed ∧ t.clock.faultLine = true ∧
      t.clock.fallback = s.clock.fallback)

/-- Fresh drawn today never exceeds FRESH_ALLOWANCE plus FRESH_RESERVE (R121). -/
def Obligations.FreshStaysWithinTheAllowance : Prop :=
  ∀ s t : State, freshBounded s = true → step s = .next t → freshBounded t = true

/-- Inbound queues keep to 32 frames, outbound queues to 16, the touched list to 32 entries (R46, R49, R144). -/
def Obligations.QueuesStayBounded : Prop :=
  ∀ s t : State, step s = .next t → (portsBounded s = true → portsBounded t = true) ∧
    (touchedBounded s = true → touchedBounded t = true)

/-- The attention line shows that the counts differ while the ring's location is accepted, and is low in DORMANT and in
LOADING before acceptance (R35). -/
def Obligations.AttentionStaysLawful : Prop :=
  ∀ s t : State, attentionLawful s = true → step s = .next t → attentionLawful t = true

/-- The state after reset has every property the steps keep. -/
def Obligations.ResetStateIsLawful : Prop :=
  memoryCanonical State.reset = true ∧ queueBounded State.reset = true ∧ hostRunBounded State.reset = true ∧
    lapseLawful State.reset = true ∧ freshBounded State.reset = true ∧ portsBounded State.reset = true ∧
    touchedBounded State.reset = true ∧ attentionLawful State.reset = true ∧ copiesSorted State.reset = true
end

