-- ==== Sys2Proof/Laws/State.lean ====
section
/-! SUPPORT. What each elementary update does to each field of State: true by rfl, so that no later proof unfolds a record
update. -/

namespace Sys2Proof.Machine

@[simp] theorem putVisit_mem (k : Slot) (v : Option Visit) (s : State) : (putVisit k v s).mem = s.mem := rfl
@[simp] theorem putVisit_path (k : Slot) (v : Option Visit) (s : State) : (putVisit k v s).path = s.path := rfl
@[simp] theorem putVisit_exch (k : Slot) (v : Option Visit) (s : State) : (putVisit k v s).exch = s.exch := rfl
@[simp] theorem putVisit_latched (k : Slot) (v : Option Visit) (s : State) : (putVisit k v s).latched = s.latched := rfl
@[simp] theorem putVisit_ports (k : Slot) (v : Option Visit) (s : State) : (putVisit k v s).ports = s.ports := rfl
@[simp] theorem putVisit_gate (k : Slot) (v : Option Visit) (s : State) : (putVisit k v s).gate = s.gate := rfl
@[simp] theorem putVisit_yard (k : Slot) (v : Option Visit) (s : State) : (putVisit k v s).yard = { s.yard with slots := s.yard.slots.set k v } := rfl
@[simp] theorem putVisit_bays (k : Slot) (v : Option Visit) (s : State) : (putVisit k v s).bays = s.bays := rfl
@[simp] theorem putVisit_water (k : Slot) (v : Option Visit) (s : State) : (putVisit k v s).water = s.water := rfl
@[simp] theorem putVisit_table (k : Slot) (v : Option Visit) (s : State) : (putVisit k v s).table = s.table := rfl
@[simp] theorem putVisit_tally (k : Slot) (v : Option Visit) (s : State) : (putVisit k v s).tally = s.tally := rfl
@[simp] theorem putVisit_clock (k : Slot) (v : Option Visit) (s : State) : (putVisit k v s).clock = s.clock := rfl
@[simp] theorem putVisit_free (k : Slot) (v : Option Visit) (s : State) : (putVisit k v s).free = s.free := rfl
@[simp] theorem putVisit_pending (k : Slot) (v : Option Visit) (s : State) : (putVisit k v s).pending = s.pending := rfl

@[simp] theorem putAccount_mem (a : AccountId) (x : AccountState) (s : State) : (putAccount a x s).mem = s.mem := rfl
@[simp] theorem putAccount_path (a : AccountId) (x : AccountState) (s : State) : (putAccount a x s).path = s.path := rfl
@[simp] theorem putAccount_exch (a : AccountId) (x : AccountState) (s : State) : (putAccount a x s).exch = s.exch := rfl
@[simp] theorem putAccount_latched (a : AccountId) (x : AccountState) (s : State) : (putAccount a x s).latched = s.latched := rfl
@[simp] theorem putAccount_ports (a : AccountId) (x : AccountState) (s : State) : (putAccount a x s).ports = s.ports := rfl
@[simp] theorem putAccount_gate (a : AccountId) (x : AccountState) (s : State) : (putAccount a x s).gate = s.gate := rfl
@[simp] theorem putAccount_yard (a : AccountId) (x : AccountState) (s : State) : (putAccount a x s).yard = s.yard := rfl
@[simp] theorem putAccount_bays (a : AccountId) (x : AccountState) (s : State) : (putAccount a x s).bays = s.bays := rfl
@[simp] theorem putAccount_water (a : AccountId) (x : AccountState) (s : State) : (putAccount a x s).water = s.water := rfl
@[simp] theorem putAccount_table (a : AccountId) (x : AccountState) (s : State) : (putAccount a x s).table = s.table := rfl
@[simp] theorem putAccount_tally (a : AccountId) (x : AccountState) (s : State) : (putAccount a x s).tally = { s.tally with accounts := s.tally.accounts.set a x } := rfl
@[simp] theorem putAccount_clock (a : AccountId) (x : AccountState) (s : State) : (putAccount a x s).clock = s.clock := rfl
@[simp] theorem putAccount_free (a : AccountId) (x : AccountState) (s : State) : (putAccount a x s).free = s.free := rfl
@[simp] theorem putAccount_pending (a : AccountId) (x : AccountState) (s : State) : (putAccount a x s).pending = s.pending := rfl

@[simp] theorem putGate_mem (g : GateUnit) (s : State) : (putGate g s).mem = s.mem := rfl
@[simp] theorem putGate_path (g : GateUnit) (s : State) : (putGate g s).path = s.path := rfl
@[simp] theorem putGate_exch (g : GateUnit) (s : State) : (putGate g s).exch = s.exch := rfl
@[simp] theorem putGate_latched (g : GateUnit) (s : State) : (putGate g s).latched = s.latched := rfl
@[simp] theorem putGate_ports (g : GateUnit) (s : State) : (putGate g s).ports = s.ports := rfl
@[simp] theorem putGate_gate (g : GateUnit) (s : State) : (putGate g s).gate = g := rfl
@[simp] theorem putGate_yard (g : GateUnit) (s : State) : (putGate g s).yard = s.yard := rfl
@[simp] theorem putGate_bays (g : GateUnit) (s : State) : (putGate g s).bays = s.bays := rfl
@[simp] theorem putGate_water (g : GateUnit) (s : State) : (putGate g s).water = s.water := rfl
@[simp] theorem putGate_table (g : GateUnit) (s : State) : (putGate g s).table = s.table := rfl
@[simp] theorem putGate_tally (g : GateUnit) (s : State) : (putGate g s).tally = s.tally := rfl
@[simp] theorem putGate_clock (g : GateUnit) (s : State) : (putGate g s).clock = s.clock := rfl
@[simp] theorem putGate_free (g : GateUnit) (s : State) : (putGate g s).free = s.free := rfl
@[simp] theorem putGate_pending (g : GateUnit) (s : State) : (putGate g s).pending = s.pending := rfl

@[simp] theorem putClock_mem (c : ClockUnit) (s : State) : (putClock c s).mem = s.mem := rfl
@[simp] theorem putClock_path (c : ClockUnit) (s : State) : (putClock c s).path = s.path := rfl
@[simp] theorem putClock_exch (c : ClockUnit) (s : State) : (putClock c s).exch = s.exch := rfl
@[simp] theorem putClock_latched (c : ClockUnit) (s : State) : (putClock c s).latched = s.latched := rfl
@[simp] theorem putClock_ports (c : ClockUnit) (s : State) : (putClock c s).ports = s.ports := rfl
@[simp] theorem putClock_gate (c : ClockUnit) (s : State) : (putClock c s).gate = s.gate := rfl
@[simp] theorem putClock_yard (c : ClockUnit) (s : State) : (putClock c s).yard = s.yard := rfl
@[simp] theorem putClock_bays (c : ClockUnit) (s : State) : (putClock c s).bays = s.bays := rfl
@[simp] theorem putClock_water (c : ClockUnit) (s : State) : (putClock c s).water = s.water := rfl
@[simp] theorem putClock_table (c : ClockUnit) (s : State) : (putClock c s).table = s.table := rfl
@[simp] theorem putClock_tally (c : ClockUnit) (s : State) : (putClock c s).tally = s.tally := rfl
@[simp] theorem putClock_clock (c : ClockUnit) (s : State) : (putClock c s).clock = c := rfl
@[simp] theorem putClock_free (c : ClockUnit) (s : State) : (putClock c s).free = s.free := rfl
@[simp] theorem putClock_pending (c : ClockUnit) (s : State) : (putClock c s).pending = s.pending := rfl

@[simp] theorem drawn_mem (s : State) : (drawn s).mem = s.mem := rfl
@[simp] theorem drawn_path (s : State) : (drawn s).path = s.path := rfl
@[simp] theorem drawn_exch (s : State) : (drawn s).exch = s.exch := rfl
@[simp] theorem drawn_latched (s : State) : (drawn s).latched = s.latched := rfl
@[simp] theorem drawn_ports (s : State) : (drawn s).ports = s.ports := rfl
@[simp] theorem drawn_gate (s : State) : (drawn s).gate = s.gate := rfl
@[simp] theorem drawn_yard (s : State) : (drawn s).yard = s.yard := rfl
@[simp] theorem drawn_bays (s : State) : (drawn s).bays = s.bays := rfl
@[simp] theorem drawn_water (s : State) : (drawn s).water = s.water := rfl
@[simp] theorem drawn_table (s : State) : (drawn s).table = s.table := rfl
@[simp] theorem drawn_tally (s : State) : (drawn s).tally = s.tally := rfl
@[simp] theorem drawn_clock (s : State) : (drawn s).clock = s.clock := rfl
@[simp] theorem drawn_free (s : State) : (drawn s).free = s.free + 1 := rfl
@[simp] theorem drawn_pending (s : State) : (drawn s).pending = s.pending := rfl

@[simp] theorem dropHanded_mem (h : Handed) (s : State) : (dropHanded h s).mem = s.mem := rfl
@[simp] theorem dropHanded_path (h : Handed) (s : State) : (dropHanded h s).path = { s.path with arrived := s.path.arrived.eraseP (fun a => a.event == .value h) } := rfl
@[simp] theorem dropHanded_exch (h : Handed) (s : State) : (dropHanded h s).exch = s.exch := rfl
@[simp] theorem dropHanded_latched (h : Handed) (s : State) : (dropHanded h s).latched = s.latched := rfl
@[simp] theorem dropHanded_ports (h : Handed) (s : State) : (dropHanded h s).ports = s.ports := rfl
@[simp] theorem dropHanded_gate (h : Handed) (s : State) : (dropHanded h s).gate = s.gate := rfl
@[simp] theorem dropHanded_yard (h : Handed) (s : State) : (dropHanded h s).yard = s.yard := rfl
@[simp] theorem dropHanded_bays (h : Handed) (s : State) : (dropHanded h s).bays = s.bays := rfl
@[simp] theorem dropHanded_water (h : Handed) (s : State) : (dropHanded h s).water = s.water := rfl
@[simp] theorem dropHanded_table (h : Handed) (s : State) : (dropHanded h s).table = s.table := rfl
@[simp] theorem dropHanded_tally (h : Handed) (s : State) : (dropHanded h s).tally = s.tally := rfl
@[simp] theorem dropHanded_clock (h : Handed) (s : State) : (dropHanded h s).clock = s.clock := rfl
@[simp] theorem dropHanded_free (h : Handed) (s : State) : (dropHanded h s).free = s.free := rfl
@[simp] theorem dropHanded_pending (h : Handed) (s : State) : (dropHanded h s).pending = s.pending := rfl

@[simp] theorem dropReturned_mem (r : ReadTag × List Byte) (s : State) : (dropReturned r s).mem = s.mem := rfl
@[simp] theorem dropReturned_path (r : ReadTag × List Byte) (s : State) : (dropReturned r s).path = { s.path with arrived := s.path.arrived.eraseP (fun a => a.event == .read r.1 r.2) } := rfl
@[simp] theorem dropReturned_exch (r : ReadTag × List Byte) (s : State) : (dropReturned r s).exch = s.exch := rfl
@[simp] theorem dropReturned_latched (r : ReadTag × List Byte) (s : State) : (dropReturned r s).latched = s.latched := rfl
@[simp] theorem dropReturned_ports (r : ReadTag × List Byte) (s : State) : (dropReturned r s).ports = s.ports := rfl
@[simp] theorem dropReturned_gate (r : ReadTag × List Byte) (s : State) : (dropReturned r s).gate = s.gate := rfl
@[simp] theorem dropReturned_yard (r : ReadTag × List Byte) (s : State) : (dropReturned r s).yard = s.yard := rfl
@[simp] theorem dropReturned_bays (r : ReadTag × List Byte) (s : State) : (dropReturned r s).bays = s.bays := rfl
@[simp] theorem dropReturned_water (r : ReadTag × List Byte) (s : State) : (dropReturned r s).water = s.water := rfl
@[simp] theorem dropReturned_table (r : ReadTag × List Byte) (s : State) : (dropReturned r s).table = s.table := rfl
@[simp] theorem dropReturned_tally (r : ReadTag × List Byte) (s : State) : (dropReturned r s).tally = s.tally := rfl
@[simp] theorem dropReturned_clock (r : ReadTag × List Byte) (s : State) : (dropReturned r s).clock = s.clock := rfl
@[simp] theorem dropReturned_free (r : ReadTag × List Byte) (s : State) : (dropReturned r s).free = s.free := rfl
@[simp] theorem dropReturned_pending (r : ReadTag × List Byte) (s : State) : (dropReturned r s).pending = s.pending := rfl

@[simp] theorem reach_mem (e : Event) (s : State) : (reach e s).mem = s.mem := rfl
@[simp] theorem reach_exch (e : Event) (s : State) : (reach e s).exch = s.exch := rfl
@[simp] theorem reach_latched (e : Event) (s : State) : (reach e s).latched = s.latched := rfl
@[simp] theorem reach_ports (e : Event) (s : State) : (reach e s).ports = s.ports := rfl
@[simp] theorem reach_gate (e : Event) (s : State) : (reach e s).gate = s.gate := rfl
@[simp] theorem reach_yard (e : Event) (s : State) : (reach e s).yard = s.yard := rfl
@[simp] theorem reach_bays (e : Event) (s : State) : (reach e s).bays = s.bays := rfl
@[simp] theorem reach_water (e : Event) (s : State) : (reach e s).water = s.water := rfl
@[simp] theorem reach_table (e : Event) (s : State) : (reach e s).table = s.table := rfl
@[simp] theorem reach_tally (e : Event) (s : State) : (reach e s).tally = s.tally := rfl
@[simp] theorem reach_clock (e : Event) (s : State) : (reach e s).clock = s.clock := rfl
@[simp] theorem reach_free (e : Event) (s : State) : (reach e s).free = s.free := rfl
@[simp] theorem reach_pending (e : Event) (s : State) : (reach e s).pending = s.pending := rfl

@[simp] theorem dropArrival_mem (e : Event) (s : State) : (dropArrival e s).mem = s.mem := rfl
@[simp] theorem dropArrival_exch (e : Event) (s : State) : (dropArrival e s).exch = s.exch := rfl
@[simp] theorem dropArrival_latched (e : Event) (s : State) : (dropArrival e s).latched = s.latched := rfl
@[simp] theorem dropArrival_ports (e : Event) (s : State) : (dropArrival e s).ports = s.ports := rfl
@[simp] theorem dropArrival_gate (e : Event) (s : State) : (dropArrival e s).gate = s.gate := rfl
@[simp] theorem dropArrival_yard (e : Event) (s : State) : (dropArrival e s).yard = s.yard := rfl
@[simp] theorem dropArrival_bays (e : Event) (s : State) : (dropArrival e s).bays = s.bays := rfl
@[simp] theorem dropArrival_water (e : Event) (s : State) : (dropArrival e s).water = s.water := rfl
@[simp] theorem dropArrival_table (e : Event) (s : State) : (dropArrival e s).table = s.table := rfl
@[simp] theorem dropArrival_tally (e : Event) (s : State) : (dropArrival e s).tally = s.tally := rfl
@[simp] theorem dropArrival_clock (e : Event) (s : State) : (dropArrival e s).clock = s.clock := rfl
@[simp] theorem dropArrival_free (e : Event) (s : State) : (dropArrival e s).free = s.free := rfl
@[simp] theorem dropArrival_pending (e : Event) (s : State) : (dropArrival e s).pending = s.pending := rfl
@[simp] theorem dropArrival_path (e : Event) (s : State) : (dropArrival e s).path = { s.path with arrived := s.path.arrived.eraseP (fun a => a.event == e) } := rfl

@[simp] theorem makeWay_mem (u : UnitId) (r : Rec) (s : State) : (makeWay u r s).mem = s.mem := rfl
@[simp] theorem makeWay_exch (u : UnitId) (r : Rec) (s : State) : (makeWay u r s).exch = s.exch := rfl
@[simp] theorem makeWay_latched (u : UnitId) (r : Rec) (s : State) : (makeWay u r s).latched = s.latched := rfl
@[simp] theorem makeWay_ports (u : UnitId) (r : Rec) (s : State) : (makeWay u r s).ports = s.ports := rfl
@[simp] theorem makeWay_gate (u : UnitId) (r : Rec) (s : State) : (makeWay u r s).gate = s.gate := rfl
@[simp] theorem makeWay_yard (u : UnitId) (r : Rec) (s : State) : (makeWay u r s).yard = s.yard := rfl
@[simp] theorem makeWay_bays (u : UnitId) (r : Rec) (s : State) : (makeWay u r s).bays = s.bays := rfl
@[simp] theorem makeWay_water (u : UnitId) (r : Rec) (s : State) : (makeWay u r s).water = s.water := rfl
@[simp] theorem makeWay_table (u : UnitId) (r : Rec) (s : State) : (makeWay u r s).table = s.table := rfl
@[simp] theorem makeWay_tally (u : UnitId) (r : Rec) (s : State) : (makeWay u r s).tally = s.tally := rfl
@[simp] theorem makeWay_clock (u : UnitId) (r : Rec) (s : State) : (makeWay u r s).clock = s.clock := rfl
@[simp] theorem makeWay_free (u : UnitId) (r : Rec) (s : State) : (makeWay u r s).free = s.free := rfl
@[simp] theorem makeWay_pending (u : UnitId) (r : Rec) (s : State) : (makeWay u r s).pending = s.pending := rfl
@[simp] theorem makeWay_path (u : UnitId) (r : Rec) (s : State) : (makeWay u r s).path = { s.path with held := giveWay u r s.path.held } := rfl

@[simp] theorem driveAttention_mem (s : State) : (driveAttention s).mem = s.mem := rfl
@[simp] theorem driveAttention_path (s : State) : (driveAttention s).path = s.path := rfl
@[simp] theorem driveAttention_exch (s : State) : (driveAttention s).exch = { s.exch with attention := attentionLevel s } := rfl
@[simp] theorem driveAttention_latched (s : State) : (driveAttention s).latched = s.latched := rfl
@[simp] theorem driveAttention_ports (s : State) : (driveAttention s).ports = s.ports := rfl
@[simp] theorem driveAttention_gate (s : State) : (driveAttention s).gate = s.gate := rfl
@[simp] theorem driveAttention_yard (s : State) : (driveAttention s).yard = s.yard := rfl
@[simp] theorem driveAttention_bays (s : State) : (driveAttention s).bays = s.bays := rfl
@[simp] theorem driveAttention_water (s : State) : (driveAttention s).water = s.water := rfl
@[simp] theorem driveAttention_table (s : State) : (driveAttention s).table = s.table := rfl
@[simp] theorem driveAttention_tally (s : State) : (driveAttention s).tally = s.tally := rfl
@[simp] theorem driveAttention_clock (s : State) : (driveAttention s).clock = s.clock := rfl
@[simp] theorem driveAttention_free (s : State) : (driveAttention s).free = s.free := rfl
@[simp] theorem driveAttention_pending (s : State) : (driveAttention s).pending = s.pending := rfl

@[simp] theorem leaveQueue_mem (k : Slot) (s : State) : (leaveQueue k s).mem = s.mem := rfl
@[simp] theorem leaveQueue_path (k : Slot) (s : State) : (leaveQueue k s).path = s.path := rfl
@[simp] theorem leaveQueue_exch (k : Slot) (s : State) : (leaveQueue k s).exch = s.exch := rfl
@[simp] theorem leaveQueue_latched (k : Slot) (s : State) : (leaveQueue k s).latched = s.latched := rfl
@[simp] theorem leaveQueue_ports (k : Slot) (s : State) : (leaveQueue k s).ports = s.ports := rfl
@[simp] theorem leaveQueue_gate (k : Slot) (s : State) : (leaveQueue k s).gate = s.gate := rfl
@[simp] theorem leaveQueue_yard (k : Slot) (s : State) : (leaveQueue k s).yard = { s.yard with queue := s.yard.queue.erase k } := rfl
@[simp] theorem leaveQueue_bays (k : Slot) (s : State) : (leaveQueue k s).bays = s.bays := rfl
@[simp] theorem leaveQueue_water (k : Slot) (s : State) : (leaveQueue k s).water = s.water := rfl
@[simp] theorem leaveQueue_table (k : Slot) (s : State) : (leaveQueue k s).table = s.table := rfl
@[simp] theorem leaveQueue_tally (k : Slot) (s : State) : (leaveQueue k s).tally = s.tally := rfl
@[simp] theorem leaveQueue_clock (k : Slot) (s : State) : (leaveQueue k s).clock = s.clock := rfl
@[simp] theorem leaveQueue_free (k : Slot) (s : State) : (leaveQueue k s).free = s.free := rfl
@[simp] theorem leaveQueue_pending (k : Slot) (s : State) : (leaveQueue k s).pending = s.pending := rfl

@[simp] theorem enqueue_mem (k : Slot) (v : Visit) (s : State) : (enqueue k v s).mem = s.mem := rfl
@[simp] theorem enqueue_path (k : Slot) (v : Visit) (s : State) : (enqueue k v s).path = s.path := rfl
@[simp] theorem enqueue_exch (k : Slot) (v : Visit) (s : State) : (enqueue k v s).exch = s.exch := rfl
@[simp] theorem enqueue_latched (k : Slot) (v : Visit) (s : State) : (enqueue k v s).latched = s.latched := rfl
@[simp] theorem enqueue_ports (k : Slot) (v : Visit) (s : State) : (enqueue k v s).ports = s.ports := rfl
@[simp] theorem enqueue_gate (k : Slot) (v : Visit) (s : State) : (enqueue k v s).gate = s.gate := rfl
@[simp] theorem enqueue_yard (k : Slot) (v : Visit) (s : State) : (enqueue k v s).yard = { s.yard with queue := enqueueAt s.yard.slots k v s.yard.queue } := rfl
@[simp] theorem enqueue_bays (k : Slot) (v : Visit) (s : State) : (enqueue k v s).bays = s.bays := rfl
@[simp] theorem enqueue_water (k : Slot) (v : Visit) (s : State) : (enqueue k v s).water = s.water := rfl
@[simp] theorem enqueue_table (k : Slot) (v : Visit) (s : State) : (enqueue k v s).table = s.table := rfl
@[simp] theorem enqueue_tally (k : Slot) (v : Visit) (s : State) : (enqueue k v s).tally = s.tally := rfl
@[simp] theorem enqueue_clock (k : Slot) (v : Visit) (s : State) : (enqueue k v s).clock = s.clock := rfl
@[simp] theorem enqueue_free (k : Slot) (v : Visit) (s : State) : (enqueue k v s).free = s.free := rfl
@[simp] theorem enqueue_pending (k : Slot) (v : Visit) (s : State) : (enqueue k v s).pending = s.pending := rfl

@[simp] theorem addLoadCount_mem (t : TableId) (p r : Nat) (s : State) : (addLoadCount t p r s).mem = s.mem := rfl
@[simp] theorem addLoadCount_path (t : TableId) (p r : Nat) (s : State) : (addLoadCount t p r s).path = s.path := rfl
@[simp] theorem addLoadCount_exch (t : TableId) (p r : Nat) (s : State) : (addLoadCount t p r s).exch = s.exch := rfl
@[simp] theorem addLoadCount_latched (t : TableId) (p r : Nat) (s : State) : (addLoadCount t p r s).latched = s.latched := rfl
@[simp] theorem addLoadCount_ports (t : TableId) (p r : Nat) (s : State) : (addLoadCount t p r s).ports = s.ports := rfl
@[simp] theorem addLoadCount_gate (t : TableId) (p r : Nat) (s : State) : (addLoadCount t p r s).gate = s.gate := rfl
@[simp] theorem addLoadCount_yard (t : TableId) (p r : Nat) (s : State) : (addLoadCount t p r s).yard = s.yard := rfl
@[simp] theorem addLoadCount_bays (t : TableId) (p r : Nat) (s : State) : (addLoadCount t p r s).bays = s.bays := rfl
@[simp] theorem addLoadCount_water (t : TableId) (p r : Nat) (s : State) : (addLoadCount t p r s).water = s.water := rfl
@[simp] theorem addLoadCount_table (t : TableId) (p r : Nat) (s : State) : (addLoadCount t p r s).table = { s.table with counting := s.table.counting.plus t p r } := rfl
@[simp] theorem addLoadCount_tally (t : TableId) (p r : Nat) (s : State) : (addLoadCount t p r s).tally = s.tally := rfl
@[simp] theorem addLoadCount_clock (t : TableId) (p r : Nat) (s : State) : (addLoadCount t p r s).clock = s.clock := rfl
@[simp] theorem addLoadCount_free (t : TableId) (p r : Nat) (s : State) : (addLoadCount t p r s).free = s.free := rfl
@[simp] theorem addLoadCount_pending (t : TableId) (p r : Nat) (s : State) : (addLoadCount t p r s).pending = s.pending := rfl

@[simp] theorem takeLoadCounts_mem (s : State) : (takeLoadCounts s).mem = s.mem := rfl
@[simp] theorem takeLoadCounts_path (s : State) : (takeLoadCounts s).path = s.path := rfl
@[simp] theorem takeLoadCounts_exch (s : State) : (takeLoadCounts s).exch = s.exch := rfl
@[simp] theorem takeLoadCounts_latched (s : State) : (takeLoadCounts s).latched = s.latched := rfl
@[simp] theorem takeLoadCounts_ports (s : State) : (takeLoadCounts s).ports = s.ports := rfl
@[simp] theorem takeLoadCounts_gate (s : State) : (takeLoadCounts s).gate = s.gate := rfl
@[simp] theorem takeLoadCounts_yard (s : State) : (takeLoadCounts s).yard = s.yard := rfl
@[simp] theorem takeLoadCounts_bays (s : State) : (takeLoadCounts s).bays = s.bays := rfl
@[simp] theorem takeLoadCounts_water (s : State) : (takeLoadCounts s).water = s.water := rfl
@[simp] theorem takeLoadCounts_table (s : State) : (takeLoadCounts s).table = { s.table with loadCounts := s.table.counting } := rfl
@[simp] theorem takeLoadCounts_tally (s : State) : (takeLoadCounts s).tally = s.tally := rfl
@[simp] theorem takeLoadCounts_clock (s : State) : (takeLoadCounts s).clock = s.clock := rfl
@[simp] theorem takeLoadCounts_free (s : State) : (takeLoadCounts s).free = s.free := rfl
@[simp] theorem takeLoadCounts_pending (s : State) : (takeLoadCounts s).pending = s.pending := rfl

@[simp] theorem withPending_mem (q : List Instr) (s : State) : (s.withPending q).mem = s.mem := rfl
@[simp] theorem withPending_path (q : List Instr) (s : State) : (s.withPending q).path = s.path := rfl
@[simp] theorem withPending_exch (q : List Instr) (s : State) : (s.withPending q).exch = s.exch := rfl
@[simp] theorem withPending_latched (q : List Instr) (s : State) : (s.withPending q).latched = s.latched := rfl
@[simp] theorem withPending_ports (q : List Instr) (s : State) : (s.withPending q).ports = s.ports := rfl
@[simp] theorem withPending_gate (q : List Instr) (s : State) : (s.withPending q).gate = s.gate := rfl
@[simp] theorem withPending_yard (q : List Instr) (s : State) : (s.withPending q).yard = s.yard := rfl
@[simp] theorem withPending_bays (q : List Instr) (s : State) : (s.withPending q).bays = s.bays := rfl
@[simp] theorem withPending_water (q : List Instr) (s : State) : (s.withPending q).water = s.water := rfl
@[simp] theorem withPending_table (q : List Instr) (s : State) : (s.withPending q).table = s.table := rfl
@[simp] theorem withPending_tally (q : List Instr) (s : State) : (s.withPending q).tally = s.tally := rfl
@[simp] theorem withPending_clock (q : List Instr) (s : State) : (s.withPending q).clock = s.clock := rfl
@[simp] theorem withPending_free (q : List Instr) (s : State) : (s.withPending q).free = s.free := rfl
@[simp] theorem withPending_pending (q : List Instr) (s : State) : (s.withPending q).pending = q := rfl

end Sys2Proof.Machine
end

