-- ==== Sys2Proof/Laws/Arrivals.lean ====
section
/-! SUPPORT. The events that have reached their unit (R14): what reaching and taking one does to the values handed and the
reads returned, and when a unit can take an event at once. -/

namespace Sys2Proof.Machine

/-! ### The list of arrivals -/

@[simp] theorem Arrival.passed_event (us : List UnitId) (a : Arrival) : (a.passed us).event = a.event := rfl
@[simp] theorem Arrival.passed_orderTaken (us : List UnitId) (a : Arrival) :
    (a.passed us).orderTaken = a.orderTaken := rfl

/-- A list read off the events of arrivals does not see which of them are late. -/
theorem filterMap_passed {β : Type} (f : Event → Option β) (us : List UnitId) (l : List Arrival) :
    (l.map (Arrival.passed us)).filterMap (fun a => f a.event) = l.filterMap (fun a => f a.event) := by
  rw [List.filterMap_map]; rfl

/-- What reaching adds to such a list. -/
theorem filterMap_reach {β : Type} (f : Event → Option β) (e : Event) (s : State) :
    (reach e s).path.arrived.filterMap (fun a => f a.event)
      = s.path.arrived.filterMap (fun a => f a.event) ++ (f e).toList := by
  have one : [(⟨e, e.units.any (fun u => busy u s), s.exch.orderTaken⟩ : Arrival)].filterMap (fun a => f a.event) = (f e).toList := by
    cases h : f e <;> simp [h]
  unfold reach; dsimp only
  rw [List.filterMap_append, one]
  split
  · rw [filterMap_passed]
  · rfl

@[simp] theorem handed_reach (e : Event) (s : State) :
    (reach e s).path.handed = s.path.handed ++ e.asValue.toList := filterMap_reach Event.asValue e s

@[simp] theorem returned_reach (e : Event) (s : State) :
    (reach e s).path.returned = s.path.returned ++ e.asRead.toList := filterMap_reach Event.asRead e s

/-- Taking an event removes its first occurrence from a list read off the events, one-to-one. -/
theorem filterMap_dropArrival {β : Type} [BEq β] [LawfulBEq β] (f : Event → Option β) (e : Event) (b : β)
    (he : f e = some b)
    (inj : ∀ x, f x = some b → x = e) (l : List Arrival) :
    (l.eraseP (fun a => a.event == e)).filterMap (fun a => f a.event) = (l.filterMap (fun a => f a.event)).erase b := by
  induction l with
  | nil => rfl
  | cons a l ih =>
    by_cases h : a.event = e
    · simp [h, he]
    · have hb : f a.event ≠ some b := fun h' => h (inj _ h')
      rw [List.eraseP_cons_of_neg (by simpa using h)]
      cases hf : f a.event with
      | none => simp [hf, ih]
      | some c =>
        have hc : c ≠ b := fun h' => hb (by rw [hf, h'])
        simp [hf, ih, hc]

/-- Taking an event that a list does not show leaves the list. -/
theorem filterMap_dropArrival_none {β : Type} (f : Event → Option β) (e : Event) (he : f e = none) (l : List Arrival) :
    (l.eraseP (fun a => a.event == e)).filterMap (fun a => f a.event) = l.filterMap (fun a => f a.event) := by
  induction l with
  | nil => rfl
  | cons a l ih =>
    by_cases h : a.event = e
    · simp [h, he]
    · rw [List.eraseP_cons_of_neg (by simpa using h)]
      simp [List.filterMap_cons, ih]

@[simp] theorem handed_dropHanded (h : Handed) (s : State) :
    (dropHanded h s).path.handed = s.path.handed.erase h :=
  filterMap_dropArrival Event.asValue (.value h) h rfl
    (fun x hx => by cases x <;> simp_all [Event.asValue]) _

@[simp] theorem returned_dropHanded (h : Handed) (s : State) : (dropHanded h s).path.returned = s.path.returned :=
  filterMap_dropArrival_none Event.asRead (.value h) rfl _

@[simp] theorem returned_dropReturned (r : ReadTag × List Byte) (s : State) :
    (dropReturned r s).path.returned = s.path.returned.erase r := by
  obtain ⟨tag, data⟩ := r
  exact filterMap_dropArrival Event.asRead (.read tag data) (tag, data) rfl
    (fun x hx => by cases x <;> simp_all [Event.asRead]) _

@[simp] theorem handed_dropReturned (r : ReadTag × List Byte) (s : State) :
    (dropReturned r s).path.handed = s.path.handed :=
  filterMap_dropArrival_none Event.asValue (.read r.1 r.2) rfl _

/-- Taking an event without a row touches no value and no read. -/
theorem handed_dropArrival {e : Event} (h : e.unattended = true) (s : State) :
    (dropArrival e s).path.handed = s.path.handed :=
  filterMap_dropArrival_none Event.asValue e (by cases e <;> simp_all [Event.unattended, Event.asValue]) _
theorem returned_dropArrival {e : Event} (h : e.unattended = true) (s : State) :
    (dropArrival e s).path.returned = s.path.returned :=
  filterMap_dropArrival_none Event.asRead e (by cases e <;> simp_all [Event.unattended, Event.asRead]) _

/-- Values handed one after another join the list in their order. -/
@[simp] theorem handed_handAll (hs : List Handed) (s : State) :
    (handAll hs s).path.handed = s.path.handed ++ hs := by
  induction hs generalizing s with
  | nil => simp [handAll]
  | cons h hs ih => simp [handAll, ih, Event.asValue]

/-! ### When a unit can take an event -/

/-- With nothing late, no event waits for a unit. -/
theorem waits_eq_false {s : State} (h : nothingLate s = true) (u : UnitId) : waits u s = false := by
  simp only [nothingLate, List.all_eq_true] at h
  simp only [waits, List.any_eq_false, Bool.and_eq_true, not_and]
  intro a ha hl
  have := h a ha
  simp [hl] at this

/-- With nothing held and nothing late, no unit is busy, and every unit can take every event. -/
theorem busy_eq_false {s : State} (hh : s.path.held = []) (h : nothingLate s = true) (u : UnitId) :
    busy u s = false := by
  simp [busy, holds, hh, waits_eq_false h]

theorem ready_of_calm {s : State} (hh : s.path.held = []) (h : nothingLate s = true) (e : Event) :
    ready e s = true := by
  simp [ready, canTake, holds, hh, waits_eq_false h]

/-- A unit that is not busy can take any event. -/
theorem canTake_of_free {u : UnitId} {s : State} (h : busy u s = false) (e : Event) : canTake u e s = true := by
  simp only [busy, Bool.or_eq_false_iff] at h
  simp [canTake, h.1, h.2]

/-- A unit that holds a request takes no event (R14). -/
theorem canTake_of_holds {u : UnitId} {s : State} (h : holds u s = true) (e : Event) : canTake u e s = false := by
  simp [canTake, h]

/-- A value whose owner holds a request is not the next (R14). -/
theorem nextHanded_ne_of_holds {u : UnitId} {h : Handed} {s : State} (hh : holds u s = true)
    (ho : h.owner = some u) : nextHanded s ≠ some h := by
  intro hn
  have hr := List.find?_some hn
  simp [ready, Event.units, ho, canTake_of_holds hh] at hr

/-- An event that reaches a busy unit is late. -/
theorem reach_of_busy {e : Event} {u : UnitId} {s : State} (hu : u ∈ e.units) (h : busy u s = true) :
    (reach e s).path.arrived = s.path.arrived.map (Arrival.passed e.units) ++ [⟨e, true, s.exch.orderTaken⟩] := by
  have : e.units.any (fun u => busy u s) = true := List.any_eq_true.2 ⟨u, hu, h⟩
  simp [reach, this]

/-- An event that reaches free units is not late, and no other becomes so. -/
theorem reach_of_free {e : Event} {s : State} (h : ∀ u ∈ e.units, busy u s = false) :
    (reach e s).path.arrived = s.path.arrived ++ [⟨e, false, s.exch.orderTaken⟩] := by
  have : e.units.any (fun u => busy u s) = false := List.any_eq_false.2 (fun u hu => by simp [h u hu])
  simp [reach, this]

/-- What reaches a unit leaves the ORDER TAKEN that a standing value was handed at (R30). -/
theorem takenAtHanding_reach {h : Handed} {s : State} (hs : h ∈ s.path.handed) (e : Event) :
    takenAtHanding h (reach e s) = takenAtHanding h s := by
  obtain ⟨a, ha, hv⟩ := List.mem_filterMap.1 hs
  have he : a.event = .value h := by
    cases hx : a.event <;> simp_all [Event.asValue]
  have found : ∃ b, s.path.arrived.find? (fun x => x.event == .value h) = some b := by
    rw [← Option.isSome_iff_exists, List.find?_isSome]
    exact ⟨a, ha, by simp [he]⟩
  obtain ⟨b, hb⟩ := found
  have map : (s.path.arrived.map (Arrival.passed e.units)).find? (fun x => x.event == .value h) =
      some (b.passed e.units) := by
    rw [List.find?_map]; simp [Function.comp_def, hb]
  unfold takenAtHanding
  rw [hb]
  cases hl : e.units.any (fun u => busy u s) <;> simp [reach, hl, List.find?_append, map, hb]

/-! ### What has its turn -/

/-- With no event due, nothing is served. -/
theorem serveWaiting_eq_self {s : State} (h : nextDue s = none) : serveWaiting s = s := by
  unfold serveWaiting
  cases 256 * (s.path.arrived.length + 1) with
  | zero => rfl
  | succ n => simp [serveUpTo, h]

/-- A row that nothing waited behind ends with its own effect. -/
theorem afterTurn_of_free {us : List UnitId} {s : State} (h : ∀ u ∈ us, waits u s = false) (t : State) :
    afterTurn us s t = t := by
  have : us.any (fun u => waits u s) = false := List.any_eq_false.2 (fun u hu => by simp [h u hu])
  simp [afterTurn, this]

/-- A value taken with nothing late: its effect alone. -/
theorem takeValue_of_calm {s : State} (h : nothingLate s = true) (x : Handed) (f : State → State) :
    takeValue x f s = f (dropHanded x s) := afterTurn_of_free (fun u _ => waits_eq_false h u) _

/-- A read taken with nothing held and nothing late: its effect alone. -/
theorem takeRead_of_calm {s : State} (hh : s.path.held = []) (h : nothingLate s = true) (tag : ReadTag)
    (data : List Byte) (f : State → State) : takeRead tag data f s = f (dropReturned (tag, data) s) := by
  unfold takeRead
  rw [if_pos (ready_of_calm hh h _)]
  exact afterTurn_of_free (fun u _ => waits_eq_false h u) _

/-! ### What the Table Unit is told (R143) -/

/-- A free Table Unit acts on what it is told. -/
theorem tellTable_of_free {e : Told} {s : State} (hb : busy .table s = false) : tellTable e s = tableTold e s := by
  simp [tellTable, hb]

/-- A Table Unit that takes no event keeps its state when it is told. -/
theorem table_tellTable_of_busy {e : Told} {s : State} (hb : busy .table s = true) :
    (tellTable e s).table = s.table := by
  have hl : (leaveLifetime s).table = s.table := by
    unfold leaveLifetime leaveExpiry; split
    · split <;> rfl
    · rfl
  simp [tellTable, hb, hl]

end Sys2Proof.Machine
end

