-- ==== Sys2Proof/Laws/Units.lean ====
section
/-! SUPPORT. What asking for a notice, a refresh, a read or a placement can change: the request path and the Exchange
Unit, nothing else. One lemma per shared operation, over `besides`; the fields follow from it. -/

namespace Sys2Proof.Machine

/-- The state with the request path and the Exchange Unit blanked: everything that a request leaves alone. -/
def besides (s : State) : State := { s with path := State.reset.path, exch := State.reset.exch }

/-- Blanking looks at neither blanked unit. -/
theorem besides_withPath (x : PathUnit) (s : State) : besides { s with path := x } = besides s := rfl
theorem besides_withExch (x : ExchangeUnit) (s : State) : besides { s with exch := x } = besides s := rfl

/-! ### One lemma per operation -/

@[simp] theorem besides_present (u : UnitId) (i : Issue) (s : State) : besides (present u i s) = besides s := by
  unfold present; split <;> rfl

@[simp] theorem besides_makeWay (u : UnitId) (r : Rec) (s : State) : besides (makeWay u r s) = besides s := rfl

@[simp] theorem besides_placeTold (u : UnitId) (r : Rec) (a : Nat) (bytes : List Byte) (s : State) :
    besides (placeTold u r a bytes s) = besides s := besides_present u _ s

@[simp] theorem besides_tellOfLine (r : Rec) (a b : State) : besides (tellOfLine r a b) = besides b := by
  unfold tellOfLine; split <;> rfl

@[simp] theorem besides_driveAttention (s : State) : besides (driveAttention s) = besides s := rfl

@[simp] theorem besides_keepDropPos (n : Notice) (pos : Option Count) (s : State) :
    besides (keepDropPos n pos s) = besides s := by
  unfold keepDropPos; split <;> rfl

@[simp] theorem besides_writeNotice (n : Notice) (asked : Stamp) (s : State) :
    besides (writeNotice n asked s) = besides s := by
  unfold writeNotice
  split
  · simp only [besides_present, besides_placeTold, besides_keepDropPos, besides_driveAttention, besides_withExch]
  · dsimp only
    split <;> simp only [besides_present, besides_keepDropPos, besides_withExch]

@[simp] theorem besides_refreshNow (r : Rec) (s : State) : besides (refreshNow r s) = besides s :=
  besides_present _ _ _

@[simp] theorem besides_refreshAll (rs : List Rec) (s : State) : besides (refreshAll rs s) = besides s := by
  induction rs generalizing s with
  | nil => rfl
  | cons r rs ih => simp [refreshAll, ih]

@[simp] theorem besides_notifyNow (n : Notice) (s : State) : besides (notifyNow n s) = besides s := by
  unfold notifyNow; split <;> simp

@[simp] theorem besides_reach (e : Event) (s : State) : besides (reach e s) = besides s := rfl

@[simp] theorem besides_dropArrival (e : Event) (s : State) : besides (dropArrival e s) = besides s := rfl

@[simp] theorem besides_askNotice (n : Notice) (s : State) : besides (askNotice n s) = besides s := by
  unfold askNotice; split <;> simp

@[simp] theorem besides_notify (n : Notice) (s : State) : besides (notify n s) = besides s := by
  unfold notify; split <;> simp

@[simp] theorem besides_post (r : Rec) (s : State) : besides (post r s) = besides s := by
  unfold post; split <;> simp

@[simp] theorem besides_postLine (k : Fin 64) (s : State) : besides (postLine k s) = besides s := by simp [postLine]

@[simp] theorem besides_postVisit (slot : Slot) (s : State) : besides (postVisit slot s) = besides s := by
  simp [postVisit]

/-- A line posted if it changed: what is beside the path and the Exchange Unit is the later state's. -/
@[simp] theorem besides_postChanged (k : Fin 64) (a b : State) : besides (postChanged k a b) = besides b := by
  unfold postChanged; split <;> simp

@[simp] theorem besides_postChangedLines (ks : List (Fin 64)) (a b : State) :
    besides (postChangedLines ks a b) = besides b := by
  induction ks generalizing b with
  | nil => rfl
  | cons k ks ih => simp [postChangedLines, ih]

@[simp] theorem besides_drainHeld (hs : List Held) (s : State) : besides (drainHeld hs s) = besides s := by
  induction hs generalizing s with
  | nil => rfl
  | cons h hs ih =>
    unfold drainHeld; split
    · rw [ih]; rfl
    · rfl

@[simp] theorem besides_drainQueue (s : State) : besides (drainQueue s) = besides s := by simp [drainQueue]

@[simp] theorem besides_dropHanded (h : Handed) (s : State) : besides (dropHanded h s) = besides s := rfl

@[simp] theorem besides_dropReturned (r : ReadTag × List Byte) (s : State) :
    besides (dropReturned r s) = besides s := rfl

/-! ### The records written with their refresh: the field written, and nothing more -/

@[simp] theorem besides_setPort (p : PortId) (x : Port) (s : State) :
    besides (setPort p x s) = besides { s with ports := s.ports.set p x } := by
  unfold setPort; dsimp only; split <;> simp

@[simp] theorem besides_setBay (b : BayId) (x : Bay) (s : State) :
    besides (setBay b x s) = besides { s with bays := s.bays.set b x } := by simp [setBay]

@[simp] theorem besides_setTank (k : TankId) (x : Tank) (s : State) :
    besides (setTank k x s) = besides { s with water := { s.water with tanks := s.water.tanks.set k x } } := by
  simp [setTank]

@[simp] theorem besides_setGrant (b : BayId) (g : Option Grant) (s : State) :
    besides (setGrant b g s) = besides { s with water := { s.water with grants := s.water.grants.set b g } } := by
  simp [setGrant]

@[simp] theorem besides_setWater (w : WaterUnit) (s : State) :
    besides (setWater w s) = besides { s with water := w } := by simp [setWater]

@[simp] theorem besides_setTally (t : TallyUnit) (s : State) :
    besides (setTally t s) = besides { s with tally := t } := by simp [setTally]

@[simp] theorem besides_setTable (t : TableUnit) (s : State) :
    besides (setTable t s) = besides { s with table := t } := by simp [setTable]

@[simp] theorem besides_setVisit (slot : Slot) (v : Option Visit) (s : State) :
    besides (setVisit slot v s) = besides (putVisit slot v s) := by simp [setVisit]

/-! ### From `besides` to the fields -/

theorem mem_of_besides {a b : State} (h : besides a = besides b) : a.mem = b.mem :=
  show (besides a).mem = (besides b).mem from congrArg State.mem h
theorem latched_of_besides {a b : State} (h : besides a = besides b) : a.latched = b.latched :=
  show (besides a).latched = (besides b).latched from congrArg State.latched h
theorem ports_of_besides {a b : State} (h : besides a = besides b) : a.ports = b.ports :=
  show (besides a).ports = (besides b).ports from congrArg State.ports h
theorem gate_of_besides {a b : State} (h : besides a = besides b) : a.gate = b.gate :=
  show (besides a).gate = (besides b).gate from congrArg State.gate h
theorem yard_of_besides {a b : State} (h : besides a = besides b) : a.yard = b.yard :=
  show (besides a).yard = (besides b).yard from congrArg State.yard h
theorem bays_of_besides {a b : State} (h : besides a = besides b) : a.bays = b.bays :=
  show (besides a).bays = (besides b).bays from congrArg State.bays h
theorem water_of_besides {a b : State} (h : besides a = besides b) : a.water = b.water :=
  show (besides a).water = (besides b).water from congrArg State.water h
theorem table_of_besides {a b : State} (h : besides a = besides b) : a.table = b.table :=
  show (besides a).table = (besides b).table from congrArg State.table h
theorem tally_of_besides {a b : State} (h : besides a = besides b) : a.tally = b.tally :=
  show (besides a).tally = (besides b).tally from congrArg State.tally h
theorem clock_of_besides {a b : State} (h : besides a = besides b) : a.clock = b.clock :=
  show (besides a).clock = (besides b).clock from congrArg State.clock h
theorem free_of_besides {a b : State} (h : besides a = besides b) : a.free = b.free :=
  show (besides a).free = (besides b).free from congrArg State.free h
theorem pending_of_besides {a b : State} (h : besides a = besides b) : a.pending = b.pending :=
  show (besides a).pending = (besides b).pending from congrArg State.pending h

/-! The shapes met most: a request, a notice and a refresh leave every unit's own record as it was. -/

@[simp] theorem mem_present (u : UnitId) (i : Issue) (s : State) : (present u i s).mem = s.mem :=
  mem_of_besides (besides_present u i s)
@[simp] theorem ports_present (u : UnitId) (i : Issue) (s : State) : (present u i s).ports = s.ports :=
  ports_of_besides (besides_present u i s)
@[simp] theorem gate_present (u : UnitId) (i : Issue) (s : State) : (present u i s).gate = s.gate :=
  gate_of_besides (besides_present u i s)
@[simp] theorem yard_present (u : UnitId) (i : Issue) (s : State) : (present u i s).yard = s.yard :=
  yard_of_besides (besides_present u i s)
@[simp] theorem bays_present (u : UnitId) (i : Issue) (s : State) : (present u i s).bays = s.bays :=
  bays_of_besides (besides_present u i s)
@[simp] theorem water_present (u : UnitId) (i : Issue) (s : State) : (present u i s).water = s.water :=
  water_of_besides (besides_present u i s)
@[simp] theorem table_present (u : UnitId) (i : Issue) (s : State) : (present u i s).table = s.table :=
  table_of_besides (besides_present u i s)
@[simp] theorem tally_present (u : UnitId) (i : Issue) (s : State) : (present u i s).tally = s.tally :=
  tally_of_besides (besides_present u i s)
@[simp] theorem clock_present (u : UnitId) (i : Issue) (s : State) : (present u i s).clock = s.clock :=
  clock_of_besides (besides_present u i s)
@[simp] theorem mem_notify (n : Notice) (s : State) : (notify n s).mem = s.mem :=
  mem_of_besides (besides_notify n s)
@[simp] theorem ports_notify (n : Notice) (s : State) : (notify n s).ports = s.ports :=
  ports_of_besides (besides_notify n s)
@[simp] theorem gate_notify (n : Notice) (s : State) : (notify n s).gate = s.gate :=
  gate_of_besides (besides_notify n s)
@[simp] theorem yard_notify (n : Notice) (s : State) : (notify n s).yard = s.yard :=
  yard_of_besides (besides_notify n s)
@[simp] theorem bays_notify (n : Notice) (s : State) : (notify n s).bays = s.bays :=
  bays_of_besides (besides_notify n s)
@[simp] theorem water_notify (n : Notice) (s : State) : (notify n s).water = s.water :=
  water_of_besides (besides_notify n s)
@[simp] theorem table_notify (n : Notice) (s : State) : (notify n s).table = s.table :=
  table_of_besides (besides_notify n s)
@[simp] theorem tally_notify (n : Notice) (s : State) : (notify n s).tally = s.tally :=
  tally_of_besides (besides_notify n s)
@[simp] theorem clock_notify (n : Notice) (s : State) : (notify n s).clock = s.clock :=
  clock_of_besides (besides_notify n s)
@[simp] theorem mem_post (r : Rec) (s : State) : (post r s).mem = s.mem :=
  mem_of_besides (besides_post r s)
@[simp] theorem ports_post (r : Rec) (s : State) : (post r s).ports = s.ports :=
  ports_of_besides (besides_post r s)
@[simp] theorem gate_post (r : Rec) (s : State) : (post r s).gate = s.gate :=
  gate_of_besides (besides_post r s)
@[simp] theorem yard_post (r : Rec) (s : State) : (post r s).yard = s.yard :=
  yard_of_besides (besides_post r s)
@[simp] theorem bays_post (r : Rec) (s : State) : (post r s).bays = s.bays :=
  bays_of_besides (besides_post r s)
@[simp] theorem water_post (r : Rec) (s : State) : (post r s).water = s.water :=
  water_of_besides (besides_post r s)
@[simp] theorem table_post (r : Rec) (s : State) : (post r s).table = s.table :=
  table_of_besides (besides_post r s)
@[simp] theorem tally_post (r : Rec) (s : State) : (post r s).tally = s.tally :=
  tally_of_besides (besides_post r s)
@[simp] theorem clock_post (r : Rec) (s : State) : (post r s).clock = s.clock :=
  clock_of_besides (besides_post r s)
@[simp] theorem mem_postLine (k : Fin 64) (s : State) : (postLine k s).mem = s.mem :=
  mem_of_besides (besides_postLine k s)
@[simp] theorem ports_postLine (k : Fin 64) (s : State) : (postLine k s).ports = s.ports :=
  ports_of_besides (besides_postLine k s)
@[simp] theorem gate_postLine (k : Fin 64) (s : State) : (postLine k s).gate = s.gate :=
  gate_of_besides (besides_postLine k s)
@[simp] theorem yard_postLine (k : Fin 64) (s : State) : (postLine k s).yard = s.yard :=
  yard_of_besides (besides_postLine k s)
@[simp] theorem bays_postLine (k : Fin 64) (s : State) : (postLine k s).bays = s.bays :=
  bays_of_besides (besides_postLine k s)
@[simp] theorem water_postLine (k : Fin 64) (s : State) : (postLine k s).water = s.water :=
  water_of_besides (besides_postLine k s)
@[simp] theorem table_postLine (k : Fin 64) (s : State) : (postLine k s).table = s.table :=
  table_of_besides (besides_postLine k s)
@[simp] theorem tally_postLine (k : Fin 64) (s : State) : (postLine k s).tally = s.tally :=
  tally_of_besides (besides_postLine k s)
@[simp] theorem clock_postLine (k : Fin 64) (s : State) : (postLine k s).clock = s.clock :=
  clock_of_besides (besides_postLine k s)

end Sys2Proof.Machine
end

