-- ==== Sys2Proof/Laws/Copies.lean ====
section
/-! SUPPORT. The internal copies: what an entry put in or taken out does to a lookup, and that the indices keep rising;
and what loading does to the load counts. -/

namespace Sys2Proof.Machine

variable {α : Type}

theorem copySorted_cons {j : Nat} {y : α} {m : List (Nat × α)} :
    copySorted ((j, y) :: m) ↔ (∀ e ∈ m, j < e.1) ∧ copySorted m := by
  simp [copySorted, List.pairwise_cons]

/-- An index below every listed one has no entry. -/
theorem lookup_below {i : Nat} {m : List (Nat × α)} (h : ∀ e ∈ m, i < e.1) : lookup m i = none := by
  induction m with
  | nil => rfl
  | cons e m ih =>
    obtain ⟨j, y⟩ := e
    have hj : i < j := h (j, y) (by simp)
    simp only [lookup, if_neg (by omega : ¬ j = i)]
    exact ih (fun e he => h e (by simp [he]))

theorem mem_of_mem_remove {m : List (Nat × α)} {i : Nat} {e : Nat × α} (h : e ∈ remove m i) : e ∈ m := by
  induction m with
  | nil => exact h
  | cons f m ih =>
    obtain ⟨j, y⟩ := f
    by_cases hj : j = i
    · simp only [remove, if_pos hj] at h
      exact List.mem_cons_of_mem _ h
    · simp only [remove, if_neg hj, List.mem_cons] at h ⊢
      exact h.imp_right ih

theorem index_of_mem_insert {m : List (Nat × α)} {i : Nat} {x : α} {e : Nat × α} (h : e ∈ insert m i x) :
    e.1 = i ∨ e ∈ m := by
  induction m with
  | nil => exact Or.inl (by simp only [insert, List.mem_singleton] at h; rw [h])
  | cons f m ih =>
    obtain ⟨j, y⟩ := f
    simp only [insert] at h
    split at h
    · simp only [List.mem_cons] at h ⊢
      exact h.imp (fun h => by rw [h]) id
    · split at h
      · simp only [List.mem_cons] at h ⊢
        exact h.imp (fun h => by rw [h]) Or.inr
      · simp only [List.mem_cons] at h ⊢
        rcases h with h | h
        · exact Or.inr (Or.inl h)
        · exact (ih h).imp_right Or.inr

theorem copySorted_remove {m : List (Nat × α)} {i : Nat} (h : copySorted m) : copySorted (remove m i) := by
  induction m with
  | nil => exact h
  | cons f m ih =>
    obtain ⟨j, y⟩ := f
    rw [copySorted_cons] at h
    simp only [remove]
    split
    · exact h.2
    · exact copySorted_cons.2 ⟨fun e he => h.1 e (mem_of_mem_remove he), ih h.2⟩

theorem copySorted_insert {m : List (Nat × α)} {i : Nat} {x : α} (h : copySorted m) :
    copySorted (insert m i x) := by
  induction m with
  | nil => simp [insert, copySorted]
  | cons f m ih =>
    obtain ⟨j, y⟩ := f
    have h' := copySorted_cons.1 h
    simp only [insert]
    split
    case isTrue hij =>
      refine copySorted_cons.2 ⟨fun e he => ?_, h⟩
      simp only [List.mem_cons] at he
      rcases he with he | he
      · rw [he]; exact hij
      · exact Nat.lt_trans hij (h'.1 e he)
    case isFalse hij =>
      split
      case isTrue hEq =>
        subst hEq
        exact copySorted_cons.2 h'
      case isFalse hne =>
        refine copySorted_cons.2 ⟨fun e he => ?_, ih h'.2⟩
        rcases index_of_mem_insert he with he | he
        · rw [he]; omega
        · exact h'.1 e he

/-- An entry put in or taken out leaves the indices rising (R138). -/
theorem copySorted_store {m : List (Nat × α)} {i : Nat} {x : Option α} (h : copySorted m) :
    copySorted (store m i x) := by
  cases x with
  | none => exact copySorted_remove h
  | some x => exact copySorted_insert h

theorem lookup_insert (m : List (Nat × α)) (i j : Nat) (x : α) :
    lookup (insert m i x) j = if i = j then some x else lookup m j := by
  induction m with
  | nil => simp [insert, lookup]
  | cons f m ih =>
    obtain ⟨k, y⟩ := f
    simp only [insert]
    split
    · simp only [lookup]
    · split
      case isTrue hEq =>
        subst hEq
        simp only [lookup]
        split <;> rfl
      case isFalse hne =>
        simp only [lookup, ih]
        split <;> split <;> first | rfl | omega

theorem lookup_remove {m : List (Nat × α)} (h : copySorted m) (i j : Nat) :
    lookup (remove m i) j = if i = j then none else lookup m j := by
  induction m with
  | nil => simp [remove, lookup]
  | cons f m ih =>
    obtain ⟨k, y⟩ := f
    have h' := copySorted_cons.1 h
    simp only [remove]
    split
    case isTrue hEq =>
      subst hEq
      split
      case isTrue hj => subst hj; exact lookup_below h'.1
      case isFalse hj => simp only [lookup, if_neg hj]
    case isFalse hne =>
      simp only [lookup, ih h'.2]
      split <;> split <;> first | rfl | omega

/-- What an entry put in or taken out does to a lookup (R138). -/
theorem lookup_store {m : List (Nat × α)} (h : copySorted m) (i j : Nat) (x : Option α) :
    lookup (store m i x) j = if i = j then x else lookup m j := by
  cases x with
  | none => exact lookup_remove h i j
  | some x => exact lookup_insert m i j x

/-- Storing an entry keeps the four copies rising. -/
theorem copiesSorted_storeEntry {t : TableId} {i : Nat} {x : Option Entry} {s : State}
    (h : copiesSorted s = true) : copiesSorted (storeEntry t i x s) = true := by
  simp only [copiesSorted, Bool.and_eq_true, decide_eq_true_eq] at h ⊢
  obtain ⟨⟨⟨h1, h2⟩, h3⟩, h4⟩ := h
  cases t
  · exact ⟨⟨⟨copySorted_store h1, h2⟩, h3⟩, h4⟩
  · exact ⟨⟨⟨h1, copySorted_store h2⟩, h3⟩, h4⟩
  · exact ⟨⟨⟨h1, h2⟩, copySorted_store h3⟩, h4⟩
  · exact ⟨⟨⟨h1, h2⟩, h3⟩, copySorted_store h4⟩

/-! ### The load counts (R141, R149) -/

/-- Storing an entry counts nothing. -/
@[simp] theorem storeEntry_counts (t : TableId) (i : Nat) (x : Option Entry) (s : State) :
    (storeEntry t i x s).table.counting = s.table.counting ∧
      (storeEntry t i x s).table.loadCounts = s.table.loadCounts := by
  cases t <;> exact ⟨rfl, rfl⟩

/-- An entry at loading leaves the posted counts, and counts once unless it is declared absent. -/
theorem loadEntry_counts (t : TableId) (i : Nat) (bytes : List Byte) (s : State) :
    (loadEntry t i bytes s).table.loadCounts = s.table.loadCounts ∧
      (loadEntry t i bytes s).table.counting =
        match judgeLoad t i bytes s with
        | .ok none => s.table.counting
        | .ok (some _) => s.table.counting.plus t 1 0
        | .error _ => s.table.counting.plus t 0 1 := by
  unfold loadEntry
  rcases judgeLoad t i bytes s with r | (_ | e) <;> simp

/-- The entries of a read leave the posted counts. -/
theorem loadEntries_loadCounts (t : TableId) (n i : Nat) (data : List Byte) (s : State) :
    (loadEntries t n i data s).table.loadCounts = s.table.loadCounts := by
  induction n generalizing i data s with
  | zero => rfl
  | succ n ih => rw [loadEntries, ih, (loadEntry_counts ..).1]

/-- What follows a loading read changes the Table Unit only after the vehicle register's last: what has been counted
becomes the load counts. -/
theorem nextTableRead_table (t : TableId) (chunk : Nat) (s : State) :
    (nextTableRead t chunk s).table =
      if t = .vehicles ∧ 63 ≤ chunk then { s.table with loadCounts := s.table.counting } else s.table := by
  cases t <;> simp only [nextTableRead, reduceCtorEq, false_and, true_and, if_false]
  · by_cases h : chunk < 63
    · simp [h, readTable, Nat.not_le.mpr h]
    · simp [h, readBalances, postLoadCounts, Nat.not_lt.mp h]
  · split <;> simp [readTable]
  · simp [readTable]
  · simp [readTable]

/-- A loading read that has returned leaves the posted counts, but for the vehicle register's last, which posts what has
been counted. -/
theorem tableReturned_loadCounts (t : TableId) (chunk : Nat) (data : List Byte) (s : State) :
    (tableReturned t chunk data s).table.loadCounts =
      if t = .vehicles ∧ 63 ≤ chunk then (tableReturned t chunk data s).table.counting else s.table.loadCounts := by
  unfold tableReturned
  rw [nextTableRead_table]
  split
  · rfl
  · exact loadEntries_loadCounts ..

end Sys2Proof.Machine
end

