-- ==== Sys2Proof/Laws/Kept.lean ====
section
/-! SUPPORT. What the shared operations leave alone: one lemma per operation, `kept` after it is `kept` before it. -/

namespace Sys2Proof.Machine

/-! ### Requests, notices, refreshes -/

@[simp] theorem kept_present (u : UnitId) (i : Issue) (s : State) : kept (present u i s) = kept s := by
  unfold present; split <;> rfl

@[simp] theorem kept_makeWay (u : UnitId) (r : Rec) (s : State) : kept (makeWay u r s) = kept s := rfl

@[simp] theorem kept_placeTold (u : UnitId) (r : Rec) (a : Nat) (bytes : List Byte) (s : State) :
    kept (placeTold u r a bytes s) = kept s := (kept_makeWay u r _).trans (kept_present u _ s)

@[simp] theorem kept_tellOfLine (r : Rec) (a b : State) : kept (tellOfLine r a b) = kept b := by
  unfold tellOfLine; split <;> rfl

@[simp] theorem kept_driveAttention (s : State) : kept (driveAttention s) = kept s := rfl

@[simp] theorem kept_keepDropPos (n : Notice) (pos : Option Count) (s : State) :
    kept (keepDropPos n pos s) = kept s := by
  unfold keepDropPos; split <;> rfl

/-- The producer count is no part of `kept`. -/
@[simp] theorem kept_withProducer (c : Count) (s : State) :
    kept { s with exch := { s.exch with producer := c } } = kept s := rfl

@[simp] theorem kept_withOverrun (s : State) : kept { s with exch := { s.exch with overrun := true } } = kept s := rfl

@[simp] theorem kept_writeNotice (n : Notice) (asked : Stamp) (s : State) :
    kept (writeNotice n asked s) = kept s := by
  unfold writeNotice
  split
  · simp only [kept_present, kept_placeTold, kept_keepDropPos, kept_driveAttention, kept_withProducer]
  · dsimp only
    split <;> simp only [kept_present, kept_keepDropPos, kept_withOverrun]

@[simp] theorem kept_refreshNow (r : Rec) (s : State) : kept (refreshNow r s) = kept s := kept_present _ _ _

@[simp] theorem kept_refreshAll (rs : List Rec) (s : State) : kept (refreshAll rs s) = kept s := by
  induction rs generalizing s with
  | nil => rfl
  | cons r rs ih => simp [refreshAll, ih]

@[simp] theorem kept_notifyNow (n : Notice) (s : State) : kept (notifyNow n s) = kept s := by
  unfold notifyNow; split <;> simp

/-- An event without a row that reaches its unit touches no value and no read. -/
@[simp] theorem kept_reach {e : Event} {s : State} (h : e.unattended = true) : kept (reach e s) = kept s := by
  have hv : e.asValue = none := by cases e <;> simp_all [Event.unattended, Event.asValue]
  have hr : e.asRead = none := by cases e <;> simp_all [Event.unattended, Event.asRead]
  have h1 := handed_reach e s
  have h2 := returned_reach e s
  rw [hv, Option.toList_none, List.append_nil] at h1
  rw [hr, Option.toList_none, List.append_nil] at h2
  show Kept.mk _ _ _ _ _ _ _ _ _ _ _ _ _ _ _ = Kept.mk _ _ _ _ _ _ _ _ _ _ _ _ _ _ _
  congr 1
  show PathKept.mk _ _ _ _ _ _ _ _ _ _ _ _ = PathKept.mk _ _ _ _ _ _ _ _ _ _ _ _
  congr 1

@[simp] theorem kept_askNotice (n : Notice) (s : State) : kept (askNotice n s) = kept s := by
  unfold askNotice; split
  · exact kept_reach rfl
  · simp

@[simp] theorem kept_notify (n : Notice) (s : State) : kept (notify n s) = kept s := by
  unfold notify; split <;> simp

@[simp] theorem kept_post (r : Rec) (s : State) : kept (post r s) = kept s := by
  unfold post; split
  · exact kept_reach rfl
  · simp

@[simp] theorem kept_postLine (k : Fin 64) (s : State) : kept (postLine k s) = kept s := by simp [postLine]

@[simp] theorem kept_postChanged (k : Fin 64) (a b : State) : kept (postChanged k a b) = kept b := by
  unfold postChanged; split <;> simp

@[simp] theorem kept_postChangedLines (ks : List (Fin 64)) (a b : State) :
    kept (postChangedLines ks a b) = kept b := by
  induction ks generalizing b with
  | nil => rfl
  | cons k ks ih => simp [postChangedLines, ih]

@[simp] theorem kept_postVisit (slot : Slot) (s : State) : kept (postVisit slot s) = kept s := by simp [postVisit]

@[simp] theorem kept_drainHeld (hs : List Held) (s : State) : kept (drainHeld hs s) = kept s := by
  induction hs generalizing s with
  | nil => rfl
  | cons h hs ih =>
    unfold drainHeld; split
    · rw [ih]; rfl
    · rfl

@[simp] theorem kept_drainQueue (s : State) : kept (drainQueue s) = kept s := by simp [drainQueue]

@[simp] theorem kept_drawn (s : State) : kept (drawn s) = kept s := rfl

/-! ### Records -/

/-- Writes of these fields touch nothing `kept` speaks of. -/
theorem kept_withPorts (x : Vector Port 11) (s : State) : kept { s with ports := x } = kept s := rfl
theorem kept_withBays (x : Vector Bay 8) (s : State) : kept { s with bays := x } = kept s := rfl
@[simp] theorem kept_withYard (x : YardUnit) (s : State) : kept { s with yard := x } = kept s := rfl
theorem kept_withTanks (x : Vector Tank 4) (s : State) :
    kept { s with water := { s.water with tanks := x } } = kept s := rfl
theorem kept_withGrants (x : Vector (Option Grant) 8) (s : State) :
    kept { s with water := { s.water with grants := x } } = kept s := rfl
theorem kept_withAccounts (x : Vector AccountState 256) (s : State) :
    kept { s with tally := { s.tally with accounts := x } } = kept s := rfl

@[simp] theorem kept_setPort (p : PortId) (x : Port) (s : State) : kept (setPort p x s) = kept s := by
  unfold setPort; dsimp only; split <;> simp [kept_withPorts]

@[simp] theorem kept_setBay (b : BayId) (x : Bay) (s : State) : kept (setBay b x s) = kept s := by
  simp [setBay, kept_withBays]

@[simp] theorem kept_setBayWith (b : BayId) (f : Bay → Bay) (s : State) : kept (setBayWith b f s) = kept s := by
  simp [setBayWith]

@[simp] theorem kept_setTank (k : TankId) (x : Tank) (s : State) : kept (setTank k x s) = kept s := by
  simp [setTank, kept_withTanks]

@[simp] theorem kept_setTankWith (k : TankId) (f : Tank → Tank) (s : State) :
    kept (setTankWith k f s) = kept s := by simp [setTankWith]

@[simp] theorem kept_setGrant (b : BayId) (g : Option Grant) (s : State) : kept (setGrant b g s) = kept s := by
  simp [setGrant, kept_withGrants]

@[simp] theorem kept_putVisit (slot : Slot) (v : Option Visit) (s : State) : kept (putVisit slot v s) = kept s := rfl

@[simp] theorem kept_setVisit (slot : Slot) (v : Option Visit) (s : State) : kept (setVisit slot v s) = kept s := by
  simp [setVisit]

@[simp] theorem kept_putAccount (a : AccountId) (x : AccountState) (s : State) :
    kept (putAccount a x s) = kept s := rfl

/-- A Tally record with the same invoice counter and posted pool count. -/
@[simp] theorem kept_withTally {t : TallyUnit} {s : State} (hi : t.invoice = s.tally.invoice)
    (hp : t.poolPosted = s.tally.poolPosted) : kept { s with tally := t } = kept s := by
  simp [kept, hi, hp]

@[simp] theorem kept_setTally {t : TallyUnit} {s : State} (hi : t.invoice = s.tally.invoice)
    (hp : t.poolPosted = s.tally.poolPosted) : kept (setTally t s) = kept s := by
  simp [setTally, kept_withTally hi hp]

/-- A Water record with the same calibration and probe. -/
@[simp] theorem kept_withWater {w : WaterUnit} {s : State} (h1 : w.calibrated = s.water.calibrated)
    (h2 : w.calDay = s.water.calDay) (h3 : w.calTemp = s.water.calTemp)
    (h4 : w.probeExpired = s.water.probeExpired) : kept { s with water := w } = kept s := by
  simp [kept, h1, h2, h3, h4]

@[simp] theorem kept_setWater {w : WaterUnit} {s : State} (h1 : w.calibrated = s.water.calibrated)
    (h2 : w.calDay = s.water.calDay) (h3 : w.calTemp = s.water.calTemp)
    (h4 : w.probeExpired = s.water.probeExpired) : kept (setWater w s) = kept s := by
  simp [setWater, kept_withWater h1 h2 h3 h4]

/-- A Gate record with the same index. -/
@[simp] theorem kept_putGate {g : GateUnit} {s : State} (h1 : g.tagMap = s.gate.tagMap)
    (h2 : g.plateMap = s.gate.plateMap) : kept (putGate g s) = kept s := by
  simp [putGate, kept, h1, h2]

/-! ### Ports (chapter 3) -/

@[simp] theorem kept_portDown (p : PortId) (r : DownReason) (s : State) : kept (portDown p r s) = kept s := by
  simp [portDown]

@[simp] theorem kept_offer (p : PortId) (f : QFrame) (s : State) : kept (offer p f s) = kept s := by
  unfold offer; dsimp only; split
  · split <;> simp
  · simp

@[simp] theorem kept_takeFrame (p : PortId) (s : State) : kept (takeFrame p s) = kept s := by simp [takeFrame]

/-! ### Pages and lines (chapters 9 and 10) -/

@[simp] theorem kept_pageSearch (s : State) : kept (pageSearch s) = kept s := by
  unfold pageSearch; split
  · simp
  · rfl

@[simp] theorem kept_closePage (r : Nat) (s : State) : kept (closePage r s) = kept s := by
  unfold closePage; split
  · rfl
  · simp

@[simp] theorem kept_placeItems (a : Nat) (items : List Byte) (s : State) :
    kept (placeItems a items s) = kept s := by
  unfold placeItems; split <;> simp

/-- The invoice counter and the posted pool count read from `kept`. -/
theorem invoice_of_kept {s t : State} (h : kept s = kept t) : s.tally.invoice = t.tally.invoice :=
  show (kept s).invoice = (kept t).invoice from congrArg Kept.invoice h
theorem poolPosted_of_kept {s t : State} (h : kept s = kept t) : s.tally.poolPosted = t.tally.poolPosted :=
  show (kept s).poolPosted = (kept t).poolPosted from congrArg Kept.poolPosted h

/-- A Tally record with the invoice counter and the posted pool count of an earlier state that kept as much. -/
theorem kept_setTally_of {t : TallyUnit} {s s' : State} (h : kept s' = kept s) (hi : t.invoice = s.tally.invoice)
    (hp : t.poolPosted = s.tally.poolPosted) : kept (setTally t s') = kept s := by
  rw [kept_setTally (hi.trans (invoice_of_kept h).symm) (hp.trans (poolPosted_of_kept h).symm), h]

/-- A line placed with a Tally record of the same invoice counter and posted pool count. -/
theorem kept_placeLine {l : TallyLine} {t : TallyUnit} {s : State} (hi : t.invoice = s.tally.invoice)
    (hp : t.poolPosted = s.tally.poolPosted) : kept (placeLine l t s) = kept s := by
  unfold placeLine; split
  · rfl
  · dsimp only
    split
    · rw [kept_pageSearch, kept_closePage]; exact kept_setTally_of (by simp) hi hp
    · exact kept_setTally_of (by simp) hi hp

/-- The same for a line pended. -/
theorem kept_pendLine {l : TallyLine} {t : TallyUnit} {s : State} (hi : t.invoice = s.tally.invoice)
    (hp : t.poolPosted = s.tally.poolPosted) : kept (pendLine l t s) = kept s := by
  unfold pendLine; dsimp only; split
  · simp [hi, hp]
  · simp [hi, hp]

/-- A line composed from a Tally record of the same invoice counter and posted pool count. -/
@[simp] theorem kept_composeLine {t : TallyUnit} {r : Bool} {h : Word → List Byte} {items : List Byte} {s : State}
    (hi : t.invoice = s.tally.invoice) (hp : t.poolPosted = s.tally.poolPosted) :
    kept (composeLine t r h items s) = kept s := by
  unfold composeLine; dsimp only
  split
  · exact kept_placeLine hi hp
  · exact kept_pendLine hi hp

@[simp] theorem kept_drainLines (ls : List TallyLine) (s : State) : kept (drainLines ls s) = kept s := by
  induction ls generalizing s with
  | nil => rfl
  | cons l ls ih =>
    unfold drainLines; split
    · rw [ih]; exact kept_placeLine rfl rfl
    · rfl

@[simp] theorem kept_creditChange (a : AccountId) (s : State) : kept (creditChange a s) = kept s := by
  unfold creditChange; dsimp only; split <;> simp

@[simp] theorem kept_creditTest (a : AccountId) (s : State) : kept (creditTest a s) = kept s := by
  unfold creditTest; split <;> simp

@[simp] theorem kept_chargeAccount (a : AccountId) (n : Nat) (s : State) :
    kept (chargeAccount a n s) = kept s := by simp [chargeAccount]

@[simp] theorem kept_composeVisitLine {v : Visit} {t : TallyUnit} {s : State} (hi : t.invoice = s.tally.invoice)
    (hp : t.poolPosted = s.tally.poolPosted) : kept (composeVisitLine v t s) = kept s := by
  unfold composeVisitLine; dsimp only; split <;> simp [hi, hp]

/-! ### The yard (chapter 5) -/

@[simp] theorem kept_enqueue (slot : Slot) (v : Visit) (s : State) : kept (enqueue slot v s) = kept s := rfl
@[simp] theorem kept_leaveQueue (slot : Slot) (s : State) : kept (leaveQueue slot s) = kept s := rfl

@[simp] theorem kept_callVisit (slot : Slot) (v : Visit) (b : BayId) (s : State) :
    kept (callVisit slot v b s) = kept s := by simp [callVisit]

@[simp] theorem kept_arbiterCalls (n : Nat) (s : State) : kept (arbiterCalls n s) = kept s := by
  induction n generalizing s with
  | zero => rfl
  | succ n ih =>
    unfold arbiterCalls; split
    · rfl
    · rw [ih, kept_callVisit]

@[simp] theorem kept_arbiter (s : State) : kept (arbiter s) = kept s := by
  unfold arbiter; split <;> simp

@[simp] theorem kept_unservableCheck (slot : Slot) (v : Visit) (s : State) :
    kept (unservableCheck slot v s) = kept s := by
  unfold unservableCheck; split <;> simp

@[simp] theorem kept_queueVisit (slot : Slot) (v : Visit) (s : State) : kept (queueVisit slot v s) = kept s := by
  simp [queueVisit, kept_withYard]

@[simp] theorem kept_endCallAtBay (b : BayId) (s : State) : kept (endCallAtBay b s) = kept s := by
  unfold endCallAtBay; dsimp only; split <;> simp

@[simp] theorem kept_requeue (slot : Slot) (v : Visit) (s : State) : kept (requeue slot v s) = kept s := by
  simp [requeue]

@[simp] theorem kept_release (slot : Slot) (v : Visit) (r : VisitReason) (s : State) :
    kept (release slot v r s) = kept s := by simp [release]

@[simp] theorem kept_withdrawCall (slot : Slot) (v : Visit) (c : Nat) (s : State) :
    kept (withdrawCall slot v c s) = kept s := by simp [withdrawCall]

@[simp] theorem kept_expireCall (slot : Slot) (v : Visit) (b : BayId) (s : State) :
    kept (expireCall slot v b s) = kept s := by
  unfold expireCall; dsimp only; split <;> simp

/-! ### The gates (chapter 4) -/

@[simp] theorem kept_gateWith (e : EntryState) (s : State) : kept (gateWith e s) = kept s := kept_putGate rfl rfl

@[simp] theorem kept_raiseBarrier (g : Gate) (n : Count) (s : State) : kept (raiseBarrier g n s) = kept s := by
  unfold raiseBarrier; split <;> simp

@[simp] theorem kept_holdVisit (slot : Slot) (v : Visit) (r : VisitReason) (s : State) :
    kept (holdVisit slot v r s) = kept s := by simp [holdVisit]

@[simp] theorem kept_admitVisit (slot : Slot) (v : Visit) (s : State) : kept (admitVisit slot v s) = kept s := by
  simp [admitVisit]

@[simp] theorem kept_settleAdmission (slot : Slot) (v : Visit) (s : State) :
    kept (settleAdmission slot v s) = kept s := by
  unfold settleAdmission; split <;> simp

@[simp] theorem kept_createVisit (p : Pair) (o : Ident) (slot : Slot) (s : State) :
    kept (createVisit p o slot s) = kept s := by
  unfold createVisit; dsimp only; split <;> simp [kept_withYard]

@[simp] theorem kept_reevaluate (l : List Slot) (s : State) : kept (reevaluate l s) = kept s := by
  induction l generalizing s with
  | nil => rfl
  | cons a l ih => unfold reevaluate; split <;> simp [ih]

@[simp] theorem kept_pauseLifted (s : State) : kept (pauseLifted s) = kept s := by simp [pauseLifted]
@[simp] theorem kept_creditEased (a : AccountId) (s : State) : kept (creditEased a s) = kept s := by
  simp [creditEased]

@[simp] theorem kept_decidePair (p : Pair) (s : State) : kept (decidePair p s) = kept s := by
  unfold decidePair; dsimp only; split
  · simp
  · split
    · simp
    · simp

@[simp] theorem kept_offerSlot (slot : Slot) (s : State) : kept (offerSlot slot s) = kept s := by
  unfold offerSlot; split
  · dsimp only; split <;> simp
  · rfl

@[simp] theorem kept_openPair (x : Sighting) (s : State) : kept (openPair x s) = kept s := kept_putGate rfl rfl

@[simp] theorem kept_sameKind (b : Bool) (p : Pair) (x : Sighting) (s : State) :
    kept (sameKind b p x s) = kept s := by
  unfold sameKind; split
  · rfl
  · dsimp only; split <;> simp

@[simp] theorem kept_pairSighting (x : Sighting) (s : State) : kept (pairSighting x s) = kept s := by
  unfold pairSighting; split
  · simp
  · split <;> split <;> simp

@[simp] theorem kept_pairDiscarded (p : Pair) (r : Nat) (s : State) : kept (pairDiscarded p r s) = kept s := by
  simp [pairDiscarded]

@[simp] theorem kept_discardPair (e : EntryState) (r : Nat) (s : State) : kept (discardPair e r s) = kept s := by
  unfold discardPair; split <;> simp

@[simp] theorem kept_entryLost (s : State) : kept (entryLost s) = kept s := by simp [entryLost]
@[simp] theorem kept_entryUp (s : State) : kept (entryUp s) = kept s := by unfold entryUp; split <;> simp
@[simp] theorem kept_exitLost (s : State) : kept (exitLost s) = kept s := kept_putGate rfl rfl
@[simp] theorem kept_exitUp (s : State) : kept (exitUp s) = kept s := kept_putGate rfl rfl
@[simp] theorem kept_gateStopping (s : State) : kept (gateStopping s) = kept s := by
  unfold gateStopping; split <;> simp
@[simp] theorem kept_addRecent (ts : List Tag) (ps : List Plate) (n : Option Count) (s : State) :
    kept (addRecent ts ps n s) = kept s := kept_putGate rfl rfl
@[simp] theorem kept_addUnmatched (x : Sighting) (s : State) : kept (addUnmatched x s) = kept s := by
  simp [addUnmatched]
@[simp] theorem kept_exitUnmatched (x : Sighting) (r f : Nat) (s : State) :
    kept (exitUnmatched x r f s) = kept s := by simp [exitUnmatched]

/-! ### Closings, the page taken, the pause -/

@[simp] theorem kept_closeVisit {slot : Slot} {t : TallyUnit} {s : State} (hi : t.invoice = s.tally.invoice)
    (hp : t.poolPosted = s.tally.poolPosted) : kept (closeVisit slot t s) = kept s := by
  unfold closeVisit; split
  · exact kept_setTally hi hp
  · dsimp only; split <;> simp [hi, hp]

@[simp] theorem kept_composeClosings (l : List Slot) (s : State) : kept (composeClosings l s) = kept s := by
  induction l generalizing s with
  | nil => rfl
  | cons a l ih =>
    unfold composeClosings; split
    · rfl
    · simp [ih]

@[simp] theorem kept_serveClosings (s : State) : kept (serveClosings s) = kept s := by simp [serveClosings]

@[simp] theorem kept_takeClosing (slot : Slot) (s : State) : kept (takeClosing slot s) = kept s := by
  unfold takeClosing; split
  · exact kept_setTally rfl rfl
  · exact kept_closeVisit rfl rfl

@[simp] theorem kept_handClosing (slot : Slot) (s : State) : kept (handClosing slot s) = kept s := by
  unfold handClosing; split
  · exact kept_reach rfl
  · simp

@[simp] theorem kept_enterClosing (slot : Slot) (v : Visit) (o : Option Outcome) (s : State) :
    kept (enterClosing slot v o s) = kept s := by simp [enterClosing]

@[simp] theorem kept_closeAtExit (slot : Slot) (v : Visit) (o : Option Outcome) (s : State) :
    kept (closeAtExit slot v o s) = kept s := by simp [closeAtExit]

@[simp] theorem kept_exitMismatch (slot : Slot) (v : Visit) (s : State) : kept (exitMismatch slot v s) = kept s := by
  simp [exitMismatch]

@[simp] theorem kept_exitAction (slot : Slot) (v : Visit) (s : State) : kept (exitAction slot v s) = kept s := by
  unfold exitAction; dsimp only; split <;> simp

@[simp] theorem kept_matchExit (x : Sighting) (s : State) : kept (matchExit x s) = kept s := by
  unfold matchExit; split
  · simp
  · split <;> simp
  · simp

@[simp] theorem kept_exitSighting (x : Sighting) (s : State) : kept (exitSighting x s) = kept s := by
  unfold exitSighting; split
  · rfl
  · split <;> simp

@[simp] theorem kept_pauseCheck (s : State) : kept (pauseCheck s) = kept s := by
  unfold pauseCheck; dsimp only; split
  · split
    · rfl
    · simp
  · split
    · split
      · simp
      · simp
    · rfl

@[simp] theorem kept_takePage (a : Nat) (h : Word) (s : State) : kept (takePage a h s) = kept s := by
  unfold takePage; dsimp only
  simp

@[simp] theorem kept_poolEntryInvalid (r : Nat) (p : Count) (a : Nat) (s : State) :
    kept (poolEntryInvalid r p a s) = kept s := by simp [poolEntryInvalid]

@[simp] theorem kept_judgePoolEntry (l : List Byte) (s : State) : kept (judgePoolEntry l s) = kept s := by
  unfold judgePoolEntry; dsimp only
  split
  · simp
  · split
    · simp
    · simp

/-! ### Water (chapter 7) -/

@[simp] theorem kept_issueGrant (b : BayId) (src : Source) (l : Nat) (r : Bool) (s : State) :
    kept (issueGrant b src l r s) = kept s := by
  unfold issueGrant; cases src <;> dsimp only <;> split <;> simp

@[simp] theorem kept_refuseWater (b : BayId) (l : Nat) (s : State) : kept (refuseWater b l s) = kept s := by
  unfold refuseWater; split
  · rfl
  · simp

@[simp] theorem kept_joinWaitList (e : WaitEntry) (s : State) : kept (joinWaitList e s) = kept s :=
  kept_setWater rfl rfl rfl rfl
@[simp] theorem kept_withdraw (b : BayId) (s : State) : kept (withdraw b s) = kept s :=
  kept_setWater rfl rfl rfl rfl

@[simp] theorem kept_removeGrant (b : BayId) (g : Grant) (n : Nat) (s : State) :
    kept (removeGrant b g n s) = kept s := by
  unfold removeGrant; dsimp only
  rw [kept_postChangedLines, kept_setGrant]
  split
  · simp
  · exact kept_withWater rfl rfl rfl rfl
  · rfl

@[simp] theorem kept_joinPump (k : TankId) (kind : PumpKind) (s : State) : kept (joinPump k kind s) = kept s := by
  simp [joinPump]

@[simp] theorem kept_sendPump (r : PumpReq) (s : State) : kept (sendPump r s) = kept s := by
  simp [sendPump]

@[simp] theorem kept_pumpLook (s : State) : kept (pumpLook s) = kept s := by
  unfold pumpLook; split
  · split <;> simp
  · rfl

/-! ### Sessions (chapter 6) -/

@[simp] theorem kept_arbiterIfFree (b : BayId) (s : State) : kept (arbiterIfFree b s) = kept s := by
  unfold arbiterIfFree; split <;> simp

@[simp] theorem kept_endSession (b : BayId) (a : Option AbortReason) (s : State) :
    kept (endSession b a s) = kept s := by
  unfold endSession; split
  · rfl
  · dsimp only; rw [kept_arbiterIfFree]
    split <;> split <;> simp

@[simp] theorem kept_runPart (b : BayId) (r : StageRun) (p : Part) (s : State) :
    kept (runPart b r p s) = kept s := by simp [runPart]

@[simp] theorem kept_askWater (b : BayId) (x : Session) (r : StageRun) (s : State) :
    kept (askWater b x r s) = kept s := by
  unfold askWater; dsimp only; split <;> simp

@[simp] theorem kept_startPart (b : BayId) (s : State) : kept (startPart b s) = kept s := by
  unfold startPart; split
  · rfl
  · split
    · simp
    · split
      · rfl
      · split <;> simp

@[simp] theorem kept_startSession (b : BayId) (slot : Slot) (v : Visit) (s : State) :
    kept (startSession b slot v s) = kept s := by
  unfold startSession; dsimp only; split <;> simp

@[simp] theorem kept_stopPart (b : BayId) (s : State) : kept (stopPart b s) = kept s := by simp [stopPart]

@[simp] theorem kept_abortBay (b : BayId) (r : AbortReason) (s : State) : kept (abortBay b r s) = kept s := by
  unfold abortBay; split <;> simp

@[simp] theorem kept_bayFallback (b : BayId) (s : State) : kept (bayFallback b s) = kept s := by
  unfold bayFallback; split <;> first | rfl | simp
  split <;> simp

/-! ### Supply -/

@[simp] theorem kept_takeRetried (b : BayId) (s : State) : kept (takeRetried b s) = kept s := by
  unfold takeRetried; split
  · rfl
  · split
    · split <;> simp
    · simp

@[simp] theorem kept_retryEntry (e : WaitEntry) (s : State) : kept (retryEntry e s) = kept s := by
  unfold retryEntry; split <;> simp

@[simp] theorem kept_retryEntries (l : List WaitEntry) (s : State) : kept (retryEntries l s) = kept s := by
  induction l generalizing s with
  | nil => rfl
  | cons e l ih => simp [retryEntries, ih]

@[simp] theorem kept_retry (s : State) : kept (retry s) = kept s := by simp [retry]

@[simp] theorem kept_bayRevoked (b : BayId) (s : State) : kept (bayRevoked b s) = kept s := by
  unfold bayRevoked; dsimp only; split <;> simp

@[simp] theorem kept_revokeGrant (b : BayId) (g : Grant) (k : TankId) (r : Nat) (s : State) :
    kept (revokeGrant b g k r s) = kept s := by simp [revokeGrant]

@[simp] theorem kept_revokeEach (k : TankId) (all : Bool) (r : Nat) (bs : List BayId) (s : State) :
    kept (revokeEach k all r bs s) = kept s := by
  induction bs generalizing s with
  | nil => rfl
  | cons b bs ih =>
    unfold revokeEach; split
    · split <;> simp [ih]
    · rfl

@[simp] theorem kept_meetShortfall (k : TankId) (s : State) : kept (meetShortfall k s) = kept s := by
  unfold meetShortfall; split <;> simp

@[simp] theorem kept_revokeAll (k : TankId) (s : State) : kept (revokeAll k s) = kept s := by
  unfold revokeAll; split <;> simp

@[simp] theorem kept_reportMeter (b : BayId) (n x : Nat) (s : State) : kept (reportMeter b n x s) = kept s := by
  unfold reportMeter; split
  · rfl
  · dsimp only; split <;> simp

@[simp] theorem kept_settleGrant (b : BayId) (n t : Nat) (s : State) : kept (settleGrant b n t s) = kept s := by
  unfold settleGrant; split <;> simp

@[simp] theorem kept_meterInvalid (b : BayId) (r x y : Nat) (s : State) : kept (meterInvalid b r x y s) = kept s := by
  simp [meterInvalid]

@[simp] theorem kept_dryMeter (b : BayId) (p : Part) (l : Nat) (s : State) : kept (dryMeter b p l s) = kept s := by
  unfold dryMeter; dsimp only; split <;> simp

@[simp] theorem kept_applyMeter (b : BayId) (l : Nat) (s : State) : kept (applyMeter b l s) = kept s := by
  unfold applyMeter; split
  · rfl
  · split
    · split <;> simp
    · split <;> simp

@[simp] theorem kept_handSettlement (b : BayId) (p : Part) (s : State) : kept (handSettlement b p s) = kept s := by
  unfold handSettlement; split <;> simp

@[simp] theorem kept_afterSettling (b : BayId) (s : State) : kept (afterSettling b s) = kept s := by
  unfold afterSettling; split
  · rfl
  · split
    · split
      · simp
      · split <;> simp
    · split <;> simp

@[simp] theorem kept_settlePart (b : BayId) (x : Bool) (s : State) : kept (settlePart b x s) = kept s := by
  unfold settlePart; split <;> simp

@[simp] theorem kept_stationStopped (b : BayId) (s : State) : kept (stationStopped b s) = kept s := by
  unfold stationStopped; split <;> simp

@[simp] theorem kept_finalInRunning (b : BayId) (l : Nat) (c : Bool) (s : State) :
    kept (finalInRunning b l c s) = kept s := by
  unfold finalInRunning; dsimp only; split <;> simp

@[simp] theorem kept_meterUnexpected (b : BayId) (s : State) : kept (meterUnexpected b s) = kept s := by
  simp [meterUnexpected]

@[simp] theorem kept_meterFrame (b : BayId) (bs : List Byte) (s : State) : kept (meterFrame b bs s) = kept s := by
  unfold meterFrame; dsimp only; repeat' split
  all_goals simp

@[simp] theorem kept_portLostPart (b : BayId) (s : State) : kept (portLostPart b s) = kept s := by
  unfold portLostPart; split <;> simp

@[simp] theorem kept_portLostCall (b : BayId) (s : State) : kept (portLostCall b s) = kept s := by
  unfold portLostCall; dsimp only; split <;> simp

@[simp] theorem kept_bayLost (b : BayId) (s : State) : kept (bayLost b s) = kept s := by
  unfold bayLost; dsimp only; split <;> simp

@[simp] theorem kept_bayUp (b : BayId) (s : State) : kept (bayUp b s) = kept s := by simp [bayUp]

@[simp] theorem kept_failRun (c : Nat) (s : State) : kept (failRun c s) = kept s := by
  unfold failRun; split
  · rfl
  · dsimp only; simp only [kept_pumpLook, kept_retry, kept_notify, kept_joinPump, kept_setTankWith]
    exact kept_setWater rfl rfl rfl rfl

@[simp] theorem kept_finishRun (r : PumpReq) (s : State) : kept (finishRun r s) = kept s := by
  unfold finishRun; dsimp only; simp only [kept_pumpLook, kept_retry, kept_setTankWith]
  exact kept_setWater rfl rfl rfl rfl

@[simp] theorem kept_tankLost (k : TankId) (s : State) : kept (tankLost k s) = kept s := by
  unfold tankLost; split <;> simp

@[simp] theorem kept_plantLost (s : State) : kept (plantLost s) = kept s := by
  unfold plantLost
  rw [kept_failRun]
  generalize allTanks = l
  induction l generalizing s with
  | nil => rfl
  | cons k l ih => rw [List.foldl_cons, ih, kept_tankLost]

@[simp] theorem kept_plantUp (s : State) : kept (plantUp s) = kept s := by simp [plantUp]

/-! ### The end of an event -/

@[simp] theorem kept_roleLost (p : PortId) (s : State) : kept (roleLost p s) = kept s := by
  unfold roleLost; repeat' split
  all_goals simp

@[simp] theorem kept_roleUp (p : PortId) (s : State) : kept (roleUp p s) = kept s := by
  unfold roleUp; repeat' split
  all_goals simp

@[simp] theorem kept_settlePorts (n : Nat) (ups : List PortId) (s : State) :
    kept (settlePorts n ups s) = kept s := by
  induction n generalizing ups s with
  | zero => rfl
  | succ n ih => unfold settlePorts; split <;> simp [ih]

@[simp] theorem kept_settleLost (ups : List PortId) (s : State) : kept (settleLost ups s) = kept s := by
  unfold settleLost; split <;> simp

/-- The end of an event's own effect leaves `kept` alone. -/
@[simp] theorem kept_tidy (a b : State) : kept (tidy a b) = kept b := by simp [tidy]

/-- A wind-down test that is not met does nothing. -/
theorem windDownOwn_eq_self {s : State} (h : windDownMet s = false) : windDownOwn s = s := by simp [windDownOwn, h]
theorem windDown_eq_self {s : State} (h : windDownMet s = false) : windDown s = s := by
  simp [windDown, windDownOwn_eq_self h, h]

/-- Outside STOPPING it is not met. -/
theorem windDownMet_eq_false {s : State} (h : s.exch.part ≠ .stopping) : windDownMet s = false := by
  simp [windDownMet, h]

/-- A test that must wait for the Exchange Unit leaves `kept` alone. -/
theorem kept_windDown_of_busy {s : State} (h : busy .exchange s = true) : kept (windDown s) = kept s := by
  unfold windDown
  split
  · split
    · rfl
    · exact kept_reach rfl
  · rename_i hm
    rw [windDownOwn_eq_self (by simpa [h] using hm)]

/-- The part state read from `kept`. -/
theorem part_of_kept {s t : State} (h : kept s = kept t) : s.exch.part = t.exch.part :=
  congrArg (fun k => k.exch.part) h

/-- Outside STOPPING the end of an event leaves `kept` alone. -/
theorem kept_conclude {a b : State} (h : b.exch.part ≠ .stopping) : kept (conclude a b) = kept b := by
  unfold conclude
  rw [windDown_eq_self (windDownMet_eq_false (by rw [part_of_kept (kept_tidy a b)]; exact h)), kept_tidy]

end Sys2Proof.Machine
end

