-- ==== Sys2Proof/Laws/Memory.lean ====
section
/-! SUPPORT. Memory: what one write does to one read, and that every memory operation keeps the canonical form. -/

namespace Sys2Proof.Machine

theorem Memory.wfFrom_mono {lo lo' : Nat} {m : Memory} (h : Memory.wfFrom lo m = true) (hle : lo' ≤ lo) :
    Memory.wfFrom lo' m = true := by
  cases m with
  | nil => rfl
  | cons c m =>
    obtain ⟨a, b⟩ := c
    simp only [Memory.wfFrom, Bool.and_eq_true, decide_eq_true_eq] at h ⊢
    exact ⟨⟨le_trans hle h.1.1, h.1.2⟩, h.2⟩

/-- An address below every listed one reads as blank. -/
theorem Memory.read_below {lo a : Nat} {m : Memory} (h : Memory.wfFrom lo m = true) (ha : a < lo) :
    Memory.read m a = Memory.blank := by
  induction m generalizing lo with
  | nil => rfl
  | cons c m ih =>
    obtain ⟨a', b⟩ := c
    simp only [Memory.wfFrom, Bool.and_eq_true, decide_eq_true_eq] at h
    have hne : ¬ a' = a := by omega
    simp only [Memory.read, if_neg hne]
    exact ih h.2 (by omega)

theorem Memory.wfFrom_write {lo a : Nat} {b : Byte} {m : Memory} (h : Memory.wfFrom lo m = true) (ha : lo ≤ a) :
    Memory.wfFrom lo (Memory.write m a b) = true := by
  induction m generalizing lo with
  | nil =>
    by_cases hb : b = Memory.blank <;> simp [Memory.write, hb, Memory.wfFrom, ha]
  | cons c m ih =>
    obtain ⟨a', b'⟩ := c
    have h0 := h
    simp only [Memory.wfFrom, Bool.and_eq_true, decide_eq_true_eq] at h
    unfold Memory.write
    split
    · by_cases hb : b = Memory.blank
      · simpa [hb] using h0
      · have hlt : a + 1 ≤ a' := by omega
        simp [hb, Memory.wfFrom, ha, hlt, h.1.2, h.2]
    · split
      · rename_i h1 h2
        subst h2
        by_cases hb : b = Memory.blank
        · simpa [hb] using Memory.wfFrom_mono h.2 (by omega)
        · simp [hb, Memory.wfFrom, ha, h.2]
      · have := ih (lo := a' + 1) h.2 (by omega)
        simp only [Memory.wfFrom, Bool.and_eq_true, decide_eq_true_eq]
        exact ⟨h.1, this⟩

/-- One write keeps the canonical form. -/
theorem Memory.wf_write {m : Memory} (a : Nat) (b : Byte) (h : Memory.wf m = true) :
    Memory.wf (Memory.write m a b) = true := Memory.wfFrom_write h (Nat.zero_le a)

theorem Memory.wf_writeBytes {m : Memory} (a : Nat) (bs : List Byte) (h : Memory.wf m = true) :
    Memory.wf (Memory.writeBytes m a bs) = true := by
  induction bs generalizing m a with
  | nil => exact h
  | cons b bs ih => exact ih (a + 1) (Memory.wf_write a b h)

theorem Memory.wf_writeMasked {m : Memory} (a : Nat) (bs : List (Option Byte)) (h : Memory.wf m = true) :
    Memory.wf (Memory.writeMasked m a bs) = true := by
  induction bs generalizing m a with
  | nil => exact h
  | cons b bs ih =>
    cases b with
    | none => exact ih (a + 1) h
    | some b => exact ih (a + 1) (Memory.wf_write a b h)

/-- Reading the address just written gives the byte written. -/
theorem Memory.read_write_same {m : Memory} (a : Nat) (b : Byte) (h : Memory.wf m = true) :
    Memory.read (Memory.write m a b) a = b := by
  unfold Memory.wf at h
  generalize 0 = lo at h
  induction m generalizing lo with
  | nil =>
    by_cases hb : b = Memory.blank <;> simp [Memory.write, hb, Memory.read]
  | cons c m ih =>
    obtain ⟨a', b'⟩ := c
    have h0 := h
    simp only [Memory.wfFrom, Bool.and_eq_true, decide_eq_true_eq] at h
    unfold Memory.write
    split
    · rename_i h1
      by_cases hb : b = Memory.blank
      · have hr := Memory.read_below (a := a) h.2 (by omega)
        have hne : ¬ a' = a := by omega
        simp [hb, Memory.read, hne, hr]
      · simp [hb, Memory.read]
    · split
      · rename_i h1 h2
        subst h2
        by_cases hb : b = Memory.blank
        · simp [hb, Memory.read_below (a := a) h.2 (by omega)]
        · simp [hb, Memory.read]
      · rename_i h1 h2
        have hne : ¬ a' = a := fun e => h2 e.symm
        simp only [Memory.read, if_neg hne]
        exact ih _ h.2

/-- Reading any other address gives what it gave before. -/
theorem Memory.read_write_other {m : Memory} {a c : Nat} (b : Byte) (hne : c ≠ a) :
    Memory.read (Memory.write m a b) c = Memory.read m c := by
  induction m with
  | nil =>
    by_cases hb : b = Memory.blank <;> simp [Memory.write, hb, Memory.read, Ne.symm hne]
  | cons x m ih =>
    obtain ⟨a', b'⟩ := x
    unfold Memory.write
    split
    · by_cases hb : b = Memory.blank <;> simp [hb, Memory.read, Ne.symm hne]
    · split
      · rename_i h1 h2
        subst h2
        by_cases hb : b = Memory.blank <;> simp [hb, Memory.read, Ne.symm hne]
      · simp only [Memory.read]
        split
        · rfl
        · exact ih

/-- Bytes outside a run of written bytes read as before. -/
theorem Memory.read_writeBytes_outside {m : Memory} {a c : Nat} (bs : List Byte)
    (h : c < a ∨ a + bs.length ≤ c) : Memory.read (Memory.writeBytes m a bs) c = Memory.read m c := by
  induction bs generalizing m a with
  | nil => rfl
  | cons b bs ih =>
    have hlen : (b :: bs).length = bs.length + 1 := rfl
    rw [hlen] at h
    have h1 : c < a + 1 ∨ a + 1 + bs.length ≤ c := by omega
    rw [Memory.writeBytes, ih h1]
    exact Memory.read_write_other b (by omega)

/-- Bytes outside a masked write read as before. -/
theorem Memory.read_writeMasked_outside {m : Memory} {a c : Nat} (bs : List (Option Byte))
    (h : c < a ∨ a + bs.length ≤ c) : Memory.read (Memory.writeMasked m a bs) c = Memory.read m c := by
  induction bs generalizing m a with
  | nil => rfl
  | cons b bs ih =>
    have hlen : (b :: bs).length = bs.length + 1 := rfl
    rw [hlen] at h
    have h1 : c < a + 1 ∨ a + 1 + bs.length ≤ c := by omega
    cases b with
    | none => exact ih h1
    | some b =>
      rw [Memory.writeMasked, ih h1]
      exact Memory.read_write_other b (by omega)

end Sys2Proof.Machine
end

