-- ==== Sys2Proof/Laws/PerInstr.lean ====
section
/-! SUPPORT. What WellFormed says of each command: every frame it carries has a payload that its length byte counts, and every
host transaction is one aligned word or line with a mask bit a byte (R1, R183). -/

set_option Elab.async false

namespace Sys2Proof.Laws.WellFormed

/-- The frames a command carries. -/
def frames : Instr → List Frame
  | .badFrame _ f => [f]
  | .goodFrameArrival _ f => [f]
  | .status _ f => [f]
  | _ => []

/-- The host transaction a command carries: its span, its address, and the bytes of a write. -/
def transactions : Instr → List (Span × Word × Option (List (Option Byte)))
  | .hostRead span addr => [(span, addr, none)]
  | .hostWrite span addr bytes => [(span, addr, some bytes)]
  | _ => []

/-- A command is well-formed exactly when what it carries is. -/
def Statement (i : Instr) : Prop :=
  i.wellFormed = true ↔
    (∀ f ∈ frames i, f.payload.length ≤ 255) ∧
    (∀ t ∈ transactions i, t.2.1.toNat % t.1.size = 0 ∧ ∀ bytes, t.2.2 = some bytes → bytes.length = t.1.size)

theorem hostRead (span : Span) (addr : Word) : Statement (.hostRead span addr) := by
  simp [Statement, frames, transactions, Instr.wellFormed, Span.aligned]

theorem hostWrite (span : Span) (addr : Word) (bytes : List (Option Byte)) :
    Statement (.hostWrite span addr bytes) := by
  simp [Statement, frames, transactions, Instr.wellFormed, Span.aligned]

theorem memoryPortFree : Statement .memoryPortFree := by
  simp [Statement, frames, transactions, Instr.wellFormed]
theorem startValue : Statement .startValue := by
  simp [Statement, frames, transactions, Instr.wellFormed]
theorem stopValue : Statement .stopValue := by
  simp [Statement, frames, transactions, Instr.wellFormed]
theorem hostHalfRead : Statement .hostHalfRead := by
  simp [Statement, frames, transactions, Instr.wellFormed]
theorem tableRead : Statement .tableRead := by
  simp [Statement, frames, transactions, Instr.wellFormed]
theorem balanceRead : Statement .balanceRead := by
  simp [Statement, frames, transactions, Instr.wellFormed]
theorem orderPost : Statement .orderPost := by
  simp [Statement, frames, transactions, Instr.wellFormed]
theorem unknownOrderKind : Statement .unknownOrderKind := by
  simp [Statement, frames, transactions, Instr.wellFormed]
theorem noticeTaken : Statement .noticeTaken := by
  simp [Statement, frames, transactions, Instr.wellFormed]
theorem poolPost : Statement .poolPost := by
  simp [Statement, frames, transactions, Instr.wellFormed]
theorem serviceFirstKey : Statement .serviceFirstKey := by
  simp [Statement, frames, transactions, Instr.wellFormed]
theorem serviceSecondKey : Statement .serviceSecondKey := by
  simp [Statement, frames, transactions, Instr.wellFormed]
theorem serviceWrongValue : Statement .serviceWrongValue := by
  simp [Statement, frames, transactions, Instr.wellFormed]
theorem openFirstKey : Statement .openFirstKey := by
  simp [Statement, frames, transactions, Instr.wellFormed]
theorem openSecondKey : Statement .openSecondKey := by
  simp [Statement, frames, transactions, Instr.wellFormed]
theorem closeKey : Statement .closeKey := by
  simp [Statement, frames, transactions, Instr.wellFormed]
theorem wrongEditKey : Statement .wrongEditKey := by
  simp [Statement, frames, transactions, Instr.wellFormed]
theorem commit : Statement .commit := by
  simp [Statement, frames, transactions, Instr.wellFormed]
theorem commitReadback : Statement .commitReadback := by
  simp [Statement, frames, transactions, Instr.wellFormed]
theorem resetInput : Statement .resetInput := by
  simp [Statement, frames, transactions, Instr.wellFormed]
theorem badFrame (port : PortId) (frame : Frame) : Statement (.badFrame port frame) := by
  simp [Statement, frames, transactions, Instr.wellFormed, Frame.wellFormed, Nat.lt_succ_iff]

theorem goodFrameArrival (port : PortId) (frame : Frame) : Statement (.goodFrameArrival port frame) := by
  simp [Statement, frames, transactions, Instr.wellFormed, Frame.wellFormed, Nat.lt_succ_iff]

theorem status (port : PortId) (frame : Frame) : Statement (.status port frame) := by
  simp [Statement, frames, transactions, Instr.wellFormed, Frame.wellFormed, Nat.lt_succ_iff]

theorem linkFree (port : PortId) : Statement (.linkFree port) := by
  simp [Statement, frames, transactions, Instr.wellFormed]
theorem linkTimer (port : PortId) : Statement (.linkTimer port) := by
  simp [Statement, frames, transactions, Instr.wellFormed]
theorem sightTag (gate : Gate) : Statement (.sightTag gate) := by
  simp [Statement, frames, transactions, Instr.wellFormed]
theorem sightPlate (gate : Gate) : Statement (.sightPlate gate) := by
  simp [Statement, frames, transactions, Instr.wellFormed]
theorem pairingTimer : Statement .pairingTimer := by
  simp [Statement, frames, transactions, Instr.wellFormed]
theorem recentExitExpiry : Statement .recentExitExpiry := by
  simp [Statement, frames, transactions, Instr.wellFormed]
theorem admitVisit : Statement .admitVisit := by
  simp [Statement, frames, transactions, Instr.wellFormed]
theorem turnAway : Statement .turnAway := by
  simp [Statement, frames, transactions, Instr.wellFormed]
theorem setProgramme : Statement .setProgramme := by
  simp [Statement, frames, transactions, Instr.wellFormed]
theorem cancelVisit : Statement .cancelVisit := by
  simp [Statement, frames, transactions, Instr.wellFormed]
theorem callTimer (slot : Slot) : Statement (.callTimer slot) := by
  simp [Statement, frames, transactions, Instr.wellFormed]
theorem presence (bay : BayId) : Statement (.presence bay) := by
  simp [Statement, frames, transactions, Instr.wellFormed]
theorem bayTag (bay : BayId) : Statement (.bayTag bay) := by
  simp [Statement, frames, transactions, Instr.wellFormed]
theorem meter (bay : BayId) : Statement (.meter bay) := by
  simp [Statement, frames, transactions, Instr.wellFormed]
theorem stageTimer (bay : BayId) : Statement (.stageTimer bay) := by
  simp [Statement, frames, transactions, Instr.wellFormed]
theorem abortSession : Statement .abortSession := by
  simp [Statement, frames, transactions, Instr.wellFormed]
theorem holdBay : Statement .holdBay := by
  simp [Statement, frames, transactions, Instr.wellFormed]
theorem openBay : Statement .openBay := by
  simp [Statement, frames, transactions, Instr.wellFormed]
theorem level : Statement .level := by
  simp [Statement, frames, transactions, Instr.wellFormed]
theorem sample : Statement .sample := by
  simp [Statement, frames, transactions, Instr.wellFormed]
theorem calibrate : Statement .calibrate := by
  simp [Statement, frames, transactions, Instr.wellFormed]
theorem pumpDone : Statement .pumpDone := by
  simp [Statement, frames, transactions, Instr.wellFormed]
theorem pumpTimer : Statement .pumpTimer := by
  simp [Statement, frames, transactions, Instr.wellFormed]
theorem circulationDue (tank : TankId) : Statement (.circulationDue tank) := by
  simp [Statement, frames, transactions, Instr.wellFormed]
theorem tankStale (tank : TankId) : Statement (.tankStale tank) := by
  simp [Statement, frames, transactions, Instr.wellFormed]
theorem payment : Statement .payment := by
  simp [Statement, frames, transactions, Instr.wellFormed]
theorem closePeriod : Statement .closePeriod := by
  simp [Statement, frames, transactions, Instr.wellFormed]
theorem stopAccount : Statement .stopAccount := by
  simp [Statement, frames, transactions, Instr.wellFormed]
theorem resumeAccount : Statement .resumeAccount := by
  simp [Statement, frames, transactions, Instr.wellFormed]
theorem poolEntryRead : Statement .poolEntryRead := by
  simp [Statement, frames, transactions, Instr.wellFormed]
theorem cutPage : Statement .cutPage := by
  simp [Statement, frames, transactions, Instr.wellFormed]
theorem depotSecondBoundary : Statement .depotSecondBoundary := by
  simp [Statement, frames, transactions, Instr.wellFormed]
theorem setClock : Statement .setClock := by
  simp [Statement, frames, transactions, Instr.wellFormed]
theorem monitorCountdown : Statement .monitorCountdown := by
  simp [Statement, frames, transactions, Instr.wellFormed]
theorem lifetimeTimer : Statement .lifetimeTimer := by
  simp [Statement, frames, transactions, Instr.wellFormed]
theorem lockoutTimer : Statement .lockoutTimer := by
  simp [Statement, frames, transactions, Instr.wellFormed]
theorem resetPort : Statement .resetPort := by
  simp [Statement, frames, transactions, Instr.wellFormed]

end Sys2Proof.Laws.WellFormed
end

