-- ==== Sys2Proof/Laws/Placements.lean ====
section
/-! SUPPORT. The placements that the shared operations issue, in the order they reach memory (R14, R15): a request adds its
own at the end, a refresh none. -/

namespace Sys2Proof.Machine

/-- Only the queue and what is held show placements. -/
theorem placements_congr {s t : State} (hq : t.path.queue = s.path.queue) (hh : t.path.held = s.path.held) :
    placements t = placements s := by simp [placements, hq, hh]

/-- A refresh merged into the queue leaves its placements. -/
theorem filterMap_mergeRefresh {r : Rec} {new : Request} (h : new.placed = none) :
    ∀ {l l' : List Request}, mergeRefresh r new l = some l' → l'.filterMap Request.placed = l.filterMap Request.placed
  | q :: rest, l', hm => by
    unfold mergeRefresh at hm
    split at hm
    · next rest' hr =>
      cases hm
      simp [List.filterMap_cons, filterMap_mergeRefresh h hr]
    · split at hm
      · next hc =>
        cases hm
        have hq : q.placed = none := by
          cases q <;> simp_all [Request.refreshes, Request.placed]
        simp [h, hq]
      · cases hm

/-- The request an issue becomes has the issue's placement. -/
theorem placed_asRequest (i : Issue) (s : State) : (asRequest i s).placed = i.placed := by cases i <;> rfl

/-! ### Held refreshes that make way (R15; log 53) -/

/-- What a list holds once a request has been put behind a unit's placements. -/
theorem mem_behindPlacements {u : UnitId} {x b : Held} : ∀ {l}, b ∈ behindPlacements u x l → b = x ∨ b ∈ l
  | [], h => by simpa [behindPlacements] using h
  | y :: ys, h => by
    unfold behindPlacements at h; split at h
    · rcases List.mem_cons.1 h with rfl | h
      · exact Or.inr (List.mem_cons_self ..)
      · exact (mem_behindPlacements h).imp id (List.mem_cons_of_mem y)
    · exact List.mem_cons.1 h

theorem behindPlacements_perm (u : UnitId) (x : Held) : ∀ l, (behindPlacements u x l).Perm (x :: l)
  | [] => List.Perm.refl _
  | h :: hs => by
    unfold behindPlacements; split
    · exact ((behindPlacements_perm u x hs).cons h).trans (List.Perm.swap x h hs)
    · exact List.Perm.refl _

/-- Making way loses and adds nothing. -/
theorem giveWay_perm (u : UnitId) (r : Rec) : ∀ l, (giveWay u r l).Perm l
  | [] => List.Perm.refl _
  | h :: hs => by
    unfold giveWay; split
    · exact (behindPlacements_perm u h _).trans ((giveWay_perm u r hs).cons h)
    · exact (giveWay_perm u r hs).cons h

theorem filterMap_behindPlacements {β : Type} {f : Held → Option β} {u : UnitId} {x : Held} (hx : f x = none) :
    ∀ l, (behindPlacements u x l).filterMap f = l.filterMap f
  | [] => by simp [behindPlacements, hx]
  | h :: hs => by
    unfold behindPlacements; split
    · rw [List.filterMap_cons, List.filterMap_cons, filterMap_behindPlacements hx hs]
    · rw [List.filterMap_cons, hx]

/-- Making way leaves every other request held, in its order: what reads nothing from the record's refreshes reads the
same. -/
theorem filterMap_giveWay {β : Type} {f : Held → Option β} {u : UnitId} {r : Rec}
    (hf : ∀ h, h.issue = .refresh r → f h = none) : ∀ l, (giveWay u r l).filterMap f = l.filterMap f
  | [] => rfl
  | h :: hs => by
    unfold giveWay; split
    · next hc =>
      have hx := hf h (eq_of_beq hc)
      rw [filterMap_behindPlacements hx, filterMap_giveWay hf hs, List.filterMap_cons, hx]
    · rw [List.filterMap_cons, List.filterMap_cons, filterMap_giveWay hf hs]

/-- A unit that holds no placement makes no refresh give way. -/
theorem giveWay_of_none {u : UnitId} {r : Rec} : ∀ {l}, (∀ h ∈ l, Held.placedBy u h = false) → giveWay u r l = l
  | [], _ => rfl
  | h :: hs, hl => by
    have ih := giveWay_of_none (r := r) fun x hx => hl x (List.mem_cons_of_mem h hx)
    unfold giveWay; split
    · rw [ih]
      cases hs with
      | nil => rfl
      | cons y ys =>
        unfold behindPlacements
        rw [if_neg]
        rw [List.any_eq_true]
        rintro ⟨x, hx, hc⟩
        exact Bool.noConfusion ((hl x (List.mem_cons_of_mem h hx)).symm.trans hc)
    · rw [ih]

theorem behind_behindPlacements {u : UnitId} {r : Rec} {x : Held} (hx : x.issue = .refresh r) :
    ∀ {l}, l.Pairwise (fun a b => a.issue = .refresh r → Held.placedBy u b = false) →
      (behindPlacements u x l).Pairwise (fun a b => a.issue = .refresh r → Held.placedBy u b = false)
  | [], _ => by simp [behindPlacements]
  | h :: hs, hl => by
    obtain ⟨h1, h2⟩ := List.pairwise_cons.1 hl
    unfold behindPlacements; split
    · refine List.pairwise_cons.2 ⟨fun b hb hr => ?_, behind_behindPlacements hx h2⟩
      rcases mem_behindPlacements hb with rfl | hb
      · simp [Held.placedBy, hx, Issue.isPlacement]
      · exact h1 b hb hr
    · next hn =>
      refine List.pairwise_cons.2 ⟨fun b hb _ => ?_, hl⟩
      exact Bool.eq_false_iff.2 fun hc => hn (List.any_eq_true.2 ⟨b, hb, hc⟩)

/-- After making way none of the unit's placements stands behind a held refresh of the record (R15). -/
theorem giveWay_behind (u : UnitId) (r : Rec) :
    ∀ l, (giveWay u r l).Pairwise (fun a b => a.issue = .refresh r → Held.placedBy u b = false)
  | [] => List.Pairwise.nil
  | h :: hs => by
    unfold giveWay; split
    · next hc => exact behind_behindPlacements (eq_of_beq hc) (giveWay_behind u r hs)
    · next hc =>
      refine List.pairwise_cons.2 ⟨fun b _ hr => absurd ?_ hc, giveWay_behind u r hs⟩
      simp [hr]

/-- Making way leaves the placements, and their order. -/
@[simp] theorem placements_makeWay (u : UnitId) (r : Rec) (s : State) : placements (makeWay u r s) = placements s := by
  unfold placements makeWay
  rw [filterMap_giveWay (fun h hh => by rw [hh]; rfl)]

@[simp] theorem placements_tellOfLine (r : Rec) (a b : State) : placements (tellOfLine r a b) = placements b := by
  unfold tellOfLine; split <;> simp

/-- A request presented adds its placement at the end. -/
theorem placements_present (u : UnitId) (i : Issue) (s : State) :
    placements (present u i s) = placements s ++ i.placed.toList := by
  have merged : ∀ q, mergeInPlace i s = some q →
      q.filterMap Request.placed = s.path.queue.filterMap Request.placed ∧ i.placed = none := by
    intro q hq
    cases i with
    | refresh r => exact ⟨filterMap_mergeRefresh rfl hq, rfl⟩
    | read _ _ _ => cases hq
    | place _ _ => cases hq
  unfold present
  cases hp : presented i s with
  | none => cases hi : i.placed <;> simp [placements, hi]
  | some q =>
    unfold presented at hp
    split at hp
    · next hh =>
      have hh' : s.path.held = [] := List.isEmpty_iff.1 hh
      unfold joinQueue at hp
      cases hm : mergeInPlace i s with
      | some q' =>
        rw [hm] at hp; cases hp
        obtain ⟨h1, h2⟩ := merged _ hm
        simp [placements, h1, h2]
      | none =>
        rw [hm] at hp
        simp only [Option.none_or] at hp
        unfold appendIssue at hp
        split at hp
        · cases hp
          cases hi : i.placed <;> simp [placements, placed_asRequest, hh', hi]
        · cases hp
    · split at hp
      · cases hp
      · obtain ⟨h1, h2⟩ := merged _ hp
        simp [placements, h1, h2]

/-- A placement that a record tells of is added at the end. -/
@[simp] theorem placements_placeTold (u : UnitId) (r : Rec) (a : Nat) (bytes : List Byte) (s : State) :
    placements (placeTold u r a bytes s) = placements s ++ [(a, bytes)] :=
  (placements_makeWay u r _).trans (placements_present u _ s)

/-- A refresh adds no placement, whoever asks for it and whether or not it waits. -/
@[simp] theorem placements_post (r : Rec) (s : State) : placements (post r s) = placements s := by
  unfold post; split
  · rfl
  · simp [refreshNow, placements_present, Issue.placed]

@[simp] theorem placements_postChanged (k : Fin 64) (a b : State) :
    placements (postChanged k a b) = placements b := by
  unfold postChanged postLine; split
  · rfl
  · simp

@[simp] theorem placements_setTally (t : TallyUnit) (s : State) : placements (setTally t s) = placements s := by
  simp only [setTally, placements_postChanged]; rfl

@[simp] theorem placements_keepDropPos (n : Notice) (p : Option Count) (s : State) :
    placements (keepDropPos n p s) = placements s := by unfold keepDropPos; split <;> rfl

/-- A notice written adds at most its own placement, at the end: none where the ring is full. -/
theorem placements_writeNotice (n : Notice) (asked : Stamp) (s : State) :
    ∃ more, placements (writeNotice n asked s) = placements s ++ more := by
  unfold writeNotice
  split
  · refine ⟨[(s.path.bases.noticeRing + 16 * (s.exch.producer.toNat % Config.noticeEntries), n.bytes asked)], ?_⟩
    dsimp only
    rw [placements_present, placements_keepDropPos]
    exact (List.append_nil _).trans (placements_placeTold .exchange _ _ _ s)
  · split
    · exact ⟨[], (placements_keepDropPos _ _ _).trans ((placements_congr rfl rfl).trans (List.append_nil _).symm)⟩
    · exact ⟨[], by
        dsimp only
        rw [placements_present, placements_keepDropPos]
        exact congrArg (· ++ []) (placements_congr rfl rfl)⟩

/-- A notice asked for adds at most its own placement, at the end: none while the Exchange Unit is held. -/
theorem placements_notify (n : Notice) (s : State) : ∃ more, placements (notify n s) = placements s ++ more := by
  unfold notify askNotice
  split
  · split
    · exact ⟨[], (placements_congr rfl rfl).trans (List.append_nil _).symm⟩
    · exact placements_writeNotice n _ s
  · exact ⟨[], by simp⟩

/-- A search for a page issues a read. -/
@[simp] theorem placements_pageSearch (s : State) : placements (pageSearch s) = placements s := by
  unfold pageSearch; split
  · simp [placements_present, Issue.placed]; rfl
  · rfl

end Sys2Proof.Machine
end

