-- ==== Sys2Proof/Tests/Slice0.lean ====
section
/-! SUPPORT. Tests on small states: the checks of WellFormed, one next state per kind of command, and for every statement
with hypotheses a state and operands that meet them (`witness_<statement>`). -/

set_option Elab.async false

namespace Sys2Proof.Tests

open Sys2Proof.Machine

/-! ### Small states -/

def bases : Bases :=
  { orderRing := 0x200000, noticeRing := 0x210000, visitArea := 0x220000, balanceArea := 0x230000,
    vehicles := 0x240000, accounts := 0x300000, programmes := 0x310000, tariffs := 0x320000,
    poolRing := 0x330000, tally := 0x800000, tallyPages := 16 }

def latched : Latched :=
  { Latched.reset with
    baysFitted := 3, tanksFitted := 2, pairWindow := 6, plateThreshold := 70, callLimit := 120,
    linkTimeout := 60, holdMargin := 4, goLevel := 8, editLifetime := 120, periodCode := 3,
    action := .fallback, turnover := 60, pumpTimeout := 5, qualityLimit := 50, tolBase := 20, tolTemp := 5,
    tolAge := 2, tolCeiling := 150, freshAllowance := 10000, freshReserve := 500, secondDivider := 1000000,
    bays := Vector.replicate 8 { axleLimit := 3, mask := 7, pulses := 25 } }

def upPort : Port := { Port.reset with link := .up, timer := some 60 }

/-- RUNNING, nothing under way; ports 0 to 4 and 10 UP. -/
def calmState : State :=
  { State.reset with
    path := { PathUnit.reset with map := .full, bases := bases }
    exch := { ExchangeUnit.reset with part := .running }
    latched := latched
    ports := #v[upPort, upPort, upPort, upPort, upPort, Port.reset, Port.reset, Port.reset, Port.reset, Port.reset,
                upPort]
    water := { WaterUnit.reset with
      tanks := Vector.replicate 4 { Tank.reset with capacity := 20000, book := 5000, quality := .certified }
      calibrated := true }
    clock := { ClockUnit.reset with running := true, now := ⟨210, 7301⟩ } }

/-- The next state of a command; the state itself where it stops. -/
def ran (c : Instr) (s : State) : State :=
  match exec c s with
  | .next t => t
  | .fault _ => s
  | .refused _ => s

def inPart (part : PartState) (s : State) : State := { s with exch := { s.exch with part := part } }

/-- Events that have reached their units. -/
def withArrived (l : List Arrival) (s : State) : State := { s with path := { s.path with arrived := l } }

/-- An event that has waited. -/
def late (e : Event) : Arrival := { event := e, late := true }

def withHanded (h : Handed) (s : State) : State := withArrived [{ event := .value h, late := false }] s

def withReturned (tag : ReadTag) (bytes : List Byte) (s : State) : State :=
  withArrived [{ event := .read tag bytes, late := false }] s

def withPort (p : PortId) (x : Port) (s : State) : State := { s with ports := s.ports.set p x }

/-- One frame at the head of an UP port's inbound queue. -/
def withFrame (p : PortId) (kind : Byte) (payload : List Byte) (s : State) : State :=
  withPort p { upPort with inbound := [{ kind := kind, payload := payload }] } s

def withBay (b : BayId) (x : Bay) (s : State) : State := { s with bays := s.bays.set b x }

def withVisit (slot : Slot) (v : Visit) (s : State) : State :=
  { s with yard := { s.yard with slots := s.yard.slots.set slot (some v) } }

/-- The pending list full, the pause flag set. -/
def fullTally (s : State) : State := { s with tally := { s.tally with reservations := 16, pause := true } }

/-- An order entry: kind, three halfwords from offset 4, one from 10, 12 and 14, the word at 16. -/
def orderEntry (kind a b c d e f w : Nat) : List Byte :=
  le 4 kind ++ le 2 a ++ le 2 b ++ le 2 c ++ le 2 d ++ le 2 e ++ le 2 f ++ le 4 w ++ le 12 0

/-- An order read back and in execution. -/
def withOrder (entry : List Byte) (s : State) : State :=
  withReturned .order entry
    { s with exch := { s.exch with orderPosted := s.exch.orderTaken + 1, inExecution := true } }

def visit (state : VisitState) : Visit :=
  { serial := 7, state := state, reason := none, outcome := none, vehicle := none, account := none,
    programme := some 2, axles := some 3, tag := some 0x41A2C, plate := none, priority := false, bay := none,
    callCount := 0, entered := ⟨210, 7000⟩, admitted := none, summary := none, left := none, callTimer := none,
    basis := none, created := 0, admission := 0 }

def stage (kind : StageKind) (water : WaterClass) (flow duration : Nat) : Stage :=
  { kind := kind, water := water, flow := flow, duration := duration, rate := 6 }

def session : Session :=
  { slot := 5, serial := 7, programme := 2,
    stages := [{ stage := stage .brush .none 0 60, elapsed := 60, short := false, complete := false }],
    current := 0, part := none, completed := 0, fresh := 0, reclaim := 0, overrun := 0, detergent := 0,
    abort := none }

def frameOf (kind : Byte) (payload : List Byte) : Frame :=
  { kind := kind, payload := payload, check := frameCheck kind payload }

def vehicle : Vehicle :=
  { tag := 0x41A2C, plate := some [0x4B, 0x54, 0x34], account := 12, programme := 2, axles := 3, barred := false }

def account : Account := { haulier := [], tariff := 0, priority := false, limit := 500000 }

def dryProgramme : Programme := { stages := [stage .brush .none 0 60, stage .rinse .freshOnly 120 60] }

def tariff : Tariff :=
  { gateFee := 1500, prices := List.replicate 16 6000, axle := 400, fresh := 250, reclaim := 90, detergent := 35,
    unwashed := 2000, abortPercent := 50 }

/-- The committed entries: vehicle 118, account 12, programme 2, tariff 0. -/
def withTables (s : State) : State :=
  { s with
    table := { s.table with vehicles := [(118, vehicle)], accounts := [(12, account)],
                            programmes := [(2, dryProgramme)], tariffs := [(0, tariff)] }
    gate := { s.gate with tagMap := [(0x41A2C, 118)], plateMap := [([0x4B, 0x54, 0x34], 118)] } }

def tariffEntry (word : Nat) : List Byte := pad 124 (le 4 1500) ++ le 4 word

/-! ### WellFormed refuses what is no command -/

theorem refuses_misaligned_word_read : (Instr.hostRead .word 0x100002).wellFormed = false := by decide
theorem refuses_misaligned_line_read : (Instr.hostRead .line 0x100010).wellFormed = false := by decide
theorem refuses_misaligned_write :
    (Instr.hostWrite .word 0x100001 [some 0, some 0, some 0, some 0]).wellFormed = false := by decide
theorem refuses_short_write : (Instr.hostWrite .word 0x100000 [some 0, some 0, some 0]).wellFormed = false := by
  decide
theorem refuses_word_of_bytes_for_a_line :
    (Instr.hostWrite .line 0x100000 [some 0, some 0, some 0, some 0]).wellFormed = false := by decide
theorem refuses_long_bad_frame :
    (Instr.badFrame 2 { kind := 1, payload := List.replicate 256 0, check := 0 }).wellFormed = false := by
  decide +kernel
theorem refuses_long_good_frame :
    (Instr.goodFrameArrival 2 { kind := 1, payload := List.replicate 256 0, check := 0 }).wellFormed = false := by
  decide +kernel
theorem refuses_long_status :
    (Instr.status 2 { kind := 1, payload := List.replicate 256 0, check := 0 }).wellFormed = false := by
  decide +kernel
theorem accepts_the_longest_frame :
    (Instr.status 2 { kind := 1, payload := List.replicate 255 0, check := 0 }).wellFormed = true := by
  decide +kernel

/-! ### The command queue -/

theorem witness_StepRunsFrontCommand :
    (calmState.withPending [.memoryPortFree, .pairingTimer]).pending = .memoryPortFree :: [.pairingTimer] := rfl

/-- One period short of a depot second, and at one. -/
def beforeBoundary : State := { calmState with clock := { calmState.clock with divider := 999998 } }
def atBoundary : State := { calmState with clock := { calmState.clock with divider := 999999 } }

theorem witness_EmptyQueueIsOneReferencePeriod :
    (State.reset.pending = [] ∧ State.reset.clock.running = false) ∧
    (beforeBoundary.pending = [] ∧ beforeBoundary.clock.running = true ∧
      beforeBoundary.clock.divider + 1 < beforeBoundary.latched.secondDivider) ∧
    (atBoundary.pending = [] ∧ atBoundary.clock.running = true ∧
      atBoundary.latched.secondDivider ≤ atBoundary.clock.divider + 1) := by decide +kernel

theorem witness_CommandsAnswerAndKeepTheQueue :
    (exec .pairingTimer calmState = .next calmState) ∧ (Instr.hostRead .line 0x100020).wellFormed = true ∧
    Span.aligned .word 0x100002 = false ∧ Span.aligned .line 0x100010 = false ∧
    (Span.aligned .word 0x100004 = true ∧ [some (0 : Byte)].length ≠ Span.size .word) :=
  ⟨rfl, by decide +kernel⟩

/-! ### The memory path -/

/-- A word's bytes, all named. -/
def wordBytes (v : Nat) : List (Option Byte) := (le 4 v).map some

def loadingState : State := inPart .loading { State.reset with path := { PathUnit.reset with map := .provisional } }

theorem witness_HostTransactionsAreForwarded :
    (portIdle State.reset ∧ Span.aligned .word 0xFFFFFFFC = true) ∧
    (portIdle State.reset ∧ (Instr.hostWrite .word 0x100000 (wordBytes 5)).wellFormed = true ∧
      State.reset.exch.part = .dormant) ∧
    (portIdle (inPart .halted calmState) ∧ (inPart .halted calmState).exch.part = .halted) ∧
    (portIdle calmState ∧ (Instr.hostWrite .word 0x100014 (wordBytes 5)).wellFormed = true ∧
      supervised calmState = true ∧ dropOf 0x100014 calmState = none ∧ guardedEntry 0x100014 calmState = none) ∧
    (portIdle loadingState ∧ supervised loadingState = true ∧ dropOf 0x100000 loadingState = none ∧
      guardedEntry 0x100000 loadingState = none) := by decide +kernel

theorem witness_HostTransactionsAreForwarded_words :
    coverage 0x100004 0x100004 (wordBytes 0x61C30A5D) = .whole 0x61C30A5D ∧
    coverage 0x100008 0x100008 [some 0, none, none, none] = .partly ∧
    coverage 0x100008 0x100008 [none, none, none, none] = .untouched ∧
    coverage 0x100008 0x10000C (wordBytes 5) = .untouched ∧ coverage 0x10000C 0x100008 (wordBytes 5) = .untouched ∧
    (∀ u ∈ [TableId.vehicles, .tariffs], (0x4B3D0000 + BitVec.ofNat 32 u.code : Word) ≠ 0x2E910000 + BitVec.ofNat 32 u.code) ∧
    handsEdit (.whole 0x4B3D0005) = [.wrongKey] ∧ handsEdit (.whole 0x2E910004) = [.openSecond .tariffs] := by
  decide +kernel

theorem witness_DroppedWriteIsCounted :
    portIdle calmState ∧ (Instr.hostWrite .word 0x100800 (wordBytes 5)).wellFormed = true ∧
    supervised calmState = true ∧ dropOf 0x100800 calmState = some .statusHalf ∧
    dropOf 0x210FFC calmState = some .noticeRing ∧ dropOf 0x240000 calmState = some (.guarded .vehicles) := by
  decide +kernel

theorem witness_DroppedWriteIsCounted_unjudged :
    (∀ part ∈ [PartState.dormant, .halted], (inPart part calmState).exch.part = part ∧
      ∃ t, exec (.hostWrite .word 0x100800 (wordBytes 5)) (inPart part calmState) = .next t) := by
  intro part h
  refine ⟨rfl, ?_⟩
  simp only [List.mem_cons, List.not_mem_nil, or_false] at h
  rcases h with h | h <;> subst h <;> exact ⟨_, rfl⟩

/-- A WRITE_DROPPED position kept, before two notices not taken. -/
def withDropPos (p : Option Count) (s : State) : State :=
  let s1 := { s with path := { s.path with dropPos := p } }
  { s1 with exch := { s1.exch with taken := 2, producer := 4, attention := true } }

/-- The Exchange Unit holds a placement that found the queue full. -/
def exchangeHolding (s : State) : State :=
  { s with path := { s.path with
      queue := List.replicate 64 (.place 0x210000 [1]), held := [⟨.exchange, .place 0x210010 [2]⟩] } }

theorem witness_DroppedWriteIsCounted_notice :
    (dropOutstanding (withDropPos (some 2) calmState) = true ∧ dropOutstanding (withDropPos (some 1) calmState) = false ∧
      dropOutstanding (withDropPos none calmState) = false ∧
      accepted (withDropPos none calmState) = true ∧ portIdle (withDropPos (some 2) calmState) ∧
      busy .exchange (withDropPos (some 1) calmState) = false ∧ supervised (withDropPos (some 2) calmState) = true) ∧
    (portIdle loadingState ∧ accepted loadingState = false ∧ dropOf 0x100800 loadingState = some .statusHalf) ∧
    (portIdle (exchangeHolding calmState) ∧ accepted (exchangeHolding calmState) = true ∧
      dropOutstanding (exchangeHolding calmState) = false ∧ busy .exchange (exchangeHolding calmState) = true ∧
      dropOf 0x100800 (exchangeHolding calmState) = some .statusHalf) ∧
    (supervised (exchangeHolding calmState) = true ∧ guardedEntry 0x100800 (exchangeHolding calmState) = none) ∧
    (guardedEntry 0x100800 calmState = none ∧ placeOf .full bases 0x300000 = .guarded .accounts 0 ∧
      calmState.table.window ≠ .opened .accounts) :=
  ⟨by decide +kernel, by decide +kernel, by decide +kernel, by decide +kernel, by decide +kernel⟩

theorem witness_JudgementByPlace :
    (loadingState.path.map = .provisional ∧ within 0x1007FF Config.statusHalf Config.halfSize = false) ∧
    (calmState.path.map ≠ .clear ∧ within 0x100800 Config.statusHalf Config.halfSize = true ∧
      within 0x100FFF Config.statusHalf Config.halfSize = true) ∧
    (within 0x100000 Config.hostHalf Config.halfSize = true ∧
      within 0x1007FF Config.hostHalf Config.halfSize = true) ∧
    (calmState.path.map = .full ∧ placeInRegions bases 0x210FFF = .noticeRing ∧
      placeInRegions bases 0x220000 = .visitArea ∧ placeInRegions bases 0x230FFF = .balanceArea ∧
      placeInRegions bases 0x3300FF = .poolRing ∧ placeInRegions bases 0x330100 = .plain ∧
      placeInRegions bases 0x2007FF = .orderEntry 63 ∧ placeInRegions bases 0x80FFFF = .tallySpan ∧
      placeInRegions bases 0x810000 = .plain ∧ placeInRegions bases 0x25FFFF = .guarded .vehicles 4095 ∧
      placeInRegions bases 0x3203FF = .guarded .tariffs 7) := by decide +kernel

/-- The 67 fields of a host half that passes. -/
def goodFields : List Nat :=
  [3, 2, 20000, 20000, 0, 0, 6, 70, 120, 60, 4, 8, 120, 3, 2, 60, 5, 50, 20, 5, 2, 150, 2, 100, 15, 10000, 500,
   1000000, 210, 7301, 100, 1000, 3, 7, 25, 6, 0x3F, 25, 9, 0x24, 25, 0, 0, 0, 0, 0, 0, 0, 0, 0, 0, 0, 0, 0, 0, 0,
   0x200000, 0x210000, 0x220000, 0x230000, 0x240000, 0x300000, 0x310000, 0x320000, 0x330000, 0x800000, 16]

def copyOf (fields : List Nat) : List Byte := List.replicate 64 0 ++ fields.flatMap (le 4)
def goodCopy : List Byte := copyOf goodFields

theorem witness_WriteJudgedAsAWhole :
    (validate goodCopy = none ∧ 0x210FE0 / 32 = 0x210FFF / 32) ∧
    (portIdle calmState ∧ (∃ t, exec (.hostWrite .word 0x210000 (wordBytes 1)) calmState = .next t) ∧
      ∃ t, exec (.hostWrite .word 0x210000 (List.replicate 4 none)) calmState = .next t) :=
  ⟨by decide +kernel, by decide +kernel, ⟨_, rfl⟩, ⟨_, rfl⟩⟩

/-- The vehicle register's window open, with the touched list given. -/
def openState (touched : List Nat) : State :=
  { calmState with
    table := { calmState.table with window := .opened .vehicles, lifetime := some 120, touched := touched } }

theorem witness_GuardedWriteByItsWindow :
    (portIdle calmState ∧ (Instr.hostWrite .word 0x240000 (wordBytes 1)).wellFormed = true ∧
      supervised calmState = true ∧ placeOf .full bases 0x240000 = .guarded .vehicles 0 ∧
      calmState.table.window ≠ .opened .vehicles) ∧
    (portIdle (openState []) ∧ placeOf .full bases 0x300000 = .guarded .accounts 0 ∧
      (openState []).table.window ≠ .opened .accounts) ∧
    (guardedForward .vehicles 0 (openState (List.range 32)) = true ∧
      guardedForward .vehicles 31 (openState (List.range 31)) = true ∧
      guardedForward .vehicles 32 (openState (List.range 32)) = false ∧
      commitValue .vehicles 0 0x240018 (wordBytes 1) (openState []) = none ∧
      commitValue .vehicles 0 0x24001C [some 1, some 0, none, some 0] (openState []) = none ∧
      commitValue .vehicles 0 0x24001C (wordBytes 1) (openState []) = some 1) := by decide +kernel

/-- A write into the open table without room: on the touched list, or on the pending list. -/
def refusedState (touched : List Nat) (reservations : Nat) (given : Bool) (s : State) : State :=
  { s with
    table := { (openState touched).table with refusedTouched := given, refusedTally := given }
    tally := { s.tally with reservations := reservations } }

theorem witness_GuardedWriteByItsWindow_refused :
    (∀ x ∈ [(List.range 32, 32, 0), (List.range 31, 31, 16), (List.range 32, 31, 16), (List.range 32, 32, 16)],
      ∀ given ∈ [false, true], let s := refusedState x.1 x.2.2 given calmState;
      let room := s.table.touched.contains x.2.1 || decide (s.table.touched.length < 32);
      portIdle s ∧ supervised s = true ∧ placeOf s.path.map s.path.bases (0x240000 + 32 * x.2.1) = .guarded .vehicles x.2.1 ∧
        s.table.window = .opened .vehicles ∧ (room = false ∨ 16 ≤ pendingCount s) ∧
        s.table.refusedTally = given ∧ s.table.refusedTouched = given ∧ room = (x.2.1 == 31)) ∧
    (Instr.hostWrite .word 0x2403E0 (wordBytes 1)).wellFormed = true ∧
    (let s := refusedState [] 16 false (withDropPos (some 2) calmState);
      accepted s = true ∧ busy .exchange s = false ∧ dist s.exch.taken s.exch.producer < 256 ∧
        dropOutstanding s = true) ∧
    (let s := refusedState [] 16 false (exchangeHolding calmState);
      accepted s = true ∧ busy .exchange s = true ∧ portIdle s) := by
  exact ⟨by decide +kernel, by decide +kernel, by decide +kernel, by decide +kernel⟩

/-- A transaction in progress at the memory port, and the host's transaction. -/
def withTxn (port : PortTxn) (host : Option HostTxn) (s : State) : State :=
  { s with path := { s.path with port := some port, host := host } }

def hostWriting : State :=
  withTxn .host (some { op := .write .word 0x100000 [some 1, none, some 0, some 4], hands := [.stop], behind := 0 })
    { calmState with mem := [(0x100001, 9), (0x100002, 7)] }

def hostReading : State :=
  withTxn .host (some { op := .read .word 0x100000, hands := [], behind := 0 })
    { calmState with mem := [(0x100001, 9), (0x100002, 7)] }

theorem witness_PortPerformsItsTransaction :
    (hostWriting.path.port = some .host ∧ hostWriting.path.host =
        some { op := .write .word 0x100000 [some 1, none, some 0, some 4], hands := [.stop], behind := 0 } ∧
      memoryCanonical hostWriting = true) ∧
    (hostReading.path.port = some .host ∧
      hostReading.path.host = some { op := .read .word 0x100000, hands := [], behind := 0 }) ∧
    (memoryCanonical calmState = true ∧
      (withTxn (.internal (.place 0x210000 [1, 0])) none calmState).path.port =
        some (.internal (.place 0x210000 [1, 0])) ∧
      (withTxn (.internal (.refresh (.line 0) 0x100800 [3])) none calmState).path.port =
        some (.internal (.refresh (.line 0) 0x100800 [3])) ∧
      (withTxn (.internal (.read .order 0x200000 1)) none calmState).path.port =
        some (.internal (.read .order 0x200000 1))) := by decide +kernel

/-- A waiting host transaction (or one held behind a post), a queue and a host run count. -/
def arbiterState (host : Option Nat) (queue : List Request) (run : Nat) : State :=
  { calmState with path := { calmState.path with
      host := host.map (fun n => { op := .read .word 0x100000, hands := [], behind := n }),
      queue := queue, hostRun := run } }

theorem witness_ArbiterGrantsByTable :
    (∀ h ∈ [none, some 0, some 1], ∀ q ∈ [[], [Request.place 0x210000 [1]]], ∀ n ∈ [0, 3, 4],
      (arbiterState h q n).path.waiting = []) ∧
    (∀ p ∈ [PortTxn.host, .internal (.place 0x210000 [1])],
      (withTxn p none (arbiterState none [.place 0x210000 [1]] 3)).path.port = some p ∧
        (withTxn p none (arbiterState none [.place 0x210000 [1]] 3)).path.waiting = []) ∧
    (arbiterState none [] 0).path.port = none ∧
    hostWaits (arbiterState (some 0) [] 3) = true ∧ hostWaits (arbiterState none [] 3) = false ∧
    hostWaits (arbiterState (some 1) [.place 0x100000 [1]] 3) = false := by decide +kernel

theorem witness_QueuedPostsHoldTheHostAndMerge :
    behindOf 0x8000 [.place 0x100000 [1], .read .order 0x100000 1, .place 0x100800 [1]] = 0 + 1 ∧
    behindOf 0x8041 [.place 0x100800 (List.replicate 33 1), .place 0x100000 [1]] = 0 + 1 ∧
    behindOf 0x8042 [.place 0x100800 (List.replicate 64 1)] = 0 ∧
    (calmState.path.held = [] ∧
      (arbiterState none [.place 0 [1], .refresh (.line 0) 0x100800 [3], .read .order 0x200000 1] 0).path.queue =
        [.place 0 [1]] ++ .refresh (.line 0) 0x100800 [3] :: [.read .order 0x200000 1] ∧
      (∀ q ∈ [Request.read .order 0x200000 1], q.refreshes (.line 0) = false ∧ q.isPlacement = false)) ∧
    ((arbiterState none [.refresh (.line 0) 0x100800 [3], .place 0 [1]] 0).path.queue.length < Config.queuePlaces ∧
      ∃ q ∈ [Request.place 0 [1]], q.isPlacement = true) := by decide +kernel

/-- Requests held, behind a queue of the given length whose head is a refresh of line 0. -/
def holdingState (places : Nat) (held : List Held) : State :=
  { calmState with path := { calmState.path with
      queue := .refresh (.line 0) 0x100800 [3] :: List.replicate (places - 1) (.read .order 0x200000 1), held := held } }

theorem witness_QueuedPostsHoldTheHostAndMerge_held :
    (∀ h ∈ [Held.mk .tally (.read .pool 0x330000 1), ⟨.path, .refresh (.line 1)⟩],
      (holdingState 64 [h]).path.queue =
        [] ++ .refresh (.line 0) 0x100800 [3] :: List.replicate 63 (.read .order 0x200000 1) ∧
      (∀ q ∈ List.replicate 63 (Request.read .order 0x200000 1),
        q.refreshes (.line 0) = false ∧ q.isPlacement = false) ∧
      ∀ x ∈ (holdingState 64 [h]).path.held, x.issue.isPlacement = false) ∧
    (∃ h ∈ (holdingState 64 [⟨.exchange, .place 0x210000 [1]⟩]).path.held, h.issue.isPlacement = true) ∧
    ((holdingState 63 []).path.held = [] ∧ (holdingState 63 []).path.queue.length < Config.queuePlaces ∧
      Config.queuePlaces ≤ (holdingState 64 []).path.queue.length ∧
      (holdingState 63 [⟨.exchange, .place 0x210000 [1]⟩]).path.held ≠ []) ∧
    (∀ r : Rec, Issue.place 0x210000 [1] ≠ .refresh r) ∧
    (holds .table (holdingState 64 [⟨.table, .read .order 0x200000 1⟩]) = true ∧
      Handed.closeWindow.owner = some .table) ∧
    (busy .table (holdingState 64 [⟨.table, .read .order 0x200000 1⟩]) = true ∧
      .table ∈ (Event.told .fallback).units ∧ .table ∈ (Event.value .closeWindow).units) ∧
    (let s := withArrived [late (.value .closeWindow), late (.told .fallback)] calmState;
      waits .table s = true ∧ canTake .table (.value .closeWindow) s = true ∧
        canTake .table (.told .fallback) s = false) := by
  exact ⟨by decide +kernel, by decide +kernel, by decide +kernel, fun _ h => Issue.noConfusion h, by decide +kernel,
    by decide +kernel, by decide +kernel⟩

/-- A refresh of a balance held since an earlier event, then the placement of a line. -/
def heldBalance : State :=
  holdingState 64 [⟨.exchange, .refresh (.balance 3)⟩, ⟨.exchange, .refresh (.visit 5)⟩, ⟨.tally, .place 0x800000 [1]⟩]

/-- With a blank current page. -/
def onBlankPage (s : State) : State :=
  { s with tally := { s.tally with page := some { addr := 0x800000, seq := 0, used := 32, lines := 0, hostRef := 0,
                                                  firstTime := none, lastTime := none } } }

theorem witness_QueuedPostsHoldTheHostAndMerge_makesWay :
    busy .exchange heldBalance = true ∧
    (makeWay .tally (.balance 3) heldBalance).path.held =
      [⟨.exchange, .refresh (.visit 5)⟩, ⟨.tally, .place 0x800000 [1]⟩, ⟨.exchange, .refresh (.balance 3)⟩] ∧
    (∀ h ∈ heldBalance.path.held, Held.placedBy .exchange h = false) ∧
    dist calmState.exch.taken calmState.exch.producer < 256 ∧
    ((onBlankPage calmState).tally.page ≠ none ∧ (onBlankPage calmState).tally.lines = []) ∧
    ({ visit .washed with account := some 3 } : Visit).account = some 3 ∧
    ((holdingState 63 []).path.queue.length < Config.queuePlaces ∧
      ∀ q ∈ (holdingState 63 []).path.queue, q.refreshes (.line 4) = false) := by decide +kernel

/-- A held refresh of a visit that another visit's line does not change keeps its place (R14; log 53). -/
theorem test_heldVisitKeepsItsPlace :
    let s := { heldBalance with path := { heldBalance.path with held := [⟨.exchange, .refresh (.visit 5)⟩] } }
    (composeVisitLine (visit .washed) s.tally (onBlankPage s)).path.held.map (fun h => h.issue.isPlacement) =
        [false, true, true] ∧
      (postVisit 5 heldBalance).path.held = heldBalance.path.held := by decide +kernel

/-- An order's end behind a held refresh of its line: the result word goes first, and ORDER TAKEN is not shown before it
(R15; log 53). -/
theorem test_resultWordBeforeOrderTaken :
    let s := finishOrder .done (holdingState 64 [⟨.exchange, .refresh (.line 0)⟩])
    s.path.held.map Held.issue =
      [.place (orderAddr calmState.exch.orderTaken calmState + 28) (resultBytes .done calmState.exch.orderTaken),
        .refresh (.line 0), .refresh (.line 0)] ∧
    (drainQueue { s with path := { s.path with queue := [] } }).path.queue =
      [.place (orderAddr calmState.exch.orderTaken calmState + 28) (resultBytes .done calmState.exch.orderTaken),
        .refresh (.line 0) 0x100800 (statusLine 0 s)] := by decide +kernel

/-- A stop that takes the last place with STOPPING: HALTED is placed before a producer count that counts it (R15). -/
theorem test_haltedBeforeItsCount :
    let held := (enterHalted (beginStopping (holdingState 63 []))).path.held
    held.map (fun h => h.issue.isPlacement) = true :: List.replicate (held.length - 1) false ∧
      ⟨.exchange, .refresh (.line 0)⟩ ∈ held := by decide +kernel

theorem witness_ResetInputResetsEveryUnit :
    calmState.path.waiting = [] ∧ (∀ q ∈ [Request.place 0 [1]], calmState.path.port ≠ some (.internal q)) ∧
    (withTxn (.internal (.place 0x800000 (List.replicate 64 1))) none calmState).path.port =
      some (.internal (.place 0x800000 (List.replicate 64 1))) ∧
    (withTxn (.internal (.refresh (.visit 5) 0x220000 (List.replicate 96 1))) none calmState).path.port =
      some (.internal (.refresh (.visit 5) 0x220000 (List.replicate 96 1))) ∧
    (withTxn (.internal (.read .order 0x200000 1)) none calmState).path.port =
      some (.internal (.read .order 0x200000 1)) := by decide +kernel

/-- A transaction at the processor port and others that wait. -/
def withHost (h : Option HostTxn) (waiting : List HostOp) (s : State) : State :=
  { s with path := { s.path with host := h, waiting := waiting } }

theorem witness_ResetInputResetsEveryUnit_host :
    (let x : HostTxn := { op := .read .word 4, hands := [.start, .commit .vehicles 3 4], behind := 3 };
      (withHost (some x) [.read .word 8] calmState).path.host = some x) ∧
    (∀ op ∈ [HostOp.read .word 8, .write .word 0x100000 (wordBytes 5)],
      (withHost none [op, op] calmState).path.waiting = op :: [op] ∧
        (withHost none [op] calmState).path.host = none) := by decide +kernel

/-! ### Start-up -/

def haltedState : State := inPart .halted calmState
def lapsed (s : State) : State := { s with clock := { s.clock with monitor := .lapsed, faultLine := true } }

theorem witness_StartValueByPartState :
    (nextHanded (withHanded .start State.reset) = some .start ∧ (withHanded .start State.reset).exch.part = .dormant ∧
      (withHanded .start State.reset).clock.monitor ≠ .lapsed) ∧
    (nextHanded (withHanded .start haltedState) = some .start ∧ haltedState.exch.part = .halted ∧
      haltedState.clock.monitor ≠ .lapsed) ∧
    (nextHanded (withHanded .start (lapsed haltedState)) = some .start ∧
      (lapsed haltedState).clock.monitor = .lapsed) ∧
    (∀ part ∈ [PartState.loading, .running, .stopping],
      nextHanded (withHanded .start (inPart part calmState)) = some .start ∧ part ≠ .dormant ∧ part ≠ .halted) := by
  decide +kernel

theorem witness_StopValueByPartState :
    (quiet (withHanded .stop (withVisit 63 (visit .atGate) calmState)) ∧
      nextHanded (withHanded .stop (withVisit 63 (visit .atGate) calmState)) = some .stop ∧
      openVisits (withVisit 63 (visit .atGate) calmState) = 1) ∧
    (nextHanded (withHanded .stop State.reset) = some .stop ∧ State.reset.exch.part ≠ .running) ∧
    (quiet (withHanded .stop calmState) ∧ nextHanded (withHanded .stop calmState) = some .stop ∧
      openVisits calmState = 0 ∧ pendingCount calmState = 0 ∧ calmState.water.run = none ∧
      calmState.exch.inExecution = false ∧ calmState.path.queue.length ≤ 32) := by decide +kernel

theorem witness_HostHalfReadByValidation :
    (findReturned isHostHalf (withReturned .hostHalf (copyOf [9]) loadingState) = some (.hostHalf, copyOf [9]) ∧
      busy .exchange loadingState = false ∧ loadingState.exch.part = .loading ∧
      validate (copyOf [9]) = some (.fieldRange, 1)) ∧
    (findReturned isHostHalf (withReturned .hostHalf goodCopy loadingState) = some (.hostHalf, goodCopy) ∧
      validate goodCopy = none) ∧
    ((2 : BayId).val < hostField 1 goodCopy ∧ hostField 1 goodCopy ≤ (3 : BayId).val ∧
      (1 : TankId).val < hostField 2 goodCopy ∧ hostField 2 goodCopy ≤ (2 : TankId).val ∧
      hostField 23 goodCopy = 2 ∧ validate (copyOf (goodFields.set 22 1)) = none ∧
      hostField 23 (copyOf (goodFields.set 22 1)) ≠ 2) := by
  exact ⟨by decide +kernel, by decide +kernel, by decide +kernel⟩

theorem witness_AcceptedCopyIsInRange : validate goodCopy = none := by decide +kernel

/-- LOADING after acceptance. -/
def acceptedLoading : State := inPart .loading calmState

theorem witness_LoadingReadsTheTables :
    (findTableRead (withReturned (.table .tariffs 0) [] acceptedLoading) = some (.tariffs, 0, []) ∧
      busy .table acceptedLoading = false ∧ acceptedLoading.exch.part = .loading ∧
      acceptedLoading.path.map = .full ∧ acceptedLoading.table.tariffs = []) ∧
    (∀ x ∈ [(TableId.programmes, 0), (.accounts, 2), (.accounts, 3), (.vehicles, 62), (.vehicles, 63)],
      findTableRead (withReturned (.table x.1 x.2) [] acceptedLoading) = some (x.1, x.2, [])) := by decide +kernel

theorem witness_LoadingReadsTheTables_entries :
    (findTableRead (withReturned (.table .programmes 0) [] acceptedLoading) = some (.programmes, 0, []) ∧
      acceptedLoading.table.programmes = []) ∧
    (∀ k ∈ [0, 3],
      let s := withReturned (.table .accounts k) [] (withTables acceptedLoading);
      findTableRead s = some (.accounts, k, []) ∧ busy .table s = false ∧ s.exch.part = .loading ∧
        s.path.map = .full) ∧
    (let s := { acceptedLoading with table := { (withTables acceptedLoading).table with accounts := [(63, account)] } };
      copySorted s.table.accounts ∧ ∀ e ∈ s.table.accounts, e.1 < 64 * 1) ∧
    (copySorted acceptedLoading.table.accounts ∧ ∀ e ∈ acceptedLoading.table.accounts, e.1 < 64 * 0) ∧
    (judgeLoad .tariffs 0 (List.replicate 128 0) acceptedLoading = .ok none ∧
      judgeLoad .tariffs 0 (tariffEntry 0xC0DE) acceptedLoading ≠ .ok none ∧
      ∃ r, judgeLoad .tariffs 0 (tariffEntry 5) acceptedLoading = .error r) := by
  exact ⟨by decide +kernel, by decide +kernel, by decide +kernel, by decide +kernel, by decide +kernel, by decide +kernel,
    _, rfl⟩

theorem witness_BalancesAreLoaded :
    (∀ k ∈ [0, 1], findBalanceRead (withReturned (.balances k) [] acceptedLoading) = some (k, []) ∧ k ≤ 1) ∧
    busy .tally acceptedLoading = false ∧ acceptedLoading.exch.part = .loading ∧
    acceptedLoading.path.map = .full ∧ (127 : AccountId).val / 128 = 0 ∧ (128 : AccountId).val / 128 = 1 := by
  decide +kernel

/-- One held request behind a full queue, and what waits for its unit. -/
def drainState (h : Held) (l : List Arrival) (s : State) : State :=
  { s with path := { s.path with
      queue := .place 0x210000 [1] :: List.replicate 63 (.place 0x210000 [1]), held := [h], arrived := l } }

/-- LOADING's completion waits for the Exchange Unit. -/
def completionWaits : State :=
  drainState ⟨.exchange, .place 0x210010 [2]⟩ [late (.ask .complete), late (.ask (.refresh (.line 0)))] acceptedLoading

theorem witness_BalancesAreLoaded_waits :
    busy .exchange (exchangeHolding acceptedLoading) = true ∧ busy .exchange acceptedLoading = false ∧
    (completionWaits.path.arrived = late (.ask .complete) :: [late (.ask (.refresh (.line 0)))] ∧
      completionWaits.path.held = [⟨.exchange, .place 0x210010 [2]⟩] ∧ completionWaits.path.queue =
        .place 0x210000 [1] :: List.replicate 63 (.place 0x210000 [1]) ∧
      (List.replicate 63 (Request.place 0x210000 [1])).length < Config.queuePlaces ∧
      completionWaits.path.host = none ∧ completionWaits.path.waiting = [] ∧
      completionWaits.exch.part = .loading) := by decide +kernel

/-! ### The rings -/

/-- Notices outstanding: 256 of them fill the ring. -/
def withCounts (taken producer : Count) (s : State) : State :=
  { s with exch := { s.exch with taken := taken, producer := producer, attention := taken != producer } }

theorem witness_NoticesAndNoticeTaken :
    (accepted State.reset = false ∧ accepted calmState = true ∧ busy .exchange calmState = false ∧
      accepted (withCounts 0 256 calmState) = true) ∧
    (let s := withHanded (.noticeTaken 3) (withCounts 2 3 calmState);
      nextHanded s = some (.noticeTaken 3) ∧ calm s ∧ s.exch.part = .running ∧
        dist 3 s.exch.producer ≤ dist s.exch.taken s.exch.producer) ∧
    (let s := withHanded (.noticeTaken 4) (withCounts 2 3 calmState);
      nextHanded s = some (.noticeTaken 4) ∧ calm s ∧ s.exch.part = .running ∧
        dist s.exch.taken s.exch.producer < dist 4 s.exch.producer) ∧
    (nextHanded (withHanded (.noticeTaken 4) haltedState) = some (.noticeTaken 4) ∧ working haltedState = false) := by
  decide +kernel

def withOrders (taken posted : Count) (s : State) : State :=
  { s with exch := { s.exch with orderTaken := taken, orderPosted := posted } }

theorem witness_OrderPostMovesForward :
    (let s := withHanded (.orderPost 64) (withOrders 0 64 calmState);
      nextHanded s = some (.orderPost 64) ∧ working s = true ∧ dist s.exch.orderTaken 64 ≤ 64 ∧
        dist s.exch.orderTaken s.exch.orderPosted ≤ dist s.exch.orderTaken 64) ∧
    (let s := withHanded (.orderPost 65) calmState;
      nextHanded s = some (.orderPost 65) ∧ calm s ∧ s.exch.part = .running ∧ 64 < dist s.exch.orderTaken 65) ∧
    (let s := withHanded (.orderPost 4) (withOrders 0 5 calmState);
      nextHanded s = some (.orderPost 4) ∧ calm s ∧
        dist s.exch.orderTaken 4 < dist s.exch.orderTaken s.exch.orderPosted) ∧
    (nextHanded (withHanded (.orderPost 1) haltedState) = some (.orderPost 1) ∧ working haltedState = false) ∧
    (let s := withHanded (.orderPost 64) calmState;
      nextHanded s = some (.orderPost 64) ∧ calm s ∧ s.exch.part = .running ∧ dist s.exch.orderTaken 64 ≤ 64 ∧
        dist s.exch.orderTaken s.exch.orderPosted ≤ dist s.exch.orderTaken 64 ∧ 64 ≠ s.exch.orderTaken ∧
        s.exch.inExecution = false) := by decide +kernel

/-- A post handed while ORDER TAKEN stood at 0; an order has ended since. -/
def postedBefore (v : Count) : State :=
  withArrived [{ event := .value (.orderPost v), late := true, orderTaken := 0 }] (withOrders 1 3 calmState)

theorem witness_OrderPostMovesForward_handing :
    (let s := postedBefore 64;
      nextHanded s = some (.orderPost 64) ∧ working s = true ∧ takenAtHanding (.orderPost 64) s = 0 ∧
        Machine.dist 0 64 ≤ 64 ∧ Machine.dist 0 s.exch.orderPosted ≤ Machine.dist 0 64) ∧
    (let s := { postedBefore 65 with path := { (postedBefore 65).path with
        arrived := [{ event := .value (.orderPost 65), late := false, orderTaken := 0 }] } };
      nextHanded s = some (.orderPost 65) ∧ calm s ∧ s.exch.part = .running ∧
        takenAtHanding (.orderPost 65) s = 0 ∧ 64 < Machine.dist 0 65 ∧ Machine.dist s.exch.orderTaken 65 ≤ 64) ∧
    (Handed.orderPost 5 ∉ calmState.path.handed ∧ working calmState = true ∧
      let x : HostTxn := { op := .write .word 0x10000C (wordBytes 5), hands := [.orderPost 5], behind := 0 };
      (withTxn .host (some x) calmState).path.port = some .host ∧ .orderPost 5 ∈ x.hands) := by decide +kernel

theorem witness_OrdersAreCheckedFirst :
    (∀ k ∈ [0, 16, 255], orderReady k (orderEntry k 0 0 0 0 0 0 0) (withOrder (orderEntry k 0 0 0 0 0 0 0) calmState)
      ∧ (k = 0 ∨ 15 < k)) ∧
    (∀ k ∈ [1, 2, 3, 4],
      orderReady k (orderEntry k 64 0 0 0 0 0 0) (withOrder (orderEntry k 64 0 0 0 0 0 0) calmState) ∧
      63 < arg16 4 (orderEntry k 64 0 0 0 0 0 0)) ∧
    (∀ k ∈ [1, 2, 3, 4],
      let s := withOrder (orderEntry k 63 8 0 0 0 0 0) (withVisit 63 (visit .atGate) calmState);
      orderReady k (orderEntry k 63 8 0 0 0 0 0) s ∧ (63 : Slot).val = arg16 4 (orderEntry k 63 8 0 0 0 0 0) ∧
      s.yard.slots[(63 : Slot)] = some (visit .atGate) ∧
      (visit .atGate).serial.toNat ≠ arg16 6 (orderEntry k 63 8 0 0 0 0 0)) := by decide +kernel

/-! ### Ports -/

theorem witness_BadAndUnsupervisedFrames :
    (Instr.status 2 (frameOf 1 []) ∈ arrivals 2 (frameOf 1 []) ∧ calm State.reset ∧
      supervised State.reset = false) ∧
    (calm (withPort 5 { Port.reset with link := .held } calmState) ∧
      (withPort 5 { Port.reset with link := .held } calmState).ports[(5 : PortId)].link = .held) ∧
    (∀ n ∈ [6, 7, 8], quiet (withPort 2 { upPort with badRun := n } calmState) ∧
      (withPort 2 { upPort with badRun := n } calmState).ports[(2 : PortId)].link = .up) ∧
    goodFrame 2 (frameOf 2 [0, 0, 0, 0, 0, 0, 0, 0]) = false ∧ calmState.ports[(5 : PortId)].link = .down := by
  decide +kernel

def fullInbound (n : Nat) : Port := { upPort with inbound := List.replicate n { kind := 4, payload := [1] } }

theorem witness_GoodFramesByKind :
    (goodFrame 2 (frameOf 4 [1]) = true ∧ (frameOf 4 [1]).kind ≠ Kind.status) ∧
    (∀ n ∈ [27, 31, 32], quiet (withPort 2 (fullInbound n) calmState) ∧
      (withPort 2 (fullInbound n) calmState).ports[(2 : PortId)].link = .up ∧
      (withPort 2 (fullInbound n) calmState).ports[(2 : PortId)].inbound.length = n) ∧
    (goodFrame 2 (frameOf 1 [2, 1]) = true ∧ (frameOf 1 [2, 1]).kind = Kind.status) ∧
    (quiet calmState ∧ calmState.ports[(2 : PortId)].link = .up ∧ calmState.ports[(5 : PortId)].link = .down ∧
      calmState.ports[(5 : PortId)].outbound = [] ∧ goodFrame 5 (frameOf 4 [1]) = true ∧
      goodFrame 5 (frameOf 1 [5, 3]) = true) := by decide +kernel

/-- An UP port with a flow frame pending and a frame being sent, which is that flow frame or another. -/
def sendingPort (flow : Option Flow) (isFlow : Bool) (outbound : List QFrame) : Port :=
  { upPort with flow := flow, sending := some stageStopFrame.sent, flowSending := isFlow, outbound := outbound }

theorem witness_LinkFreeSendsTheNextFrame :
    (∀ x ∈ [sendingPort (some .hold) false [raiseFrame 7], sendingPort (some .go) true [raiseFrame 7],
        sendingPort none false [], { upPort with flow := some .go }],
      (withPort 2 x calmState).ports[(2 : PortId)].link = .up ∧ accepted (withPort 2 x calmState) = true) ∧
    (withPort 2 Port.reset calmState).ports[(2 : PortId)].link ≠ .up ∧ accepted loadingState = false ∧
    (let x := sendingPort (some .go) true [raiseFrame 7];
      (if x.sending.isSome && x.flowSending then none else x.flow) = none ∧ x.outbound = raiseFrame 7 :: []) ∧
    (let x := sendingPort (some .hold) false [];
      (if x.sending.isSome && x.flowSending then none else x.flow) = some .hold) := by decide +kernel

theorem witness_LinkTimerAndResetPort :
    (quiet (withPort 2 { upPort with timer := some 0 } calmState) ∧
      (withPort 2 { upPort with timer := some 0 } calmState).ports[(2 : PortId)].link = .up ∧
      (withPort 2 { upPort with timer := some 0 } calmState).ports[(2 : PortId)].timer = some 0) ∧
    calmState.ports[(2 : PortId)].timer ≠ some 0 ∧
    (orderReady 15 (orderEntry 15 11 0 0 0 0 0 0) (withOrder (orderEntry 15 11 0 0 0 0 0 0) calmState) ∧
      10 < arg16 4 (orderEntry 15 11 0 0 0 0 0 0)) ∧
    (∀ p ∈ [0, 5, 10], orderReady 15 (orderEntry 15 p 0 0 0 0 0 0) (withOrder (orderEntry 15 p 0 0 0 0 0 0) calmState) ∧
      p = arg16 4 (orderEntry 15 p 0 0 0 0 0 0)) ∧
    calmState.ports[(0 : PortId)].link = .up ∧ calmState.ports[(5 : PortId)].link = .down ∧
    (withPort 5 { Port.reset with link := .held } calmState).ports[(5 : PortId)].link = .held := by decide +kernel

/-- An UP port with frames in both queues, its link timer run out, one bad frame from its limit. -/
def losingPort : Port :=
  { upPort with timer := some 0, badRun := 7, hold := true, inbound := [raiseFrame 3], outbound := [stageStopFrame] }
/-- A port about to go DOWN has what the three rows ask for. -/
abbrev losing (p : PortId) (s : State) : Prop :=
  quiet s ∧ s.ports[p].link = .up ∧ s.ports[p].timer = some 0 ∧ 7 ≤ s.ports[p].badRun ∧ s.path.queue.length ≤ 32 ∧
    (∀ e ∈ s.water.waitList, bayPort e.bay = p → s.bays[e.bay].state = .waitingWater)

/-! ### Gates -/

def sightTagAt (p : PortId) (tag : Nat) (s : State) : State := withFrame p Kind.sightTag (le 8 tag) s
def sightPlateAt (p : PortId) (confidence : Nat) (text : List Byte) (s : State) : State :=
  withFrame p Kind.sightPlate (byte confidence :: text) s

/-- The conditions on a port whose head frame a row takes. -/
abbrev headIs (p : PortId) (kind : Byte) (payload : List Byte) (s : State) : Prop :=
  quiet s ∧ s.ports[p].link = .up ∧ s.ports[p].inbound = [{ kind := kind, payload := payload }] ∧
    s.ports[p].outbound.length < 16

theorem witness_SightingsMakePairs :
    (∀ tag ∈ [0, 0x41A2C], headIs entryPort Kind.sightTag (le 8 tag) (sightTagAt entryPort tag calmState)) ∧
    (∀ n ∈ [100, 101], headIs entryPort Kind.sightPlate [byte n, 0x4B] (sightPlateAt entryPort n [0x4B] calmState)) ∧
    plateChar 0x5A = true ∧ plateChar 0x5B = false ∧ calmState.gate.entry = .ready ∧ calmState.gate.pair = none := by
  decide +kernel

def tagPair : Pair := { tag := some 0x41A2C, plate := none }

/-- A PAIRING gate that holds a pair. -/
def pairingState (p : Pair) (s : State) : State :=
  { s with gate := { s.gate with entry := .pairing, timer := some 6, pair := some p } }

/-- A visit in every slot. -/
def crowded (s : State) : State :=
  { s with yard := { s.yard with slots := Vector.replicate 64 (some { visit .queued with tag := some 9 }) } }

theorem witness_SightingsMakePairs_pairing :
    (headIs entryPort Kind.sightPlate [80, 0x4B] (sightPlateAt entryPort 80 [0x4B] (pairingState tagPair calmState)) ∧
      tagPair.joined (.plate [0x4B] 80) = some { tag := some 0x41A2C, plate := some ([0x4B], 80) } ∧
      isRepeat { tag := some 0x41A2C, plate := some ([0x4B], 80) } .unknown calmState = false ∧
      isRepeat tagPair .unknown (withVisit 0 (visit .queued) calmState) = true ∧
      calmState.yard.slots[(0 : Slot)] = none) ∧
    (headIs entryPort Kind.sightTag (le 8 0x41A2C) (sightTagAt entryPort 0x41A2C (pairingState tagPair calmState)) ∧
      tagPair.joined (.tag 0x41A2C) = none ∧ tagPair.holdsValue (.tag 0x41A2C) = true ∧
      tagPair.holdsValue (.tag 9) = false ∧
      Pair.holdsValue { tag := none, plate := some ([0x4B], 80) } (.plate [0x4B] 10) = true) ∧
    (let s := sightTagAt entryPort 9 (pairingState tagPair (crowded calmState));
      headIs entryPort Kind.sightTag (le 8 9) s ∧ isRepeat tagPair (identify tagPair s) s = false ∧
        ∀ slot : Slot, (s.yard.slots[slot]).isSome) := by decide +kernel

/-- An exit of the same tag six seconds ago at most. -/
def withRecent (tag : Tag) (s : State) : State :=
  { s with gate := { s.gate with recent := [{ tags := [tag], plates := [], serial := some 7, left := 6 }] } }

theorem witness_UnmatchedAndRecentExits :
    (headIs exitPort Kind.sightTag (le 8 9) (sightTagAt exitPort 9 calmState) ∧ calmState.gate.exitReady = true ∧
      (sightingOf { kind := Kind.sightTag, payload := le 8 9 }).usable = true ∧
      inRecent (sightingOf { kind := Kind.sightTag, payload := le 8 9 }) calmState = false ∧
      matchedSlots (sightingOf { kind := Kind.sightTag, payload := le 8 9 }) calmState = []) ∧
    (headIs exitPort Kind.sightTag (le 8 9) (sightTagAt exitPort 9 (withRecent 9 calmState)) ∧
      inRecent (sightingOf { kind := Kind.sightTag, payload := le 8 9 }) (withRecent 9 calmState) = true) ∧
    (headIs exitPort Kind.sightPlate [40, 0x4B] (sightPlateAt exitPort 40 [0x4B] calmState) ∧
      (sightingOf { kind := Kind.sightPlate, payload := [40, 0x4B] }).usable = true ∧
      inRecent (sightingOf { kind := Kind.sightPlate, payload := [40, 0x4B] }) calmState = false ∧
      matchedSlots (sightingOf { kind := Kind.sightPlate, payload := [40, 0x4B] }) calmState = []) := by
  decide +kernel

def washedState : State := sightTagAt exitPort 0x41A2C (withVisit 5 { visit .washed with outcome := some .complete } calmState)

theorem witness_ClosedVisitsFreeTheirSlot :
    (headIs exitPort Kind.sightTag (le 8 0x41A2C) washedState ∧ pendingCount washedState < 7 ∧
      washedState.path.queue.length ≤ 32 ∧ tagOf (le 8 0x41A2C) ≠ 0 ∧ washedState.gate.exitReady = true ∧
      washedState.gate.entry ≠ .blocked ∧
      inRecent (sightingOf { kind := Kind.sightTag, payload := le 8 0x41A2C }) washedState = false ∧
      matchedSlots (sightingOf { kind := Kind.sightTag, payload := le 8 0x41A2C }) washedState = [5] ∧
      washedState.yard.slots[(5 : Slot)] = some { visit .washed with outcome := some .complete } ∧
      (visit .washed).state = .washed ∧ ({ visit .washed with outcome := some .complete } : Visit).outcome ≠ some .turnedAway) ∧
    (visit .washed).account = none ∧
    (∀ x ∈ [VisitState.atGate, .queued],
      let s := withOrder (orderEntry 2 63 7 0 0 0 0 0) (withVisit 63 (visit x) calmState);
      orderReady 2 (orderEntry 2 63 7 0 0 0 0 0) s ∧ (63 : Slot).val = arg16 4 (orderEntry 2 63 7 0 0 0 0 0) ∧
        s.yard.slots[(63 : Slot)] = some (visit x) ∧
        (visit x).serial.toNat = arg16 6 (orderEntry 2 63 7 0 0 0 0 0) ∧ pendingCount s < 7 ∧
        s.gate.entry ≠ .blocked ∧ s.path.queue.length ≤ 32) := by decide +kernel

/-- A washed visit on an account, its tariff committed, at the exit. -/
def billed : Visit :=
  { visit .washed with
    outcome := some .complete, account := some 12
    summary := some { completed := 2, total := 2, fresh := 101, reclaim := 0, detergent := 6, overrun := 0, abort := none } }
def billedState : State := sightTagAt exitPort 0x41A2C (withVisit 5 billed (withTables calmState))

theorem witness_ClosedVisitsFreeTheirSlot_account :
    (headIs exitPort Kind.sightTag (le 8 0x41A2C) billedState ∧ billedState.gate.exitReady = true ∧
      billedState.gate.entry ≠ .blocked ∧ pendingCount billedState < 7 ∧ billedState.path.queue.length ≤ 32 ∧
      inRecent (sightingOf { kind := Kind.sightTag, payload := le 8 0x41A2C }) billedState = false ∧
      matchedSlots (sightingOf { kind := Kind.sightTag, payload := le 8 0x41A2C }) billedState = [5] ∧
      billedState.yard.slots[(5 : Slot)] = some billed ∧ billed.account = some 12) ∧
    (lookup billedState.table.accounts 12 = some account ∧ lookup billedState.table.tariffs account.tariff = some tariff) ∧
    (let e := orderEntry 2 63 7 0 0 0 0 0;
      let v : Visit := { visit .atGate with account := some 12 };
      let s := withOrder e (withVisit 63 v (withTables calmState));
      orderReady 2 e s ∧ s.yard.slots[(63 : Slot)] = some v ∧ v.account = some 12 ∧ s.gate.entry ≠ .blocked) := by
  exact ⟨by decide +kernel, by decide +kernel, by decide +kernel⟩

/-- A pair whose timer has run out. -/
def pairDueState (p : Pair) (s : State) : State :=
  { s with gate := { s.gate with entry := .pairing, timer := some 0, pair := some p } }

theorem witness_PairingTimerDecidesThePair :
    (let s := pairDueState tagPair calmState;
      quiet s ∧ s.gate.entry = .pairing ∧ s.gate.timer = some 0 ∧ s.gate.pair = some tagPair ∧
        isRepeat tagPair (identify tagPair s) s = false ∧ s.yard.slots[(0 : Slot)] = none ∧
        identify tagPair s = .unknown) ∧
    (let s := pairDueState tagPair (withVisit 0 (visit .queued) calmState);
      quiet s ∧ isRepeat tagPair (identify tagPair s) s = true) ∧
    (let s := pairDueState tagPair (crowded calmState);
      quiet s ∧ isRepeat tagPair (identify tagPair s) s = false ∧ ∀ slot : Slot, (s.yard.slots[slot]).isSome) ∧
    (let s := pairDueState { tag := none, plate := some ([0x4B, 0x54, 0x34], 69) } (withTables calmState);
      identify { tag := none, plate := some ([0x4B, 0x54, 0x34], 69) } s = .uncertain) ∧
    (let s := pairDueState { tag := some 5, plate := some ([0x4B, 0x54, 0x34], 70) } (withTables calmState);
      identify { tag := some 5, plate := some ([0x4B, 0x54, 0x34], 70) } s = .conflict) := by decide +kernel

/-- The vehicle entry barred, and its account's state. -/
def withBarred (s : State) : State :=
  { s with table := { s.table with vehicles := [(118, { vehicle with barred := true })] } }
def withAccount (x : AccountState) (s : State) : State :=
  { s with tally := { s.tally with accounts := s.tally.accounts.set 12 x } }

theorem witness_PairingTimerDecidesThePair_identified :
    (∀ x ∈ [(withTables calmState, none), (withBarred (withTables calmState), some VisitReason.barred),
        (withAccount { AccountState.reset with hostStop := true } (withTables calmState), some .accountStopped),
        (withAccount { AccountState.reset with creditStop := true } (withTables calmState), some .credit),
        (withAccount { AccountState.reset with balance := 492501 } (withTables calmState), some .credit),
        (withAccount { AccountState.reset with balance := 492500 } (withTables calmState), none)],
      let s := pairDueState tagPair x.1;
      quiet s ∧ s.gate.entry = .pairing ∧ s.gate.timer = some 0 ∧ s.gate.pair = some tagPair ∧
        identify tagPair s = .identified .tag 118 ∧ isRepeat tagPair (.identified .tag 118) s = false ∧
        s.yard.slots[(0 : Slot)] = none ∧ (lookup s.table.vehicles 118).isSome = true ∧
        admission (newVisit tagPair (.identified .tag 118) s) s = x.2) ∧
    ((∀ c : BayId, calmState.bays[c].state ≠ .free) ∧ calmState.ports[entryPort].link = .up ∧
      calmState.ports[entryPort].outbound.length < 16) := by
  exact ⟨by decide +kernel, by decide +kernel⟩

theorem witness_IdentificationByIndex :
    resolveTag 0x41A2C (withTables calmState) = some 118 ∧ resolveTag 5 (withTables calmState) = none ∧
    resolvePlate [0x4B, 0x54, 0x34] (withTables calmState) = some 118 ∧
    resolvePlate [0x4B] (withTables calmState) = none := by decide +kernel

theorem witness_IdentificationByIndex_unlinked :
    (∀ (b : Basis) (e : Nat), Ident.unknown ≠ .identified b e) ∧
    lookup (withTables calmState).table.vehicles 118 ≠ none := by
  exact ⟨fun _ _ h => Ident.noConfusion h, by decide +kernel⟩

/-- ADMIT_VISIT with every argument given, on a visit in a slot. -/
def admitEntry (slot vehicle account programme axles : Nat) : List Byte :=
  orderEntry 1 slot 7 vehicle account programme axles 0
def admitState (entry : List Byte) (x : VisitState) : State :=
  withOrder entry (withVisit 63 (visit x) (withTables calmState))

theorem witness_AdmitVisitByItsChecks :
    (∀ x ∈ [VisitState.queued, .atGate], ∀ e ∈ [admitEntry 63 0xFFFF 12 2 3, admitEntry 63 0xFFFF 256 2 3,
        admitEntry 63 0xFFFF 13 2 3],
      orderReady 1 e (admitState e x) ∧ (63 : Slot).val = arg16 4 e ∧
        (admitState e x).yard.slots[(63 : Slot)] = some (visit x) ∧ (visit x).serial.toNat = arg16 6 e) ∧
    (let e := admitEntry 63 0xFFFF 12 2 3;
      let s := { admitState e .atGate with clock := { calmState.clock with fallback := true } };
      orderReady 1 e s ∧ paused s = true) ∧
    (paused (admitState [] .atGate) = false ∧ admitInRange (admitArgs (admitEntry 63 0xFFFF 256 2 3)) = false ∧
      admitInRange (admitArgs (admitEntry 63 0xFFFF 12 2 10)) = false) ∧
    (let a := admitArgs (admitEntry 63 0xFFFF 13 2 9);
      admitInRange a = true ∧ admitComplete (visit .atGate) a = true ∧
        admitCommitted a (withTables calmState) = false) ∧
    (let e := admitEntry 63 0xFFFF 12 2 3;
      let s := admitState e .atGate;
      s.clock.fallback = false ∧ optArg 8 e = none ∧ optArg 10 e = some 12 ∧ optArg 12 e = some 2 ∧
        optArg 14 e = some 3 ∧ (lookup s.table.accounts 12).isSome ∧ (lookup s.table.programmes 2).isSome ∧
        (∀ b : BayId, s.bays[b].state ≠ .free) ∧ s.ports[entryPort].link = .up ∧
        s.ports[entryPort].outbound.length < 16) := by decide +kernel

theorem witness_AdmitVisitByItsChecks_links :
    (∀ e ∈ [admitEntry 63 0xFFFF 0xFFFF 2 3, admitEntry 63 0xFFFF 12 0xFFFF 3, admitEntry 63 0xFFFF 12 2 0xFFFF],
      orderReady 1 e (admitState e .atGate) ∧ admitInRange (admitArgs e) = true ∧ (visit .atGate).vehicle = none ∧
        optArg 8 e = none ∧ (optArg 10 e = none ∨ optArg 12 e = none ∨ optArg 14 e = none)) ∧
    (let e := admitEntry 63 118 12 2 3;
      orderReady 1 e (admitState e .atGate) ∧ paused (admitState e .atGate) = false ∧
        admitInRange (admitArgs e) = true ∧ admitCommitted (admitArgs e) (admitState e .atGate) = true ∧
        optArg 8 e = some 118) ∧
    (({ visit .atGate with vehicle := some 5 } : Visit).vehicle = some 5 ∧
      (withVisit 0 { visit .queued with vehicle := some 118 } calmState).yard.slots[(0 : Slot)] =
        some { visit .queued with vehicle := some 118 }) := by decide +kernel

/-! ### The yard -/

theorem witness_EligibleBays :
    eligible 1 (visit .queued) (withBay 1 { Bay.reset with state := .free, presence := .off } (withTables calmState))
      = true ∧
    ({ calmState with clock := { calmState.clock with fallback := true } } : State).clock.fallback = true := by
  decide +kernel

theorem witness_SetProgrammeSetsIt :
    (∀ x ∈ [VisitState.washing, .queued, .atGate], ∀ p ∈ [2, 3, 15, 16],
      let e := orderEntry 3 0 7 p 0 0 0 0;
      let s := withOrder e (withVisit 0 (visit x) (withTables calmState));
      orderReady 3 e s ∧ (0 : Slot).val = arg16 4 e ∧ s.yard.slots[(0 : Slot)] = some (visit x) ∧
        (visit x).serial.toNat = arg16 6 e ∧ arg16 8 e = p) ∧
    lookup (withTables calmState).table.programmes 15 = none ∧
    (lookup (withTables calmState).table.programmes 2).isSome ∧
    (∀ b : BayId, calmState.bays[b].state ≠ .free) ∧ (visit .atGate).reason ≠ some .credit := by decide +kernel

def called (count : Nat) : Visit :=
  { visit .called with bay := some 2, callTimer := some 0, callCount := count }
def callingState (count : Nat) : State :=
  withBay 2 { Bay.reset with state := .calling, bound := some 63, presence := .on }
    (withVisit 63 (called count) calmState)

theorem witness_CallsEndByOrderAndTimer :
    (∀ x ∈ [visit .queued, called 0, visit .washing],
      let e := orderEntry 4 63 7 0 0 0 0 0;
      let s := withOrder e (withVisit 63 x calmState);
      orderReady 4 e s ∧ (63 : Slot).val = arg16 4 e ∧ s.yard.slots[(63 : Slot)] = some x ∧
        x.serial.toNat = arg16 6 e) ∧
    ((called 0).bay = some 2 ∧ calmState.yard.queue = [] ∧ calmState.ports[bayPort 2].link = .up ∧
      calmState.ports[bayPort 2].outbound.length < 16) ∧
    (∀ n ∈ [1, 2],
      let s := callingState n;
      quiet s ∧ s.yard.slots[(63 : Slot)] = some (called n) ∧ (called n).state = .called ∧
        (called n).callTimer = some 0 ∧ (called n).bay = some 2 ∧ s.yard.queue = [] ∧
        (∀ c : BayId, c ≠ 2 → s.bays[c].state ≠ .free) ∧ s.bays[(2 : BayId)].presence = .on ∧
        s.ports[bayPort 2].link = .up ∧ s.ports[bayPort 2].outbound.length < 16) ∧
    callDue 63 calmState = none := by decide +kernel

/-- A call about to expire at a bay whose presence is OFF. -/
def recallState (count : Nat) (holdAfter : Bool) : State :=
  withBay 2 { Bay.reset with state := .calling, bound := some 63, presence := .off, holdAfter := holdAfter }
    (withVisit 63 (called count) (withTables calmState))

theorem witness_CallsEndByOrderAndTimer_off :
    (∀ x ∈ [(0, false), (1, false), (2, false), (0, true)],
      let s := recallState x.1 x.2;
      quiet s ∧ s.yard.slots[(63 : Slot)] = some (called x.1) ∧ (called x.1).state = .called ∧
        (called x.1).callTimer = some 0 ∧ (called x.1).bay = some 2 ∧ s.yard.queue = [] ∧
        (∀ c : BayId, c ≠ 2 → s.bays[c].state ≠ .free) ∧ s.bays[(2 : BayId)].presence = .off ∧
        s.bays[(2 : BayId)].holdAfter = x.2 ∧ s.ports[bayPort 2].outbound.length < 15) ∧
    (let s := recallState 1 false;
      s.ports[bayPort 2].link = .up ∧ bayFitted 2 s = true ∧ (called 1).axles = some 3 ∧
        (called 1).programme = some 2 ∧ 3 ≤ s.latched.bays[(2 : BayId)].axleLimit ∧
        s.latched.bays[(2 : BayId)].mask.getLsbD 2 = true ∧ (lookup s.table.programmes 2).isSome = true) := by
  exact ⟨by decide +kernel, by decide +kernel⟩

/-! ### Bays -/

def bayIn (x : BayState) (p : Presence) : Bay := { Bay.reset with state := x, presence := p }

theorem witness_PresenceIsRecorded :
    (∀ x ∈ [BayState.free, .closed, .clearing], ∀ p ∈ [Presence.unknown, .on, .off], ∀ n ∈ [0, 1, 255],
      let s := withFrame (bayPort 2) Kind.presence [byte n] (withBay 2 (bayIn x p) calmState);
      headIs (bayPort 2) Kind.presence [byte n] s ∧ bayFitted 2 s = true ∧ s.bays[(2 : BayId)].state = x ∧
        s.bays[(2 : BayId)].presence = p ∧ s.yard.queue = []) ∧
    presenceOf [1] = .on ∧ presenceOf [0] = .off ∧ presenceOf [255] = .on := by decide +kernel

/-- Bay 2 FREE with its presence not known, and visits in the queue. -/
def freeBay (l : List (Slot × Visit)) : State :=
  let s := l.foldl (fun acc x => withVisit x.1 x.2 acc) (withTables calmState)
  withFrame (bayPort 2) Kind.presence [0]
    (withBay 2 (bayIn .free .unknown) { s with yard := { s.yard with queue := l.map Prod.fst } })
/-- The same with presence OFF. -/
def offBay (l : List (Slot × Visit)) : State := withBay 2 (bayIn .free .off) (freeBay l)

theorem witness_EligibleBays_calls :
    let wide := { visit .queued with axles := some 9 };
    let l := [((4 : Slot), wide), (9, visit .queued)];
    (∀ l' ∈ [[((4 : Slot), wide)], l], headIs (bayPort 2) Kind.presence [0] (freeBay l') ∧
      bayFitted 2 (freeBay l') = true ∧ presenceOf [0] = .off ∧ (freeBay l').bays[(2 : BayId)].presence ≠ .off ∧
      (freeBay l').bays[(2 : BayId)].state = .free ∧ ∀ c : BayId, c ≠ 2 → (freeBay l').bays[c].state ≠ .free) ∧
    (eligible 2 wide (offBay l) = false ∧ eligible 2 (visit .queued) (offBay l) = true ∧
      (freeBay l).yard.queue = [4] ++ 9 :: [] ∧ (freeBay l).yard.slots[(9 : Slot)] = some (visit .queued)) ∧
    (nextCall (offBay l) = some (9, visit .queued, 2) ∧ nextCall (freeBay l) = none ∧
      (offBay l).clock.fallback = false) := by decide +kernel

theorem witness_EligibleBays_order :
    let s := (freeBay [(4, { visit .queued with admission := 3 }), (9, { visit .queued with admission := 5 })]);
    let t := withVisit 1 { visit .queued with admission := 4 } s;
    t.yard.slots[(1 : Slot)] = some { visit .queued with admission := 4 } ∧
    (∀ q ∈ t.yard.queue, (t.yard.slots[q]).map (fun w => decide (w.admission ≠ 4)) = some true) ∧
    (enqueue 1 { visit .queued with admission := 4 } t).yard.queue = [4, 1, 9] ∧
    (enqueue 1 { visit .queued with admission := 4, priority := true } t).yard.queue = [1, 4, 9] ∧
    standsBefore { visit .queued with admission := 3 } { visit .queued with admission := 5 } = true := by
  decide +kernel

/-- PRESENCE at the head of bay 2's queue, the visit called there having the tag given. -/
def presenceAt (n : Nat) (x : Bay) (s : State) : State :=
  withFrame (bayPort 2) Kind.presence [byte n] (withBay 2 x s)

theorem witness_PresenceIsRecorded_calling :
    (∀ n ∈ [0, 9, 0x41A2C], ∀ p ∈ [Presence.unknown, .off],
      let tag : Option Tag := if n = 0 then none else some (BitVec.ofNat 64 n);
      let s := presenceAt 1 { bayIn .calling p with bound := some 63, lastTag := tag }
        (withVisit 63 (called 0) (withTables calmState));
      headIs (bayPort 2) Kind.presence [1] s ∧ bayFitted 2 s = true ∧ s.bays[(2 : BayId)].state = .calling ∧
        s.bays[(2 : BayId)].presence = p ∧ s.bays[(2 : BayId)].bound = some 63 ∧
        s.bays[(2 : BayId)].lastTag = tag ∧ s.yard.slots[(63 : Slot)] = some (called 0) ∧
        visitTags (called 0) s = [0x41A2C]) ∧
    (called 0).programme.bind (lookup (withTables calmState).table.programmes) = some dryProgramme ∧
    visitTags { called 0 with tag := none } calmState = [] ∧
    dryProgramme.stages = stage .brush .none 0 60 :: [stage .rinse .freshOnly 120 60] ∧
    (stage .brush .none 0 60).water = .none ∧
    (let s := presenceAt 0 { bayIn .calling .on with bound := some 63, lastTag := some 9 } calmState;
      headIs (bayPort 2) Kind.presence [0] s ∧ s.bays[(2 : BayId)].state = .calling ∧
        s.bays[(2 : BayId)].presence ≠ .off) := by
  exact ⟨by decide +kernel, by decide +kernel, by decide +kernel, by decide +kernel, by decide +kernel, by decide +kernel⟩

/-- The truck leaves bay 2 in a session. -/
def leavingState (x : BayState) (abort : Option AbortReason) : State :=
  presenceAt 0 { bayIn x .on with bound := some 5, session := some { session with abort := abort } }
    (withVisit 5 (visit .washing) calmState)

theorem witness_PresenceIsRecorded_leaving :
    ∀ x ∈ [BayState.waitingWater, .running, .settling], ∀ a ∈ [none, some AbortReason.order],
      let s := leavingState x a;
      headIs (bayPort 2) Kind.presence [0] s ∧ bayFitted 2 s = true ∧ s.bays[(2 : BayId)].state = x ∧
        s.bays[(2 : BayId)].presence ≠ .off ∧ s.bays[(2 : BayId)].session = some { session with abort := a } ∧
        session.stages[session.current]? =
          some { stage := stage .brush .none 0 60, elapsed := 60, short := false, complete := false } ∧
        s.yard.slots[session.slot] = some (visit .washing) ∧ s.yard.queue = [] ∧ s.path.queue.length ≤ 32 := by
  decide +kernel

def calledBay (tag : Nat) : State :=
  withFrame (bayPort 2) Kind.bayTag (le 8 tag)
    (withBay 2 { bayIn .calling .on with bound := some 63 } (withVisit 63 (called 0) (withTables calmState)))

theorem witness_BayTagStartsTheSession :
    (∀ tag ∈ [0, 9, 0x41A2C],
      let s := calledBay tag;
      headIs (bayPort 2) Kind.bayTag (le 8 tag) s ∧ bayFitted 2 s = true ∧ s.bays[(2 : BayId)].state = .calling ∧
        s.bays[(2 : BayId)].bound = some 63 ∧ s.yard.slots[(63 : Slot)] = some (called 0) ∧
        visitTags (called 0) s = [0x41A2C]) ∧
    (tagOf (le 8 0) = 0 ∧ tagOf (le 8 9) ≠ 0 ∧ tagOf (le 8 0x41A2C) = 0x41A2C) ∧
    ((called 0).programme.bind (lookup (calledBay 9).table.programmes) = some dryProgramme ∧
      dryProgramme.stages = stage .brush .none 0 60 :: [stage .rinse .freshOnly 120 60] ∧
      (stage .brush .none 0 60).water = .none ∧ (calledBay 9).bays[(2 : BayId)].presence = .on) := by decide +kernel

def freshGrant : Grant :=
  { number := 4, source := .fresh, granted := 120, metered := 10, revoked := false, day := 210, reserve := false }
def freshPart : Part := { grant := some 4, source := .fresh, granted := 120, last := 10, revoked := false }
def washing (x : BayState) (p : Part) (g : Option Grant) : State :=
  let s := withBay 2 { bayIn x .on with bound := some 5, session := some { session with part := some p } }
    (withVisit 5 (visit .washing) calmState)
  { s with water := { s.water with grants := s.water.grants.set 2 g } }

theorem witness_MeterByBayState :
    (let s := withFrame (bayPort 2) Kind.meter [0, 0, 0, 0, 0] calmState;
      headIs (bayPort 2) Kind.meter [0, 0, 0, 0, 0] s ∧ bayFitted 2 s = true ∧
        s.bays[(2 : BayId)].state ≠ .running ∧ s.bays[(2 : BayId)].state ≠ .settling) ∧
    (∀ n ∈ [25, 28], let payload := le 4 n ++ [0];
      let s := withFrame (bayPort 2) Kind.meter payload (washing .running freshPart (some freshGrant));
      headIs (bayPort 2) Kind.meter payload s ∧ s.bays[(2 : BayId)].state = .running ∧ field 4 1 payload % 2 = 0 ∧
        s.bays[(2 : BayId)].session = some { session with part := some freshPart } ∧
        s.water.grants[(2 : BayId)] = some freshGrant ∧ freshPart.grant = some freshGrant.number ∧
        freshGrant.source = .fresh ∧ 0 < s.latched.bays[(2 : BayId)].pulses) ∧
    (25 * 10 / 25 ≤ freshPart.last ∧ freshPart.last < 28 * 10 / 25) ∧
    (let payload := le 4 0 ++ [1];
      let s := withFrame (bayPort 2) Kind.meter payload (washing .settling dryPart none);
      headIs (bayPort 2) Kind.meter payload s ∧ field 4 1 payload % 2 = 1 ∧ s.bays[(2 : BayId)].state = .settling ∧
        s.bays[(2 : BayId)].session = some { session with part := some dryPart } ∧ dryPart.grant = none ∧
        dryPart.source = .none ∧ litresOf (field 0 4 payload) 2 s = dryPart.last ∧
        (session.stages[session.current]?).map (fun r => r.elapsed) = some 60 ∧
        session.current + 1 = session.stages.length ∧ s.yard.slots[session.slot] = some (visit .washing) ∧
        s.yard.queue = []) := by decide +kernel

def tankGrant : Grant := { freshGrant with source := .tank 1 }
def tankPart : Part := { freshPart with source := .tank 1 }
/-- A washing bay in its last stage, on a tank's grant or fresh water, some litres metered before. -/
def finalState (x : BayState) (p : Part) (g : Option Grant) (flags : Nat) : State :=
  withFrame (bayPort 2) Kind.meter (le 4 25 ++ [byte flags]) (washing x p g)

theorem witness_MeterByBayState_tank :
    (∀ n ∈ [28, 300],
      let s := withFrame (bayPort 2) Kind.meter (le 4 n ++ [0]) (washing .running tankPart (some tankGrant));
      headIs (bayPort 2) Kind.meter (le 4 n ++ [0]) s ∧ s.water.grants[(2 : BayId)] = some tankGrant ∧
        tankGrant.source = .tank 1 ∧ tankGrant.revoked = false ∧
        tankGrant.metered + (n * 10 / 25 - tankPart.last) ≤ tankGrant.granted ∧
        owed 1 s ≤ s.water.tanks[(1 : TankId)].book) ∧
    (∀ x ∈ [BayState.settling, .running], ∀ f ∈ [1, 3],
      ∀ y ∈ [(freshPart, some freshGrant), (tankPart, some tankGrant), ({ dryPart with last := 10 }, none)],
      let s := finalState x y.1 y.2 f;
      headIs (bayPort 2) Kind.meter (le 4 25 ++ [byte f]) s ∧ field 4 1 (le 4 25 ++ [byte f]) % 2 = 1 ∧
        s.bays[(2 : BayId)].state = x ∧ s.bays[(2 : BayId)].session = some { session with part := some y.1 } ∧
        litresOf 25 2 s = y.1.last ∧ s.water.waitList = [] ∧ s.water.pumpQueue = [] ∧ s.path.queue.length ≤ 32 ∧
        s.water.grants[(2 : BayId)] = y.2 ∧ y.1.grant = y.2.map (fun g => g.number)) ∧
    (bayFitted 2 (finalState .running freshPart (some freshGrant) 1) = true ∧ freshGrant.source = freshPart.source ∧
      tankGrant.source = tankPart.source) := by
  exact ⟨by decide +kernel, by decide +kernel, by decide +kernel⟩

def timedBay (n : Nat) : State := withBay 2 { bayIn .running .on with timer := some n } calmState

theorem witness_StageTimerAndAbortSession :
    (quiet (timedBay 0) ∧ (timedBay 0).bays[(2 : BayId)].state = .running ∧
      (timedBay 0).bays[(2 : BayId)].timer = some 0 ∧ (timedBay 0).ports[bayPort 2].link = .up ∧
      (timedBay 0).ports[bayPort 2].outbound.length < 16) ∧
    (timedBay 1).bays[(2 : BayId)].timer ≠ some 0 ∧
    (∀ b ∈ [2, 7, 8], ∀ serial ∈ [7, 8], let e := orderEntry 7 b serial 0 0 0 0 0;
      orderReady 7 e (withOrder e (washing .running dryPart none)) ∧ arg16 4 e = b ∧ arg16 6 e = serial) ∧
    ((washing .running dryPart none).bays[(7 : BayId)].state = .closed ∧
      (washing .running dryPart none).bays[(2 : BayId)].session = some { session with part := some dryPart } ∧
      (washing .settling dryPart none).bays[(2 : BayId)].state = .settling ∧ session.serial.toNat = 7) := by
  decide +kernel

theorem witness_HoldAndOpenBay :
    (∀ k ∈ [5, 6], ∀ b ∈ [2, 3, 8], let e := orderEntry k b 0 0 0 0 0 0;
      orderReady k e (withOrder e calmState) ∧ arg16 4 e = b) ∧
    (bayFitted 3 calmState = false ∧ bayFitted 2 calmState = true ∧ calmState.yard.queue = [] ∧
      calmState.bays[(2 : BayId)].state = .closed) ∧
    ((withBay 2 (bayIn .fault .on) calmState).bays[(2 : BayId)].state = .fault ∧
      calmState.ports[bayPort 2].link = .up ∧
      (withPort (bayPort 2) Port.reset calmState).ports[bayPort 2].link ≠ .up) := by decide +kernel

/-! ### Ports lost -/

theorem witness_LinkTimerAndResetPort_gates :
    (∀ x ∈ [(EntryState.ready, none), (.pairing, some { tag := some 4, plate := none }),
        (.blocked, some { tag := none, plate := some ([0x4B], 3) })],
      let s := withPort entryPort losingPort { calmState with gate := { calmState.gate with entry := x.1, pair := x.2 } };
      losing entryPort s ∧ s.gate.pair = x.2) ∧
    losing exitPort (withPort exitPort losingPort calmState) := by decide +kernel

/-- Bay 2 in a state, its port about to go DOWN. -/
def losingBay (x : Bay) (s : State) : State := withPort (bayPort 2) losingPort (withBay 2 x s)

theorem witness_LinkTimerAndResetPort_idleBays :
    (∀ x ∈ [BayState.free, .closed, .fault, .clearing], ∀ h ∈ [true, false],
      let s := losingBay { bayIn x .on with holdAfter := h } calmState;
      losing (bayPort 2) s ∧ s.bays[(2 : BayId)].state = x) ∧
    (let s := losingBay { bayIn .calling .off with bound := some 63 } (withVisit 63 (called 1) calmState);
      losing (bayPort 2) s ∧ s.bays[(2 : BayId)].state = .calling ∧ s.bays[(2 : BayId)].bound = some 63 ∧
        s.yard.slots[(63 : Slot)] = some (called 1) ∧ ∀ c : BayId, c ≠ 2 → s.bays[c].state ≠ .free) := by
  exact ⟨by decide +kernel, by decide +kernel⟩

/-- Bay 2 in a session, its port about to go DOWN. -/
def losingSession (x : BayState) (z : Session) (g : Option Grant) (waiting : List WaitEntry) : State :=
  let s := losingBay { bayIn x .on with bound := some 5, session := some z } (withVisit 5 (visit .washing) calmState)
  { s with water := { s.water with grants := s.water.grants.set 2 g, waitList := waiting } }

theorem witness_LinkTimerAndResetPort_sessions :
    (session.stages[session.current]? =
      some { stage := stage .brush .none 0 60, elapsed := 60, short := false, complete := false }) ∧
    (let s := losingSession .waitingWater session none [⟨2, .freshOnly, 10, false⟩, ⟨1, .freshOnly, 10, false⟩];
      quiet s ∧ s.bays[(2 : BayId)].state = .waitingWater ∧ s.bays[(2 : BayId)].session = some session ∧
        s.yard.slots[session.slot] = some (visit .washing) ∧
        ∀ e ∈ s.water.waitList, bayPort e.bay = bayPort 2 → s.bays[e.bay].state = .waitingWater) ∧
    (∀ x ∈ [BayState.running, .settling],
      ∀ y ∈ [(freshPart, some freshGrant), (tankPart, some tankGrant), ({ dryPart with last := 10 }, none)],
      let z := { session with part := some y.1, abort := some .order };
      let s := losingSession x z y.2 [];
      losing (bayPort 2) s ∧ s.bays[(2 : BayId)].state = x ∧ s.bays[(2 : BayId)].session = some z ∧
        s.water.waitList = [] ∧ s.water.pumpQueue = [] ∧ s.water.grants[(2 : BayId)] = y.2 ∧
        y.1.grant = y.2.map (fun g => g.number)) := by
  exact ⟨by decide +kernel, by decide +kernel, by decide +kernel⟩

/-! ### Water -/

theorem witness_LevelSetsTheTank :
    (∀ k ∈ [1, 2], ∀ l ∈ [20000, 20001], let payload := byte k :: le 4 l;
      let s := withFrame plantPort Kind.level payload calmState;
      headIs plantPort Kind.level payload s ∧ k = field 0 1 payload ∧ owed 1 s ≤ 20000 ∧ s.water.waitList = []) ∧
    tankFitted 1 calmState = true ∧ tankFitted 2 calmState = false := by decide +kernel

def sampleState (m : Nat) (calibrated pumping : Bool) : State :=
  withFrame plantPort Kind.sample (byte 1 :: le 2 m ++ [0])
    { calmState with water := { calmState.water with
        tanks := calmState.water.tanks.set 1 { calmState.water.tanks[1] with pumpPending := pumping }
        calDay := 210, calibrated := calibrated } }

theorem witness_SampleSetsTheQuality :
    (∀ m ∈ [49, 50, 52], ∀ c ∈ [true, false], ∀ p ∈ [true, false],
      headIs plantPort Kind.sample (byte 1 :: le 2 m ++ [0]) (sampleState m c p) ∧
        (1 : TankId).val = field 0 1 (byte 1 :: le 2 m ++ [0]) ∧ tankFitted 1 (sampleState m c p) = true ∧
        (sampleState m c p).water.tanks[(1 : TankId)].pumpPending = p ∧ (sampleState m c p).water.calibrated = c) ∧
    judgedQuality 49 20 calmState = .certified ∧ judgedQuality 50 20 calmState = .uncertain ∧
    judgedQuality 52 20 calmState = .failed := by decide +kernel

theorem witness_CalibrateSetsTheCalibration :
    ∀ t ∈ [2 ^ 32 - 21, 2 ^ 32 - 20, 60, 61], let e := orderEntry 8 0 0 0 0 0 0 t;
      orderReady 8 e (withOrder e calmState) ∧
      (signed 32 (arg32 e) = -21 ∨ signed 32 (arg32 e) = -20 ∨ signed 32 (arg32 e) = 60 ∨
        signed 32 (arg32 e) = 61) := by decide +kernel

def treatRun : PumpReq := { tank := 1, kind := .treat, joined := ⟨210, 7000⟩ }
def pumping (s : State) : State :=
  { s with water := { s.water with
      run := some treatRun, pumpTimer := some 0
      tanks := s.water.tanks.set 1 { s.water.tanks[1] with pumpRunning := true, circulationDue := true, staleDue := true } } }

theorem witness_PumpRunsAndThresholds :
    (∀ r ∈ [1, 2], ∀ s ∈ [withFrame plantPort Kind.pumpDone [1, 2, byte r] (pumping calmState),
        withFrame plantPort Kind.pumpDone [1, 2, byte r] calmState],
      headIs plantPort Kind.pumpDone [1, 2, byte r] s ∧ tankFitted treatRun.tank s = true ∧
        field 0 1 [1, 2, byte r] = treatRun.tank.val ∧ field 1 1 [1, 2, byte r] = treatRun.kind.code ∧
        field 2 1 [1, 2, byte r] = r ∧ s.water.waitList = [] ∧ s.water.pumpQueue = []) ∧
    ((pumping calmState).water.run = some treatRun ∧ calmState.water.run = none) ∧
    (∀ s ∈ [pumping calmState, pumping (withPort plantPort Port.reset calmState)],
      quiet s ∧ s.water.pumpTimer = some 0 ∧ s.water.run = some treatRun ∧
        s.ports[plantPort].outbound.length < 16 ∧ s.water.waitList = [] ∧ s.path.queue.length ≤ 32) ∧
    (let q := pumpInsert { treatRun with joined := calmState.clock.now } (pumping calmState).water.pumpQueue;
      (pumping calmState).ports[plantPort].link = .up ∧
      q.find? (fun x => (pumping calmState).water.tanks[x.tank].grants.isEmpty) =
        some { treatRun with joined := calmState.clock.now } ∧
      q.find? (fun x => (Vector.replicate 4 { Tank.reset with grants := [2] })[x.tank].grants.isEmpty) = none) ∧
    (pumping (withPort plantPort Port.reset calmState)).ports[plantPort].link ≠ .up ∧
    (quiet (pumping calmState) ∧ (pumping calmState).water.tanks[(1 : TankId)].circulationDue = true ∧
      (pumping calmState).water.tanks[(1 : TankId)].staleDue = true ∧
      calmState.water.tanks[(1 : TankId)].staleDue = false) := by decide +kernel

/-- A PUMP_DONE for tank 1 that stood untaken when the pump timer ended its run, or for another run. -/
def doneState (overtaken : Bool) (payload : List Byte) : State :=
  withPort plantPort { upPort with inbound := [{ kind := Kind.pumpDone, payload := payload, overtaken := overtaken }] }
    (pumping calmState)

theorem witness_PumpRunsAndThresholds_unexpected :
    ∀ x ∈ [(true, [1, 2, 1]), (true, [1, 2, 2]), (false, [1, 1, 1]), (false, [0, 2, 1])],
      let s := doneState x.1 x.2;
      quiet s ∧ s.ports[plantPort].link = .up ∧ s.path.queue.length ≤ 32 ∧ s.water.run = some treatRun ∧
        s.ports[plantPort].inbound = [{ kind := Kind.pumpDone, payload := x.2, overtaken := x.1 }] ∧
        (x.1 = true ∨ treatRun.tank.val ≠ field 0 1 x.2 ∨ treatRun.kind.code ≠ field 1 1 x.2) ∧
        tankFitted 0 s = true ∧ tankFitted 1 s = true := by decide +kernel

theorem witness_LinkTimerAndResetPort_plant :
    ∀ s ∈ [calmState, pumping calmState], losing plantPort (withPort plantPort losingPort s) := by decide +kernel

theorem witness_GrantsComeFromIssuableTanks :
    issuable 1 calmState = true ∧ answer .reclaimOk 5000 false calmState = some (.tank 0, false) ∧
    answer .reclaimOk 5001 false calmState = some (.fresh, false) ∧
    answer .freshOnly 10000 false calmState = some (.fresh, false) ∧
    answer .freshOnly 10001 true calmState = some (.fresh, true) ∧
    answer .freshOnly 10001 false calmState = none ∧ answer .freshOnly 10501 true calmState = none := by
  decide +kernel

/-- Fresh water drawn today. -/
def drawnToday (n : Nat) (s : State) : State := { s with water := { s.water with settled := n } }
/-- The second of two stages, of a water class. -/
def nextStage (w : WaterClass) : StageRun :=
  { stage := stage .rinse w 120 60, elapsed := 20, short := false, complete := false }
def twoStages (w : WaterClass) : Session := { session with stages := session.stages ++ [nextStage w] }

theorem witness_GrantsComeFromIssuableTanks_parts :
    ∀ x ∈ [(WaterClass.reclaimOk, 0, some (Source.tank 0, false)), (.freshOnly, 0, some (.fresh, false)),
        (.freshOnly, 10001, some (.fresh, true)), (.freshOnly, 10501, none)],
      let z := { twoStages x.1 with current := 1, completed := 1 };
      let s := drawnToday x.2.1 (withBay 2 { bayIn .settling .on with session := some z } calmState);
      s.bays[(2 : BayId)].session = some z ∧ z.stages[z.current]? = some (nextStage x.1) ∧ x.1 ≠ .none ∧
        s.clock.fallback = false ∧ s.ports[bayPort 2].link = .up ∧ s.ports[bayPort 2].outbound.length < 16 ∧
        answer x.1 (ceilDiv (120 * (60 - 20)) 60) true s = x.2.2 ∧ s.water.grants[(2 : BayId)] = none := by
  decide +kernel

theorem witness_MeterByBayState_next :
    ∀ w ∈ [WaterClass.none, .reclaimOk, .freshOnly], ∀ n ∈ [0, 10001, 10501],
      let z := { twoStages w with part := some dryPart };
      let s := withFrame (bayPort 2) Kind.meter (le 4 0 ++ [1])
        (drawnToday n (withBay 2 { bayIn .settling .on with bound := some 5, session := some z } calmState));
      headIs (bayPort 2) Kind.meter (le 4 0 ++ [1]) s ∧ s.bays[(2 : BayId)].session = some z ∧ z.abort = none ∧
        z.stages[z.current + 1]? = some (nextStage w) ∧ litresOf (field 0 4 (le 4 0 ++ [1])) 2 s = dryPart.last ∧
        (z.stages[z.current]?).map (fun r => (r.elapsed, r.stage.duration)) = some (60, 60) := by decide +kernel

/-- Vehicles 118's programme begins with a stage of a water class. -/
def withWetProgramme (w : WaterClass) (s : State) : State :=
  { withTables s with table := { (withTables s).table with programmes := [(2, { stages := [stage .rinse w 120 60] })] } }

theorem witness_SessionsStartOnWater :
    ∀ x ∈ [(WaterClass.reclaimOk, 0, some (Source.tank 0, false)), (.freshOnly, 0, some (.fresh, false)),
        (.freshOnly, 10001, none)],
      let u := drawnToday x.2.1 (withVisit 63 (called 0) (withWetProgramme x.1 calmState));
      let bay := { bayIn .calling .off with bound := some 63, lastTag := some 0x41A2C };
      let s := presenceAt 1 bay u;
      let r := withFrame (bayPort 2) Kind.bayTag (le 8 0x41A2C) (withBay 2 { bay with presence := .on } u);
      headIs (bayPort 2) Kind.presence [1] s ∧ headIs (bayPort 2) Kind.bayTag (le 8 0x41A2C) r ∧
        visitTags (called 0) s = [0x41A2C] ∧ s.yard.slots[(63 : Slot)] = some (called 0) ∧
        (called 0).programme.bind (lookup s.table.programmes) = some { stages := stage .rinse x.1 120 60 :: [] } ∧
        (stage .rinse x.1 120 60).water ≠ .none ∧ answer x.1 (ceilDiv (120 * 60) 60) false s = x.2.2 ∧
        answer x.1 (ceilDiv (120 * 60) 60) false r = x.2.2 := by decide +kernel

/-! ### Tables -/

def windowState (w : Window) (h : Handed) : State :=
  withHanded h { calmState with table := { calmState.table with window := w } }

theorem witness_EditKeysMoveTheWindow :
    (∀ h ∈ [Handed.openFirst .vehicles, .openSecond .vehicles, .openSecond .accounts, .closeWindow, .wrongKey],
      ∀ w ∈ [Window.shut, .primed .vehicles, .opened .vehicles, .lockout],
      (editCommand h).isSome = true ∧ nextHanded (windowState w h) = some h ∧
        (windowState w h).exch.part = .running ∧ (windowState w h).clock.fallback = false) ∧
    (nextHanded (withHanded .closeWindow haltedState) = some .closeWindow ∧ haltedState.exch.part ≠ .running) ∧
    (let s := { openState [3] with table := { (openState [3]).table with lifetime := some 0 } };
      s.table.window = .opened .vehicles ∧ s.table.lifetime = some 0 ∧ busy .table s = false) ∧
    (let s := { calmState with table := { calmState.table with window := .lockout, lockout := some 0 } };
      s.table.window = .lockout ∧ s.table.lockout = some 0 ∧ busy .table s = false) := by decide +kernel

/-- The Table Unit holds a request that found the queue full. -/
def tableHolding (s : State) : State :=
  { s with path := { s.path with
      queue := List.replicate 64 (.place 0x210000 [1]), held := [⟨.table, .read (.readback .vehicles 0) 0x240000 1⟩] } }

theorem witness_EditKeysMoveTheWindow_told :
    (busy .table calmState = false ∧ busy .table (tableHolding (openState [3])) = true ∧
      Told.owner .fallback = .table) ∧
    (let s := tableHolding { openState [3] with table := { (openState [3]).table with lifetime := some 0 } };
      busy .table s = true ∧ s.table.window = .opened .vehicles ∧ s.table.lifetime = some 0) ∧
    (let s := tableHolding { calmState with table := { calmState.table with window := .lockout, lockout := some 0 } };
      busy .table s = true ∧ s.table.window = .lockout ∧ s.table.lockout = some 0) ∧
    (∀ e ∈ [Told.fallback, .windowHalted],
      let s := drainState ⟨.table, .read (.readback .vehicles 0) 0x240000 1⟩ [late (.told e)] (openState [3]);
      s.path.arrived = [late (.told e)] ∧ s.path.held = [⟨.table, .read (.readback .vehicles 0) 0x240000 1⟩] ∧
        s.path.queue = .place 0x210000 [1] :: List.replicate 63 (.place 0x210000 [1]) ∧
        s.path.host = none ∧ s.path.waiting = []) := by
  exact ⟨by decide +kernel, by decide +kernel, by decide +kernel, by decide +kernel⟩

theorem witness_CommitIsReadBackAndApplied :
    (nextHanded (withHanded (.commit .tariffs 7 0xC0DE) calmState) = some (.commit .tariffs 7 0xC0DE) ∧
      working calmState = true) ∧
    (∀ word ∈ [0, 0xC0DE, 5],
      let s := withReturned (.readback .tariffs 7) (tariffEntry word) (withTables calmState);
      quiet s ∧ findReadback s = some (.tariffs, 7, tariffEntry word) ∧ copiesSorted s = true) := by
  decide +kernel

/-! ### Accounts and pages -/

def owing (balance : Nat) (s : State) : State :=
  { s with tally := { s.tally with
      accounts := s.tally.accounts.set 12 { AccountState.reset with balance := balance, partialPeriod := true } } }

theorem witness_PaymentsAndPeriods :
    (∀ a ∈ [12, 255, 256], ∀ n ∈ [0, 1, 2147483647, 2147483648], let e := orderEntry 9 a 0 0 0 0 0 n;
      orderReady 9 e (withOrder e (owing 2147483647 calmState)) ∧ arg16 4 e = a ∧ arg32 e = n) ∧
    (owing 100 calmState).tally.accounts[(12 : AccountId)].balance = 100 ∧
    (∀ a ∈ [12, 255, 256], let e := orderEntry 10 a 0 0 0 0 0 0;
      orderReady 10 e (withOrder e calmState) ∧ arg16 4 e = a) := by decide +kernel

theorem witness_PaymentsAndPeriods_full :
    (∀ k ∈ [9, 10, 13], let e := orderEntry k 12 0 0 0 0 0 1; let s := withOrder e (fullTally calmState);
      orderRead k e s ∧ 16 ≤ pendingCount s ∧ s.tally.pause = true ∧ arg16 4 e ≤ 255 ∧ 1 ≤ arg32 e ∧
        arg32 e ≤ 2147483647) ∧
    (let e := orderEntry 2 63 7 0 0 0 0 0; let s := withOrder e (fullTally (withVisit 63 (visit .atGate) calmState));
      orderRead 2 e s ∧ 16 ≤ pendingCount s ∧ s.tally.pause = true ∧ (63 : Slot).val = arg16 4 e ∧
        s.yard.slots[(63 : Slot)] = some (visit .atGate) ∧ (visit .atGate).serial.toNat = arg16 6 e ∧
        (visit .atGate).state = .atGate) := by decide +kernel

def stopped (s : State) : State :=
  { s with tally := { s.tally with accounts := s.tally.accounts.set 12 { AccountState.reset with hostStop := true } } }

theorem witness_StopAndResumeAccount :
    (∀ k ∈ [11, 12], ∀ a ∈ [12, 255, 256], let e := orderEntry k a 0 0 0 0 0 0;
      orderReady k e (withOrder e (stopped calmState)) ∧ arg16 4 e = a) ∧
    (∀ k ∈ [11, 12], let e := orderEntry k 255 0 0 0 0 0 0; let s := withOrder e (fullTally calmState);
      orderRead k e s ∧ arg16 4 e ≤ 255 ∧ 16 ≤ pendingCount s ∧ s.tally.pause = true) ∧
    (let v : Visit := { visit .atGate with account := some 12 };
      v.account = some 12 ∧ (stopped calmState).tally.accounts[(12 : AccountId)].hostStop = true ∧
        linkedEntry v (stopped calmState) = none) ∧
    (let v : Visit := { visit .atGate with account := some 12, vehicle := some 118 };
      (linkedEntry v (withTables (stopped calmState))).map (fun e => e.barred) = some false) := by decide +kernel

theorem witness_StopAndResumeAccount_full :
    ∀ k ∈ [11, 12], ∀ a ∈ [0, 255], let e := orderEntry k a 0 0 0 0 0 0; let s := withOrder e (fullTally (stopped calmState));
      orderRead k e s ∧ arg16 4 e = a ∧ 16 ≤ pendingCount s ∧ s.tally.pause = true := by decide +kernel

def currentPage (lines : Nat) : Page :=
  { addr := 0x800000, seq := 4, used := 32 + 40 * lines, lines := lines, hostRef := 9, firstTime := none, lastTime := none }
def withPage (lines : Nat) (s : State) : State :=
  { s with tally := { s.tally with page := some (currentPage lines) } }

theorem witness_PagesAreTakenAndCut :
    (let s := withHanded (.poolPost 32) calmState;
      nextHanded s = some (.poolPost 32) ∧ quiet s ∧ Machine.dist s.tally.poolPos 32 ≤ 32 ∧
        Machine.dist s.tally.poolPos s.tally.poolPosted ≤ Machine.dist s.tally.poolPos 32) ∧
    (let s := withHanded (.poolPost 33) calmState;
      nextHanded s = some (.poolPost 33) ∧ quiet s ∧ 32 < Machine.dist s.tally.poolPos 33) ∧
    (nextHanded (withHanded (.poolPost 1) haltedState) = some (.poolPost 1) ∧ working haltedState = false) := by decide +kernel

theorem witness_PagesAreTakenAndCut_reads :
    (∀ a ∈ [0x800000, 0x80F000, 0x810000, 0x800020, 0x7FF000],
      let s := withReturned .pool (le 4 a ++ le 4 77) calmState;
      findReturned isPool s = some (.pool, le 4 a ++ le 4 77) ∧ quiet s ∧ s.tally.page = none ∧ s.tally.lines = []) ∧
    (findReturned isPool (withReturned .pool [] haltedState) = some (.pool, []) ∧ busy .tally haltedState = false) := by
  decide +kernel

theorem witness_PagesAreTakenAndCut_cut :
    (let e := orderEntry 13 0 0 0 0 0 0 0; orderReady 13 e (withOrder e calmState) ∧
      orderReady 13 e (withOrder e (withPage 0 calmState)) ∧ orderReady 13 e (withOrder e (withPage 1 calmState)) ∧
      (withPage 1 calmState).tally.page = some (currentPage 1)) := by decide +kernel

/-- A line, and a page without room for another. -/
def aLine (time : Nat) : TallyLine := { header := List.replicate 24 1, items := List.replicate 8 2, time := ⟨210, time⟩ }
def lastPlace (used : Nat) : Page := { currentPage 1 with used := used }

theorem witness_PagesAreTakenAndCut_placing :
    (∀ n ∈ [3984, 3985], let p := lastPlace n;
      let s := { calmState with tally := { calmState.tally with page := some p } };
      s.tally.page = some p ∧ s.tally.lines = [] ∧ (List.replicate 24 (1 : Byte)).length = 24 ∧
        ((p.raised (aLine 7301)).used + 80 ≤ 4096 ↔ n = 3984)) ∧
    (∀ n ∈ [1, 16], let s := { withReturned .pool (le 4 0x80F000 ++ le 4 77) calmState with
        tally := { calmState.tally with lines := List.replicate n (aLine 7000), pause := decide (8 ≤ n) } };
      findReturned isPool s = some (.pool, le 4 0x80F000 ++ le 4 77) ∧ busy .tally s = false ∧
        s.exch.part = .running ∧ s.tally.page = none ∧ s.tally.closings = [] ∧ s.tally.lines.length ≤ 16 ∧
        (∀ l ∈ s.tally.lines, l.header.length = 24 ∧ l.items.length ≤ 56) ∧
        field 0 4 ((le 4 0x80F000 ++ le 4 77 : List Byte).drop (poolEntryOff s)) = 0x80F000 ∧ 0x80F000 % 4096 = 0 ∧
        s.path.bases.tally ≤ 0x80F000 ∧ 0x80F000 < s.path.bases.tally + 4096 * s.path.bases.tallyPages ∧
        (n = 1 → s.tally.pause = false ∧ pendingCount s < 8)) ∧
    ((aLine 7000).header.length = 24 ∧ 4096 < ((lastPlace 3985).raised (aLine 7000)).used + 80) := by
  exact ⟨by decide +kernel, by decide +kernel, by decide +kernel⟩

theorem witness_LineAmountsAreHeld :
    tariff.gateFee ≤ 1000000 ∧ (∀ p ∈ tariff.prices, p ≤ 1000000) ∧ tariff.axle ≤ 1000000 ∧
    tariff.fresh ≤ 1000000 ∧ tariff.reclaim ≤ 1000000 ∧ tariff.detergent ≤ 1000000 ∧ tariff.unwashed ≤ 1000000 ∧
    tariff.abortPercent ≤ 100 ∧ itemAt .fresh 2001 250 ≠ [] ∧
    ({ visit .closing with outcome := some .turnedAway } : Visit).outcome = some .turnedAway := by decide +kernel

theorem witness_LineAmountsAreHeld_items :
    billed.outcome = some .complete ∧ (∀ o ∈ [Outcome.aborted, .unwashed, .released],
      ({ billed with outcome := some o } : Visit).outcome = some o) ∧
    (visit .washed).account = none ∧ billed.account = some 12 ∧
    lookup billedState.table.accounts (12 : AccountId).val = some account ∧
    lookup billedState.table.tariffs account.tariff = some tariff := by decide +kernel

/-! ### Clock and monitor -/

def secondOf (n : Nat) : State := { calmState with clock := { calmState.clock with now := ⟨210, n⟩ } }

theorem witness_BoundariesAndSetClock :
    State.reset.clock.running = false ∧
    (∀ n ∈ [86398, 86399], quiet (secondOf n) ∧ (secondOf n).clock.running = true ∧ overdue (secondOf n) = false) ∧
    (∀ d ∈ [210, 211], ∀ n ∈ [86399, 86400], let e := orderEntry 14 d 0 0 0 0 0 n;
      orderReady 14 e (withOrder e calmState) ∧ arg32 e = n ∧
        (d = 210 → BitVec.ofNat 16 (arg16 4 e) = calmState.clock.now.day)) := by decide +kernel

theorem witness_BoundariesAndSetClock_rollover :
    (secondOf 86399).water.waitList = [] ∧ (secondOf 86399).path.queue.length ≤ 32 ∧
    (let e := orderEntry 14 211 0 0 0 0 0 86399;
      orderReady 14 e (withOrder e calmState) ∧ BitVec.ofNat 16 (arg16 4 e) ≠ calmState.clock.now.day ∧
        calmState.water.waitList = [] ∧ calmState.path.queue.length ≤ 32) := by decide +kernel

/-- Everything that counts boundaries, one second from 0. -/
def countingState : State :=
  withRecent 9 (withVisit 63 { called 0 with callTimer := some 1 }
    (withBay 2 { bayIn .running .on with session := some session, timer := some 1 } (openState [])))

theorem witness_BoundariesAndSetClock_counting :
    quiet countingState ∧ countingState.clock.running = true ∧ overdue countingState = false ∧
    countingState.gate.recent.map (fun e => e.left) = [6] ∧ countingState.table.lifetime = some 120 ∧
    countingState.bays[(2 : BayId)].state = .running ∧ countingState.bays[(2 : BayId)].session = some session ∧
    session.stages[session.current]? =
      some { stage := stage .brush .none 0 60, elapsed := 60, short := false, complete := false } ∧
    countingState.bays[(1 : BayId)].state ≠ .running ∧ tankFitted 1 countingState = true := by decide +kernel

def monitorState (m : MonitorState) (h : Handed) : State :=
  withHanded h { calmState with clock := { calmState.clock with
    monitor := m, countdown := some 15, latchedPeriod := some 3, latchedAction := some .noticeOnly } }
def countedOut (a : MonitorAction) : State :=
  { calmState with clock := { calmState.clock with
      monitor := .armed, countdown := some 0, latchedPeriod := some 3, latchedAction := some a } }

theorem witness_MonitorByItsTable :
    (∀ h ∈ [Handed.serviceFirst, .serviceSecond, .serviceWrong (some 5), .serviceWrong none],
      (serviceCommand h).isSome = true ∧ ∀ m ∈ [MonitorState.idle, .primed, .armed, .armedPrimed, .lapsed],
        nextHanded (monitorState m h) = some h ∧ (monitorState m h).exch.part = .running ∧
        (monitorState m h).clock.latchedPeriod = some 3) ∧
    (nextHanded (withHanded .serviceFirst haltedState) = some .serviceFirst ∧ working haltedState = false) ∧
    (∀ a ∈ [MonitorAction.noticeOnly, .fallback], quiet (countedOut a) ∧ monitorDue (countedOut a) = true ∧
      (∀ b : BayId, (countedOut a).bays[b].state ≠ .calling ∧ (countedOut a).bays[b].state ≠ .waitingWater)) ∧
    monitorDue calmState = false := by decide +kernel

theorem witness_MonitorByItsTable_others :
    (∀ n ∈ [0, 1], let s := { monitorState .armedPrimed .serviceSecond with
          clock := { (monitorState .armedPrimed .serviceSecond).clock with countdown := some n } };
      nextHanded s = some .serviceSecond ∧ s.exch.part = .running ∧ s.clock.monitor = .armedPrimed ∧
        s.clock.countdown = some n ∧ s.clock.latchedPeriod = some 3) ∧
    (let s := inPart .stopping (withVisit 63 (visit .atGate) (monitorState .armed (.serviceWrong (some 5))));
      nextHanded s = some (.serviceWrong (some 5)) ∧ s.exch.part = .stopping ∧ calm s ∧ 0 < openVisits s) ∧
    (let s := inPart .stopping (withVisit 63 (visit .atGate) (countedOut .fallback));
      calm s ∧ s.clock.fallback = false ∧ s.exch.part = .stopping ∧ 0 < openVisits s ∧ monitorDue s = true) := by
  decide +kernel

/-- An armed monitor whose countdown has come to 0, the first key handed (R176). -/
def firstKeyTooLate (a : MonitorAction) : State :=
  { monitorState .armed .serviceFirst with clock := { (monitorState .armed .serviceFirst).clock with
      countdown := some 0, latchedAction := some a } }

theorem witness_MonitorByItsTable_firstKey :
    ∀ a ∈ [MonitorAction.noticeOnly, .fallback], nextHanded (firstKeyTooLate a) = some .serviceFirst ∧
      (firstKeyTooLate a).exch.part = .running ∧ (firstKeyTooLate a).clock.monitor = .armed ∧
      (firstKeyTooLate a).clock.countdown = some 0 := by decide +kernel

/-- A first key at the boundary that brought the countdown to 0 cannot save the monitor (R176). -/
theorem test_firstKeyCannotSave :
    (ran .serviceFirstKey (firstKeyTooLate .fallback)).clock.monitor = .lapsed ∧
      (ran .serviceFirstKey (firstKeyTooLate .fallback)).clock.fallback = true ∧
      (ran .serviceFirstKey (firstKeyTooLate .noticeOnly)).clock.fallback = false := by decide +kernel

/-! ### What commands leave alone, and what every step keeps -/

theorem witness_StateChangesOnlyByItsCommands : ∃ t, exec (.linkFree 3) calmState = .next t := ⟨_, rfl⟩

theorem witness_PortAndTimerRowsKeepTheRest : ∃ t, exec (.tankStale 1) (pumping calmState) = .next t := ⟨_, rfl⟩

theorem witness_WhatEveryStepKeeps :
    (∃ t, step calmState = .next t) ∧ memoryCanonical hostWriting = true ∧ queueBounded calmState = true ∧
    hostRunBounded calmState = true ∧ lapseLawful calmState = true ∧ lapseLawful (lapsed calmState) = true ∧
    (lapsed calmState).clock.monitor = .lapsed ∧ freshBounded (washing .running freshPart (some freshGrant)) = true ∧
    portsBounded calmState = true ∧ touchedBounded (openState (List.range 32)) = true ∧
    attentionLawful (withCounts 2 3 calmState) = true ∧ copiesSorted (withTables calmState) = true :=
  ⟨⟨_, rfl⟩, by decide +kernel⟩

/-! ### One next state per kind of command -/

theorem test_check_of_nine_digits :
    [0x31, 0x32, 0x33, 0x34, 0x35, 0x36, 0x37, 0x38, 0x39].foldl crcByte 0xFFFF = 0x4B37 := by decide +kernel

theorem test_start_begins_loading :
    (ran .startValue (withHanded .start State.reset)).exch.part = .loading := by decide +kernel

theorem test_loading_goes_from_tariffs_to_programmes :
    issued (.read (.table .programmes 0) 0x310000 64)
      (ran .tableRead (withReturned (.table .tariffs 0) [] acceptedLoading)) = true := by decide +kernel

/-- A Table Unit that has posted 7 vehicles present and 1 rejected, and has counted 3 and 2 since. -/
def withCounted (s : State) : State :=
  { s with table := { s.table with loadCounts := { LoadCounts.zero with vehicles := ⟨7, 1⟩ },
                                   counting := { LoadCounts.zero with vehicles := ⟨3, 2⟩ } } }

/-- R149: a soft restart posts the load counts afresh, and acceptance neither clears nor posts them. -/
theorem test_soft_restart_keeps_the_posted_counts :
    let t := ran .hostHalfRead (withReturned .hostHalf goodCopy (withCounted loadingState));
    t.exch.part = .loading ∧ ((statusLine 3 t).drop 4).take 4 = [7, 0, 1, 0] ∧
      t.table.counting = .zero ∧ refreshAsked (.line 3) t = false := by decide +kernel

/-- R141, R180: they are posted, at 4 and 6 of line 3, when the vehicle register has been read. -/
theorem test_load_counts_are_posted_after_the_register :
    (∀ k ∈ [(62, [7, 0, 1, 0], false), (63, [3, 0, 2, 0], true)],
      let t := ran .tableRead (withReturned (.table .vehicles k.1) [] (withCounted acceptedLoading));
      ((statusLine 3 t).drop 4).take 4 = k.2.1 ∧ refreshAsked (.line 3) t = k.2.2) := by decide +kernel

theorem test_stop_with_nothing_open_halts :
    (ran .stopValue (withHanded .stop calmState)).exch.part = .halted := by decide +kernel

theorem test_write_reaches_memory :
    (ran .memoryPortFree hostWriting).mem = [(0x100000, 1), (0x100001, 9), (0x100003, 4)] := by decide +kernel

theorem test_read_sees_memory : (ran .memoryPortFree hostReading).path.readData = [0, 9, 7, 0] := by decide +kernel

theorem test_notice_is_placed_at_the_producer_count :
    (ran .noticeTaken (withHanded (.noticeTaken 4) (withCounts 2 3 calmState))).path.queue.head? =
      some (.place 0x210030 (Notice.bytes { kind := .takenInvalid, first := 4, second := 2 } ⟨210, 7301⟩)) := by
  decide +kernel

theorem test_order_ends_with_its_result_word :
    Request.place 0x20001C [1, 0, 0, 0] ∈
      (ran .openBay (withOrder (orderEntry 6 2 0 0 0 0 0 0) calmState)).path.queue := by decide +kernel

theorem test_the_wind_down_at_an_order_s_end_leaves_the_next_order_unread :
    let s := inPart .stopping (withOrder (orderEntry 6 2 0 0 0 0 0 0) calmState);
    let t := ran .openBay { s with exch := { s.exch with orderPosted := s.exch.orderTaken + 2 } };
    t.exch.part = .halted ∧ t.exch.inExecution = false ∧ issued (.read .order 0x200020 1) t = false := by
  decide +kernel

theorem test_frame_joins_its_queue :
    (ran (.goodFrameArrival 2 (frameOf 4 [1])) calmState).ports[(2 : PortId)].inbound =
      [{ kind := 4, payload := [1] }] := by decide +kernel

theorem test_stage_start_goes_out_with_its_check :
    (ran (.linkFree 4) (ran (.bayTag 2) (calledBay 0x41A2C))).ports[(4 : PortId)].sending =
      some [0x25, 8, 3, 0xFF, 0, 0, 0, 0, 0, 0, 0x49, 0xA7] := by decide +kernel

theorem test_flow_frame_pends_while_it_is_sent :
    (ran (.linkFree 3) (withPort 3 { upPort with flow := some .go } calmState)).ports[(3 : PortId)] =
      { upPort with flow := some .go, flowSending := true, sending := some (flowFrame .go).sent } := by decide +kernel

theorem test_lines_show_what_is_absent :
    bayLine 2 calmState = [1, 0, 0, 0xFF, 0xFF, 0xFF, 0xFF, 0xFF, 0xFF] ∧ grantLine 2 calmState = [0, 0, 0xFF] ∧
    (clockLine calmState).drop 12 = [0xFF, 0xFF] := by decide +kernel

theorem test_pair_of_an_unknown_truck_is_held :
    ((ran .pairingTimer (pairDueState tagPair calmState)).yard.slots[(0 : Slot)]).map
      (fun v => (v.state, v.reason, v.serial)) = some (.atGate, some .unknown, 1) := by decide +kernel

theorem test_known_truck_is_queued_and_the_barrier_told :
    let s := ran .pairingTimer (pairDueState tagPair (withTables calmState));
    (s.yard.slots[(0 : Slot)]).map (fun v => (v.state, v.vehicle)) = some (.queued, some 118) ∧
      s.ports[entryPort].outbound = [raiseFrame 1] := by decide +kernel

theorem test_call_takes_the_lowest_eligible_bay :
    let s := withBay 1 (bayIn .free .off) (withBay 2 (bayIn .free .off) (pairDueState tagPair (withTables calmState)));
    (ran .pairingTimer s).bays[(1 : BayId)].bound = some 0 ∧
      (ran .pairingTimer s).ports[bayPort 1].outbound = [signFrame 1 [0x4B, 0x54, 0x34]] := by decide +kernel

theorem test_exit_closes_the_visit :
    (ran (.sightTag .exit) washedState).yard.slots[(5 : Slot)] = none := by decide +kernel

theorem test_third_unanswered_call_releases :
    ((ran (.callTimer 63) (callingState 2)).yard.slots[(63 : Slot)]).map (fun v => (v.state, v.reason)) =
      some (.released, some .noShow) := by decide +kernel

theorem test_meter_counts_a_tenth_of_the_pulses :
    (ran (.meter 2) (withFrame (bayPort 2) Kind.meter (le 4 28 ++ [0]) (washing .running freshPart (some freshGrant)))
      ).water.grants[(2 : BayId)] = some { freshGrant with metered := 11 } := by decide +kernel

theorem test_litres_without_a_grant_are_told_with_the_litres_kept :
    let s := withFrame (bayPort 2) Kind.meter (le 4 28 ++ [0]) (washing .running dryPart none);
    Request.place 0x210000 (Notice.bytes { kind := .meterInvalid, reason := 2, subject := 2, first := 11, second := 0 }
      ⟨210, 7301⟩) ∈ (ran (.meter 2) s).path.queue := by decide +kernel

theorem test_failed_sample_sends_the_tank_to_treatment :
    (ran .sample (sampleState 52 true false)).water.run = some { tank := 1, kind := .treat, joined := ⟨210, 7301⟩ } := by
  decide +kernel

theorem test_second_key_opens_the_window :
    (ran .openSecondKey (windowState (.primed .tariffs) (.openSecond .tariffs))).table.window = .opened .tariffs := by
  decide +kernel

theorem test_the_window_told_of_fallback_shuts_when_the_port_frees :
    let s := tableHolding (openState [3]);
    (tellTable .fallback s).table.window = .opened .vehicles ∧
      (ran .memoryPortFree (tellTable .fallback s)).table.window = .shut := by decide +kernel

/-- The Exchange Unit holds a request, the notice ring is full, and two events wait in the order they fell. -/
def fullRingWaiting (first second : Event) : State :=
  drainState ⟨.exchange, .place 0x210010 [2]⟩ [late first, late second] (withCounts 0 256 calmState)

theorem test_notice_taken_goes_before_a_notice_asked_for_later :
    let ask := Event.ask (.notice { kind := .takenInvalid } ⟨210, 7301⟩);
    let s := ran .memoryPortFree (fullRingWaiting (.value (.noticeTaken 256)) ask);
    s.exch.overrun = false ∧ s.exch.producer = 256 ∧ nextHanded s = some (.noticeTaken 256) ∧
      (ran .noticeTaken s).exch.producer = 257 ∧ (ran .noticeTaken s).path.arrived = [] := by decide +kernel

theorem test_a_notice_asked_for_earlier_goes_before_notice_taken :
    let ask := Event.ask (.notice { kind := .takenInvalid } ⟨210, 7301⟩);
    let s := ran .memoryPortFree (fullRingWaiting ask (.value (.noticeTaken 256)));
    s.exch.overrun = true ∧ s.path.handed = [.noticeTaken 256] := by decide +kernel

theorem test_a_post_handed_in_stopping_goes_before_the_wind_down :
    let s := inPart .stopping (drainState ⟨.exchange, .place 0x210010 [2]⟩
      [late (.value (.orderPost 1)), late (.ask .windDown)] calmState);
    (ran .memoryPortFree s).exch.part = .stopping ∧
      (ran .orderPost (ran .memoryPortFree s)).exch.inExecution = true ∧
      (ran .orderPost (ran .memoryPortFree s)).exch.part = .stopping := by decide +kernel

theorem test_a_post_is_judged_from_order_taken_at_its_handing :
    (ran .orderPost (postedBefore 65)).exch.orderPosted = 3 ∧
      (ran .orderPost (postedBefore 64)).exch.orderPosted = 64 := by decide +kernel

theorem test_a_start_value_handed_in_stopping_is_ignored :
    let write : HostTxn := { op := .write .word 0x100000 [some 1, some 0, some 0, some 0], hands := [.start], behind := 0 };
    (ran .memoryPortFree (withTxn .host (some write) (inPart .stopping calmState))).path.handed = [] := by decide +kernel

theorem test_closings_are_composed_at_the_readback_that_makes_room :
    let s := withReturned (.readback .tariffs 7) (tariffEntry 0xC0DE)
      (withVisit 5 { visit .closing with outcome := some .complete } (withPage 1 (withTables calmState)));
    let t := ran .commitReadback { s with tally := { s.tally with reservations := 16, pause := true, closings := [5] } };
    t.tally.closings = [] ∧ t.yard.slots[(5 : Slot)] = none ∧ t.tally.reservations = 15 := by decide +kernel

theorem test_a_billed_visit_charges_its_account :
    let t := ran (.sightTag .exit) billedState;
    (t.tally.accounts[(12 : AccountId)]).charges = 1500 + 6000 + 400 + 2 * 250 + 6 * 35 ∧
      t.tally.accounts[(12 : AccountId)].visitCount = 1 := by decide +kernel

theorem test_timed_out_run_is_sent_again :
    (ran .pumpTimer (pumping calmState)).water.run = some { treatRun with joined := ⟨210, 7301⟩ } ∧
      (ran .pumpTimer (pumping calmState)).water.tanks[(1 : TankId)].pumpRunning = true := by decide +kernel

theorem test_the_answer_of_a_timed_out_run_is_lost :
    let s := ran .pumpTimer (doneState false [1, 2, 1]);
    s.water.run.isSome = true ∧ (ran .pumpDone s).water.run = s.water.run ∧
      (ran .pumpDone s).ports[plantPort].inbound = [] := by decide +kernel

theorem test_a_commit_hands_the_value_written :
    (ran (.hostWrite .word 0x24001C (wordBytes 0x43)) (openState [0])).path.host.map (fun x => x.hands) =
      some [.commit .vehicles 0 0x43] := by decide +kernel

theorem test_commit_puts_the_entry_in_its_copy :
    (lookup (ran .commitReadback (withReturned (.readback .tariffs 7) (tariffEntry 0xC0DE) (withTables calmState))
      ).table.tariffs 7).map (fun t => t.gateFee) = some 1500 := by decide +kernel

theorem test_payment_lowers_the_balance :
    (ran .payment (withOrder (orderEntry 9 12 0 0 0 0 0 30) (owing 100 calmState))
      ).tally.accounts[(12 : AccountId)].balance = 70 := by decide +kernel

theorem test_pool_entry_becomes_the_page :
    ((ran .poolEntryRead (withReturned .pool (le 4 0x801000 ++ le 4 77) calmState)).tally.page).map
      (fun p => (p.addr, p.used, p.hostRef)) = some (0x801000, 32, 77) := by decide +kernel

theorem test_day_rolls_over :
    (ran .depotSecondBoundary (secondOf 86399)).clock.now = ⟨211, 0⟩ := by decide +kernel

theorem test_arming_loads_the_period :
    (ran .serviceSecondKey (monitorState .primed .serviceSecond)).clock.countdown = some 15 := by decide +kernel

theorem test_no_word_spells_a_command : State.reset.withFetchWord 32 0x53A70C11 = State.reset := rfl

end Sys2Proof.Tests
end

/-! PROOFS. The memory path (chapter 1): a host write is judged as a whole (R7). -/

namespace Sys2Proof.Machine

/-! ### An accepted copy's regions: aligned and apart (R24) -/

theorem aligned_eq_none_iff {a v : Nat} : aligned a v = none ↔ v % a = 0 := by
  simp [aligned]

/-- A copy that validates passes the check of each of its 67 fields. -/
theorem checkField_of_validate {c : List Byte} (hc : validate c = none) {n : Nat} (hn : 1 ≤ n ∧ n ≤ 67) :
    checkField c n = none := by
  unfold validate at hc
  split at hc
  · cases hc
  · next hfirst =>
    have hfield := List.findSome?_eq_none_iff.1 hfirst (n - 1) (List.mem_range.2 (by omega))
    rwa [Option.map_eq_none_iff, Nat.sub_add_cancel hn.1] at hfield

/-- A copy that validates has its regions placed one after another without a failure. -/
theorem placeRegions_of_validate {c : List Byte} (hc : validate c = none) :
    placeRegions [] (regionsOf c) = none := by
  unfold validate at hc
  split at hc
  · cases hc
  · exact hc

/-- Fields 57 to 65 are checked for a line's alignment alone. -/
theorem checkField_regionBase (c : List Byte) {n : Nat} (hlo : 57 ≤ n) (hhi : n ≤ 65) :
    checkField c n = aligned 32 (hostField n c) := by
  interval_cases n <;> rfl

/-- A region's base stands in the field it is named by, one of 57 to 66. -/
theorem base_of_mem_regionsOf {c : List Byte} {r : Nat × Nat × Nat} (hr : r ∈ regionsOf c) :
    r.2.1 = hostField r.1 c ∧ 57 ≤ r.1 ∧ r.1 ≤ 66 := by
  simp only [regionsOf, List.mem_cons, List.not_mem_nil, or_false] at hr
  rcases hr with rfl | rfl | rfl | rfl | rfl | rfl | rfl | rfl | rfl | rfl <;> simp

/-- A tally base is aligned to a page, which is whole lines; every other base to a line. -/
theorem regionBase_aligned {c : List Byte} (hc : validate c = none) {n : Nat} (hlo : 57 ≤ n) (hhi : n ≤ 66) :
    hostField n c % 32 = 0 := by
  have hcheck := checkField_of_validate hc (n := n) ⟨by omega, by omega⟩
  by_cases htally : n = 66
  · subst htally
    have hpage : hostField 66 c % 4096 = 0 := aligned_eq_none_iff.1 hcheck
    omega
  · rw [checkField_regionBase c hlo (by omega)] at hcheck
    exact aligned_eq_none_iff.1 hcheck

theorem regionsOf_aligned {c : List Byte} (hc : validate c = none) {r : Nat × Nat × Nat} (hr : r ∈ regionsOf c) :
    r.2.1 % 32 = 0 := by
  obtain ⟨hbase, hlo, hhi⟩ := base_of_mem_regionsOf hr
  rw [hbase]
  exact regionBase_aligned hc hlo hhi

theorem overlaps_comm (a n b m : Nat) : overlaps a n b m = overlaps b m a n := Bool.and_comm _ _

/-- Regions placed without a failure are apart from those placed before and from one another. -/
theorem apart_of_placeRegions {placed : List (Nat × Nat)} {l : List (Nat × Nat × Nat)}
    (h : placeRegions placed l = none) :
    (∀ p ∈ placed, ∀ q ∈ l, overlaps p.1 p.2 q.2.1 q.2.2 = false) ∧
      l.Pairwise (fun r q => overlaps r.2.1 r.2.2 q.2.1 q.2.2 = false) := by
  induction l generalizing placed with
  | nil => simp
  | cons x l ih =>
    obtain ⟨n, base, size⟩ := x
    unfold placeRegions at h
    split at h
    · cases h
    split at h
    · cases h
    split at h
    · cases h
    next hfree =>
      obtain ⟨hbefore, hapart⟩ := ih h
      refine ⟨fun p hp q hq => ?_, List.pairwise_cons.2 ⟨hbefore (base, size) (List.mem_cons_self ..), hapart⟩⟩
      rcases List.mem_cons.1 hq with rfl | hq
      · rw [overlaps_comm]
        exact Bool.eq_false_iff.2 fun hover => hfree (List.any_eq_true.2 ⟨p, hp, hover⟩)
      · exact hbefore p (List.mem_cons_of_mem _ hp) q hq

/-! ### Every byte of a line lies in one place (R3, R7) -/

/-- Every region of the map begins at a line. -/
structure Bases.LineAligned (b : Bases) : Prop where
  orderRing : b.orderRing % 32 = 0
  noticeRing : b.noticeRing % 32 = 0
  visitArea : b.visitArea % 32 = 0
  balanceArea : b.balanceArea % 32 = 0
  vehicles : b.vehicles % 32 = 0
  accounts : b.accounts % 32 = 0
  programmes : b.programmes % 32 = 0
  tariffs : b.tariffs % 32 = 0
  poolRing : b.poolRing % 32 = 0
  tally : b.tally % 32 = 0

theorem lineAligned_basesOf {c : List Byte} (hc : validate c = none) : (basesOf c).LineAligned := by
  constructor <;> exact regionBase_aligned hc (by decide) (by decide)

section SameLine

variable {a a' : Nat} (hline : a / 32 = a' / 32)
include hline

/-- A range of whole lines holds all bytes of a line or none. -/
theorem within_sameLine {base size : Nat} (hbase : base % 32 = 0) (hsize : size % 32 = 0) :
    within a base size = within a' base size := by
  unfold within
  congr 1 <;> rw [decide_eq_decide] <;> omega

/-- The bytes of a line lie in one entry, of a line or of four. -/
theorem entry_sameLine {base : Nat} (hbase : base % 32 = 0) :
    (a - base) / 32 = (a' - base) / 32 ∧ (a - base) / 128 = (a' - base) / 128 := by
  omega

theorem placeInRegions_sameLine {b : Bases} (hb : b.LineAligned) : placeInRegions b a = placeInRegions b a' := by
  have hpages : Config.pageSize * b.tallyPages % 32 = 0 := by
    rw [show Config.pageSize = 32 * 128 from rfl, Nat.mul_assoc, Nat.mul_mod_right]
  unfold placeInRegions
  rw [within_sameLine hline hb.orderRing rfl, within_sameLine hline hb.noticeRing rfl,
    within_sameLine hline hb.visitArea rfl, within_sameLine hline hb.balanceArea rfl,
    within_sameLine hline hb.vehicles rfl, within_sameLine hline hb.accounts rfl,
    within_sameLine hline hb.programmes rfl, within_sameLine hline hb.tariffs rfl,
    within_sameLine hline hb.poolRing rfl, within_sameLine hline hb.tally hpages,
    (entry_sameLine hline hb.orderRing).1, (entry_sameLine hline hb.vehicles).1,
    (entry_sameLine hline hb.accounts).1, (entry_sameLine hline hb.programmes).2,
    (entry_sameLine hline hb.tariffs).2]

theorem placeOf_sameLine (m : RegionMap) {b : Bases} (hb : b.LineAligned) : placeOf m b a = placeOf m b a' := by
  have hhost : within a Config.hostHalf Config.halfSize = within a' Config.hostHalf Config.halfSize :=
    within_sameLine hline rfl rfl
  have hstatus : within a Config.statusHalf Config.halfSize = within a' Config.statusHalf Config.halfSize :=
    within_sameLine hline rfl rfl
  cases m with
  | clear => rfl
  | provisional => simp only [placeOf, hhost, hstatus]
  | full => simp only [placeOf, hhost, hstatus, placeInRegions_sameLine hline hb]

end SameLine

/-! ### What an arriving write does to the Path Unit's registers (R5, R6, R12) -/

theorem pathKept_of_kept {s t : State} (h : kept s = kept t) : pathKept s.path = pathKept t.path :=
  congrArg Kept.path h

@[simp] theorem pathKept_notify (n : Notice) (s : State) : pathKept (notify n s).path = pathKept s.path :=
  pathKept_of_kept (kept_notify n s)

@[simp] theorem pathKept_setTable (t : TableUnit) (s : State) : pathKept (setTable t s).path = pathKept s.path :=
  (pathKept_of_kept (kept_postChanged 3 s { s with table := t }) :)

@[simp] theorem pathKept_setTally (t : TallyUnit) (s : State) : pathKept (setTally t s).path = pathKept s.path :=
  (pathKept_of_kept (kept_postChanged 4 s { s with tally := t }) :)

@[simp] theorem pathKept_guardedTouch (e : Nat) (commit : Bool) (s : State) :
    pathKept (guardedTouch e commit s).path = pathKept s.path := by
  unfold guardedTouch
  split
  · simp
  · split
    · rfl
    · simp

@[simp] theorem pathKept_editRefused (u : TableId) (e : Nat) (s : State) :
    pathKept (editRefused u e s).path = pathKept s.path := by
  unfold editRefused
  split
  · split
    · split
      · rfl
      · exact pathKept_notify _ _
    · split
      · rfl
      · exact pathKept_notify _ _
  · rfl

@[simp] theorem pathKept_refusalNotice (a : Nat) (s : State) :
    pathKept (refusalNotice a s).path = pathKept s.path := by
  unfold refusalNotice
  split
  · rfl
  · exact pathKept_editRefused _ _ _

/-- A notice of a drop leaves the drop registers. -/
@[simp] theorem pathKept_dropNotice (c : DropClass) (s : State) :
    pathKept (dropNotice c s).path = pathKept s.path := by
  unfold dropNotice
  split
  · rfl
  · exact pathKept_notify _ _

/-- A dropped write is counted and recorded, and nothing else of the Path Unit's registers changes (R12). -/
theorem pathKept_dropWrite (addr : Word) (c : DropClass) (s : State) :
    pathKept (dropWrite addr c s).path =
      { pathKept s.path with dropped := s.path.dropped + 1, dropAddr := addr, dropClass := some c } := by
  unfold dropWrite
  dsimp only
  rw [pathKept_dropNotice, pathKept_of_kept (kept_present ..)]
  rfl

/-- The processor port holds the transaction it takes, and nothing else of the Path Unit's registers changes. -/
theorem pathKept_holdHost (op : HostOp) (a : Nat) (hands : List Handed) (s : State) :
    ∃ x, pathKept (holdHost op a hands s).path = { pathKept s.path with host := some x } := ⟨_, rfl⟩

/-- A forwarded write stays at the processor port, and nothing else of the Path Unit's registers changes. -/
theorem pathKept_forwardWrite (span : Span) (addr : Word) (bytes : List (Option Byte)) (s : State) :
    ∃ x, pathKept (forwardWrite span addr bytes s).path = { pathKept s.path with host := some x } := by
  unfold forwardWrite
  split
  · next u e _ =>
    dsimp only
    rw [pathKept_of_kept (kept_pauseCheck _), ← pathKept_guardedTouch e (commitValue u e addr.toNat bytes s).isSome s]
    exact pathKept_holdHost ..
  · exact pathKept_holdHost ..

/-- What a write is judged to be: the class it is dropped with, or `none` when it is forwarded (R5, R6). The byte mask is
no part of it. -/
def verdict (addr : Word) (s : State) : Option DropClass :=
  if supervised s then dropOf addr.toNat s else none

theorem pathKept_writeArrives_of_dropped {addr : Word} {c : DropClass} {s : State} (hv : verdict addr s = some c)
    (span : Span) (bytes : List (Option Byte)) :
    pathKept (writeArrives span addr bytes s).path =
      { pathKept s.path with dropped := s.path.dropped + 1, dropAddr := addr, dropClass := some c } := by
  unfold verdict at hv
  unfold writeArrives
  split at hv
  · next hsup =>
    rw [if_pos hsup, hv]
    have hrefusal := pathKept_refusalNotice addr.toNat s
    have hdropped : (refusalNotice addr.toNat s).path.dropped = s.path.dropped :=
      congrArg PathKept.dropped hrefusal
    show pathKept (dropWrite addr c (refusalNotice addr.toNat s)).path = _
    rw [pathKept_dropWrite, hrefusal, hdropped]
  · cases hv

theorem pathKept_writeArrives_of_forwarded {addr : Word} {s : State} (hv : verdict addr s = none) (span : Span)
    (bytes : List (Option Byte)) :
    ∃ x, pathKept (writeArrives span addr bytes s).path = { pathKept s.path with host := some x } := by
  unfold verdict at hv
  unfold writeArrives
  split at hv
  · next hsup =>
    rw [if_pos hsup, hv]
    exact pathKept_forwardWrite span addr bytes s
  · next hsup =>
    rw [if_neg hsup]
    exact pathKept_holdHost ..

/-! ### A write issued at an idle port -/

theorem canAccept_of_portIdle {s : State} (h : portIdle s) : canAccept s = true := by
  obtain ⟨hhost, -, hhanded⟩ := h
  simp [canAccept, nextHanded, hhost, hhanded]

/-- An idle processor port takes a transaction at once, and none waits behind it (R1). -/
theorem issueHost_of_portIdle {s : State} (h : portIdle s) (op : HostOp) :
    issueHost op s = { arrive op s with path := { (arrive op s).path with waiting := [] } } := by
  have hwaiting : s.path.waiting = [] := h.2.1
  simp only [issueHost, hwaiting, List.nil_append, acceptOps, canAccept_of_portIdle h, if_true]

theorem exec_hostWrite_of_portIdle {span : Span} {addr : Word} {bytes : List (Option Byte)} {s t : State}
    (hidle : portIdle s) (h : exec (.hostWrite span addr bytes) s = .next t) :
    t = { writeArrives span addr bytes s with
          path := { (writeArrives span addr bytes s).path with waiting := [] } } := by
  have hexec : exec (.hostWrite span addr bytes) s = execHostWrite span addr bytes s := rfl
  rw [hexec, execHostWrite, issueHost_of_portIdle hidle] at h
  split at h
  · exact (Host.Outcome.next.inj h).symm
  · cases h

/-- The registers a write at an idle port leaves are settled by its verdict: dropped, it leaves the port empty and is
counted under its class; forwarded, it stands at the port and the drop registers are as they were. -/
theorem exec_hostWrite_registers {span : Span} {addr : Word} {bytes : List (Option Byte)} {s t : State}
    (hidle : portIdle s) (h : exec (.hostWrite span addr bytes) s = .next t) :
    (t.path.host = none ↔ (verdict addr s).isSome = true) ∧
      t.path.dropped = s.path.dropped + (if (verdict addr s).isSome then 1 else 0) ∧
      t.path.dropClass = (verdict addr s).or s.path.dropClass := by
  rw [exec_hostWrite_of_portIdle hidle h]
  cases hv : verdict addr s with
  | some c =>
    have hp := pathKept_writeArrives_of_dropped hv span bytes
    have hhost : (writeArrives span addr bytes s).path.host = s.path.host := congrArg PathKept.host hp
    exact ⟨by simp [hhost, hidle.1], congrArg PathKept.dropped hp, congrArg PathKept.dropClass hp⟩
  | none =>
    obtain ⟨x, hp⟩ := pathKept_writeArrives_of_forwarded hv span bytes
    have hhost : (writeArrives span addr bytes s).path.host = some x := congrArg PathKept.host hp
    have hdropped : (writeArrives span addr bytes s).path.dropped = s.path.dropped := congrArg PathKept.dropped hp
    exact ⟨by simp [hhost], by simp [hdropped], congrArg PathKept.dropClass hp⟩

/-- Two writes at an idle port that differ in their mask alone meet the same fate (R7). -/
theorem exec_hostWrite_mask_irrelevant {span : Span} {addr : Word} {bytes bytes' : List (Option Byte)}
    {s t t' : State} (hidle : portIdle s) (h : exec (.hostWrite span addr bytes) s = .next t)
    (h' : exec (.hostWrite span addr bytes') s = .next t') :
    (t.path.host = none ↔ t'.path.host = none) ∧ t.path.dropped = t'.path.dropped ∧
      t.path.dropClass = t'.path.dropClass := by
  obtain ⟨hhost, hdropped, hclass⟩ := exec_hostWrite_registers hidle h
  obtain ⟨hhost', hdropped', hclass'⟩ := exec_hostWrite_registers hidle h'
  exact ⟨hhost.trans hhost'.symm, hdropped.trans hdropped'.symm, hclass.trans hclass'.symm⟩

/-! ### Masks and whole words (R1, R7, R11) -/

/-- A write whose mask names no byte leaves memory as it is. -/
theorem Memory.writeMasked_replicate_none (m : Memory) (a n : Nat) :
    Memory.writeMasked m a (List.replicate n none) = m := by
  induction n generalizing a with
  | zero => rfl
  | succ n ih => exact ih (a + 1)

/-- A word is written whole exactly when the write covers its four bytes and its mask names them. -/
theorem coverage_eq_whole_iff (addr word : Nat) (bytes : List (Option Byte)) (v : Word) :
    coverage addr word bytes = .whole v ↔
      addr ≤ word ∧ ∃ x y z w : Byte,
        (bytes.drop (word - addr)).take 4 = [some x, some y, some z, some w] ∧
        v = BitVec.ofNat 32 (leNat [x, y, z, w]) := by
  unfold coverage
  by_cases hle : addr ≤ word
  · simp only [hle, if_true, true_and]
    split
    · next x y z w hpart =>
      rw [hpart]
      constructor
      · intro h
        exact ⟨x, y, z, w, rfl, (Coverage.whole.inj h).symm⟩
      · rintro ⟨x', y', z', w', hbytes, rfl⟩
        cases hbytes
        rfl
    · next hpart =>
      constructor
      · intro h
        split at h <;> cases h
      · rintro ⟨x, y, z, w, hbytes, -⟩
        exact (hpart x y z w hbytes).elim
  · simp [hle]

/-- A write commits an entry exactly when it writes the entry's commit word whole. -/
theorem commitValue_isSome_iff (u : TableId) (i addr : Nat) (bytes : List (Option Byte)) (s : State) :
    (commitValue u i addr bytes s).isSome = true ↔
      ∃ v, coverage addr (s.path.bases.table u + u.entrySize * i + (u.entrySize - 4)) bytes = .whole v := by
  unfold commitValue
  split
  · next v hcov => simp [hcov]
  · next hcov => simp [hcov]
  · next hcov => simp [hcov]

/-- Settles O7: a region of an accepted copy is whole lines, and the verdict on a write reads its address alone. -/
theorem writeJudgedAsAWhole : Obligations.WriteJudgedAsAWhole :=
  ⟨fun m _ _ _ hc hline => placeOf_sameLine hline m (lineAligned_basesOf hc),
    fun _ _ _ _ _ _ _ hidle h h' => exec_hostWrite_mask_irrelevant hidle h h',
    Memory.writeMasked_replicate_none,
    fun _ hc => ⟨fun _ hr => regionsOf_aligned hc hr, (apart_of_placeRegions (placeRegions_of_validate hc)).2⟩,
    coverage_eq_whole_iff,
    commitValue_isSome_iff⟩

end Sys2Proof.Machine

/-! PROOFS. Identification at the gates (chapter 4): a pair against the vehicle index (R60). -/

namespace Sys2Proof.Machine

/-! ### A pair's identification, row by row of R60's table -/

section Identification

variable {s : State} {g : Tag} {text : Plate} {n e f : Nat}

/-- A plate sighting is reliable from PLATE_THRESHOLD up (section 4.4). -/
theorem reliable_iff : reliable n s = true ↔ s.latched.plateThreshold ≤ n := by
  simp [reliable]

/-- Tag 0 is never looked up (R53). -/
@[simp] theorem resolveTag_zero : resolveTag 0 s = none := by
  simp [resolveTag]

theorem identify_tagAlone_unresolved (htag : resolveTag g s = none) :
    identify { tag := some g, plate := none } s = .unknown := by
  simp only [identify, htag]

theorem identify_tagAlone_resolved (htag : resolveTag g s = some e) :
    identify { tag := some g, plate := none } s = .identified .tag e := by
  simp only [identify, htag]

theorem identify_plateAlone_unresolved (hplate : resolvePlate text s = none) :
    identify { tag := none, plate := some (text, n) } s = .unknown := by
  simp only [identify, hplate]

theorem identify_plateAlone_resolved (hplate : resolvePlate text s = some f) :
    identify { tag := none, plate := some (text, n) } s =
      if s.latched.plateThreshold ≤ n then .identified .plate f else .uncertain := by
  simp only [identify, hplate, reliable_iff]

/-- A plate that names an entry confirms the tag's or contradicts it, whatever its confidence. -/
theorem identify_bothResolved (htag : resolveTag g s = some e) (hplate : resolvePlate text s = some f) :
    identify { tag := some g, plate := some (text, n) } s = if e = f then .identified .both e else .conflict := by
  simp only [identify, htag, hplate]

/-- A tag that resolves outweighs a plate that names nothing unless that plate is reliable. -/
theorem identify_tagResolved_plateUnresolved (htag : resolveTag g s = some e) (hplate : resolvePlate text s = none) :
    identify { tag := some g, plate := some (text, n) } s =
      if s.latched.plateThreshold ≤ n then .conflict else .identified .tag e := by
  simp only [identify, htag, hplate, reliable_iff]

theorem identify_tagUnresolved_plateResolved (htag : resolveTag g s = none) (hplate : resolvePlate text s = some f) :
    identify { tag := some g, plate := some (text, n) } s = .conflict := by
  simp only [identify, htag, hplate]

theorem identify_noneResolved (htag : resolveTag g s = none) (hplate : resolvePlate text s = none) :
    identify { tag := some g, plate := some (text, n) } s = .unknown := by
  simp only [identify, htag, hplate]

end Identification

/-! ### What the outcome gives the visit: its entry and its basis (R60, R63) -/

/-- Only an outcome of IDENTIFIED links the visit and carries a basis. -/
theorem newVisit_of_not_identified (p : Pair) {o : Ident} (s : State) (ho : ∀ b e, o ≠ .identified b e) :
    (newVisit p o s).vehicle = none ∧ (newVisit p o s).basis = none := by
  cases o with
  | identified b e => exact (ho b e rfl).elim
  | unknown => exact ⟨rfl, rfl⟩
  | uncertain => exact ⟨rfl, rfl⟩
  | conflict => exact ⟨rfl, rfl⟩

@[simp] theorem newVisit_identified_basis (p : Pair) (b : Basis) (e : Nat) (s : State) :
    (newVisit p (.identified b e) s).basis = some b := rfl

/-- The entry linked is the one identified, as long as the internal copy holds it. -/
@[simp] theorem newVisit_identified_vehicle (p : Pair) (b : Basis) (e : Nat) (s : State) :
    (newVisit p (.identified b e) s).vehicle = (lookup s.table.vehicles e).map fun _ => e :=
  Option.map_map ..

/-- Settles O30: each row of R60's table is the model's answer, and the new visit takes its entry and basis from it. -/
theorem identificationByIndex : Obligations.IdentificationByIndex :=
  fun s _ _ _ =>
    ⟨identify_tagAlone_unresolved,
      fun _ => identify_tagAlone_resolved,
      identify_plateAlone_unresolved,
      fun _ => identify_plateAlone_resolved,
      fun _ _ => identify_bothResolved,
      fun _ => identify_tagResolved_plateUnresolved,
      fun _ => identify_tagUnresolved_plateResolved,
      identify_noneResolved,
      resolveTag_zero,
      fun p _ => newVisit_of_not_identified p s,
      fun p b e => ⟨newVisit_identified_basis p b e s, fun _ hentry => by
        rw [newVisit_identified_vehicle, hentry, Option.map_some]⟩⟩

end Sys2Proof.Machine

/-! PROOFS. Visits and the bay queue (chapter 5): which bays are eligible, whom the arbiter calls and where, and the
order in which visits wait (R80, R82, R83, R85). -/

namespace Sys2Proof.Machine

/-! ### What the updates of a call and of a frame taken do to each unit -/

@[simp] theorem yard_setVisit (slot : Slot) (v : Option Visit) (s : State) :
    (setVisit slot v s).yard = { s.yard with slots := s.yard.slots.set slot v } :=
  (yard_of_besides (besides_setVisit slot v s) :)
@[simp] theorem bays_setVisit (slot : Slot) (v : Option Visit) (s : State) : (setVisit slot v s).bays = s.bays :=
  (bays_of_besides (besides_setVisit slot v s) :)
@[simp] theorem ports_setVisit (slot : Slot) (v : Option Visit) (s : State) : (setVisit slot v s).ports = s.ports :=
  (ports_of_besides (besides_setVisit slot v s) :)
@[simp] theorem tally_setVisit (slot : Slot) (v : Option Visit) (s : State) : (setVisit slot v s).tally = s.tally :=
  (tally_of_besides (besides_setVisit slot v s) :)

@[simp] theorem yard_setBayWith (b : BayId) (f : Bay → Bay) (s : State) : (setBayWith b f s).yard = s.yard :=
  (yard_of_besides (besides_setBay b (f s.bays[b]) s) :)
@[simp] theorem bays_setBayWith (b : BayId) (f : Bay → Bay) (s : State) :
    (setBayWith b f s).bays = s.bays.set b (f s.bays[b]) :=
  (bays_of_besides (besides_setBay b (f s.bays[b]) s) :)
@[simp] theorem ports_setBayWith (b : BayId) (f : Bay → Bay) (s : State) : (setBayWith b f s).ports = s.ports :=
  (ports_of_besides (besides_setBay b (f s.bays[b]) s) :)
@[simp] theorem tally_setBayWith (b : BayId) (f : Bay → Bay) (s : State) : (setBayWith b f s).tally = s.tally :=
  (tally_of_besides (besides_setBay b (f s.bays[b]) s) :)

/-- The state with the ports blanked as well: everything that a frame offered leaves alone, even when it takes its port
DOWN (R43, R49). -/
def besidesPorts (s : State) : State := { besides s with ports := State.reset.ports }

theorem besidesPorts_of_besides {a b : State} (h : besides a = besides b) : besidesPorts a = besidesPorts b :=
  congrArg (fun t : State => { t with ports := State.reset.ports }) h

@[simp] theorem besidesPorts_setPort (p : PortId) (x : Port) (s : State) :
    besidesPorts (setPort p x s) = besidesPorts s :=
  (besidesPorts_of_besides (besides_setPort p x s) :)

@[simp] theorem besidesPorts_portDown (p : PortId) (r : DownReason) (s : State) :
    besidesPorts (portDown p r s) = besidesPorts s :=
  (besidesPorts_of_besides (besides_notify _ _)).trans (besidesPorts_setPort p _ s)

@[simp] theorem besidesPorts_offer (p : PortId) (f : QFrame) (s : State) :
    besidesPorts (offer p f s) = besidesPorts s := by
  unfold offer
  dsimp only
  split
  · split
    · simp
    · simp
  · simp

@[simp] theorem besidesPorts_takeFrame (p : PortId) (s : State) : besidesPorts (takeFrame p s) = besidesPorts s :=
  besidesPorts_setPort p _ s

theorem yard_of_besidesPorts {a b : State} (h : besidesPorts a = besidesPorts b) : a.yard = b.yard :=
  show (besidesPorts a).yard = (besidesPorts b).yard from congrArg State.yard h
theorem bays_of_besidesPorts {a b : State} (h : besidesPorts a = besidesPorts b) : a.bays = b.bays :=
  show (besidesPorts a).bays = (besidesPorts b).bays from congrArg State.bays h
theorem tally_of_besidesPorts {a b : State} (h : besidesPorts a = besidesPorts b) : a.tally = b.tally :=
  show (besidesPorts a).tally = (besidesPorts b).tally from congrArg State.tally h

@[simp] theorem yard_offer (p : PortId) (f : QFrame) (s : State) : (offer p f s).yard = s.yard :=
  yard_of_besidesPorts (besidesPorts_offer p f s)
@[simp] theorem bays_offer (p : PortId) (f : QFrame) (s : State) : (offer p f s).bays = s.bays :=
  bays_of_besidesPorts (besidesPorts_offer p f s)
@[simp] theorem tally_offer (p : PortId) (f : QFrame) (s : State) : (offer p f s).tally = s.tally :=
  tally_of_besidesPorts (besidesPorts_offer p f s)

@[simp] theorem yard_takeFrame (p : PortId) (s : State) : (takeFrame p s).yard = s.yard :=
  yard_of_besidesPorts (besidesPorts_takeFrame p s)
@[simp] theorem bays_takeFrame (p : PortId) (s : State) : (takeFrame p s).bays = s.bays :=
  bays_of_besidesPorts (besidesPorts_takeFrame p s)
@[simp] theorem tally_takeFrame (p : PortId) (s : State) : (takeFrame p s).tally = s.tally :=
  tally_of_besidesPorts (besidesPorts_takeFrame p s)

/-- With a place free at an UP port, a frame offered joins the outbound queue and nothing else changes there (R49). -/
theorem ports_offer_of_room {p : PortId} {s : State} (hup : s.ports[p].link = .up)
    (hroom : s.ports[p].outbound.length < 16) (f : QFrame) :
    (offer p f s).ports = s.ports.set p { s.ports[p] with outbound := s.ports[p].outbound ++ [f] } := by
  have hplaces : s.ports[p].outbound.length < Config.outboundPlaces := hroom
  unfold offer
  dsimp only
  rw [if_pos hup, if_pos hplaces]
  exact ports_of_besides (besides_setPort ..)

/-- Taking the head frame may clear the hold flag; the link and the outbound queue stay (R46, R48). -/
theorem takeInbound_spec (l : Latched) (x : Port) :
    (takeInbound l x).link = x.link ∧ (takeInbound l x).inbound = x.inbound.tail ∧
      (takeInbound l x).outbound = x.outbound := by
  unfold takeInbound
  dsimp only
  split
  · exact ⟨rfl, rfl, rfl⟩
  · exact ⟨rfl, rfl, rfl⟩

@[simp] theorem ports_takeFrame (p : PortId) (s : State) :
    (takeFrame p s).ports = s.ports.set p (takeInbound s.latched s.ports[p]) :=
  (ports_of_besides (besides_setPort p (takeInbound s.latched s.ports[p]) s) :)

/-- The parameters, the internal copies and the clock are part of `kept`. -/
theorem latched_of_kept {s t : State} (h : kept s = kept t) : s.latched = t.latched := congrArg Kept.latched h
theorem table_of_kept {s t : State} (h : kept s = kept t) : s.table = t.table := congrArg Kept.table h
theorem clock_of_kept {s t : State} (h : kept s = kept t) : s.clock = t.clock := congrArg Kept.clock h

/-! ### The end of an event that loses no port and leaves the pending list (R28, R43, R168) -/

theorem pauseCheck_eq_self {s : State} (hpause : s.tally.pause = false) (hfew : pendingCount s < Config.pauseCount) :
    pauseCheck s = s := by
  simp [pauseCheck, Nat.not_le.2 hfew, hpause]

/-- No role unit is told while every port that was UP is UP still (R43). -/
theorem settleLost_eq_self {ups : List PortId} {s : State} (h : ∀ p ∈ ups, linkUp p s = true) :
    settleLost ups s = s := by
  have hnone : ups.find? (fun p => !linkUp p s) = none := by simpa [List.find?_eq_none] using h
  unfold settleLost
  split
  · rw [settlePorts, hnone]
  · rfl

theorem conclude_eq_self {s t : State} (hs : quiet s) (hkept : kept t = kept s) (htally : t.tally = s.tally)
    (hlinks : ∀ p, linkUp p t = linkUp p s) : conclude s t = t := by
  obtain ⟨⟨-, -, -, hpause, hfew⟩, hpart, -⟩ := hs
  have hrunning : t.exch.part = .running := (part_of_kept hkept).trans hpart
  have hups : ∀ p ∈ upPorts s, linkUp p t = true := fun p hp =>
    (hlinks p).trans (List.mem_filter.1 hp).2
  have htidy : tidy s t = t := by
    rw [tidy, pauseCheck_eq_self (by rw [htally]; exact hpause) (by simpa [pendingCount, htally] using hfew),
      settleLost_eq_self hups]
  rw [conclude, htidy, windDown_eq_self (windDownMet_eq_false (by simp [hrunning]))]

/-! ### Eligibility (R82) -/

theorem eligible_iff {b : BayId} {v : Visit} {s : State} : eligible b v s = true ↔
    bayFitted b s = true ∧ s.bays[b].state = .free ∧ s.ports[bayPort b].link = .up ∧ s.bays[b].presence = .off ∧
      ∃ n p, v.axles = some n ∧ v.programme = some p ∧ n ≤ s.latched.bays[b].axleLimit ∧
        s.latched.bays[b].mask.getLsbD p = true ∧ (lookup s.table.programmes p).isSome := by
  unfold eligible serves linkUp programmeCommitted
  cases v.axles with
  | none => simp
  | some n =>
    cases v.programme with
    | none => simp
    | some p =>
      simp only [Bool.and_eq_true, beq_iff_eq, decide_eq_true_eq, Option.some.injEq, and_assoc,
        exists_and_left, ↓existsAndEq, true_and]
      tauto

/-- Only a FREE bay is eligible. -/
theorem eligible_of_not_free {b : BayId} {s : State} (h : s.bays[b].state ≠ .free) (v : Visit) :
    eligible b v s = false :=
  Bool.eq_false_iff.2 fun he => h (eligible_iff.1 he).2.1

/-- Eligibility reads the bays, the bay port's link, the parameters and the programme copy. -/
theorem eligible_congr {b : BayId} {s t : State} (hkept : kept s = kept t) (hbays : s.bays = t.bays)
    (hlink : linkUp (bayPort b) s = linkUp (bayPort b) t) (v : Visit) : eligible b v s = eligible b v t := by
  unfold eligible serves bayFitted programmeCommitted
  rw [hbays, hlink, latched_of_kept hkept, table_of_kept hkept]

/-! ### The next call (R83) -/

/-- The call the arbiter would make for a slot: its visit to the lowest of its eligible bays. -/
def callOf (s : State) (slot : Slot) : Option (Slot × Visit × BayId) :=
  s.yard.slots[slot].bind fun v => (allBays.find? (fun b => eligible b v s)).map fun b => (slot, v, b)

theorem nextCall_eq (s : State) : nextCall s = s.yard.queue.findSome? (callOf s) := by
  unfold nextCall
  congr 1
  funext slot
  unfold callOf
  cases s.yard.slots[slot] with
  | none => rfl
  | some v => rfl

theorem find_eligible_eq_some_iff {b : BayId} {v : Visit} {s : State} :
    allBays.find? (fun b => eligible b v s) = some b ↔
      eligible b v s = true ∧ ∀ c : BayId, c < b → eligible c v s = false := by
  rw [allBays, ← Fin.find?_eq_find?_finRange, Fin.find?_eq_some_iff]

theorem callOf_eq_none_iff {slot : Slot} {s : State} :
    callOf s slot = none ↔ ∀ w, s.yard.slots[slot] = some w → ∀ c : BayId, eligible c w s = false := by
  simp [callOf, allBays]

theorem callOf_eq_some_iff {slot q : Slot} {v : Visit} {b : BayId} {s : State} :
    callOf s q = some (slot, v, b) ↔ q = slot ∧ s.yard.slots[slot] = some v ∧ eligible b v s = true ∧
      ∀ c : BayId, c < b → eligible c v s = false := by
  simp only [callOf, Option.bind_eq_some_iff, Option.map_eq_some_iff, find_eligible_eq_some_iff, Prod.mk.injEq]
  constructor
  · rintro ⟨w, hw, c, ⟨helig, hlow⟩, rfl, rfl, rfl⟩
    exact ⟨rfl, hw, helig, hlow⟩
  · rintro ⟨rfl, hv, helig, hlow⟩
    exact ⟨v, hv, b, ⟨helig, hlow⟩, rfl, rfl, rfl⟩

/-- No call is made exactly when no queued visit has an eligible bay. -/
theorem nextCall_eq_none_iff {s : State} : nextCall s = none ↔
    ∀ q ∈ s.yard.queue, ∀ w, s.yard.slots[q] = some w → ∀ c : BayId, eligible c w s = false := by
  simp only [nextCall_eq, List.findSome?_eq_none_iff, callOf_eq_none_iff]

theorem nextCall_eq_some_iff {slot : Slot} {v : Visit} {b : BayId} {s : State} :
    nextCall s = some (slot, v, b) ↔
      ∃ pre post, s.yard.queue = pre ++ slot :: post ∧ s.yard.slots[slot] = some v ∧ eligible b v s = true ∧
        (∀ c : BayId, c < b → eligible c v s = false) ∧
        ∀ q ∈ pre, ∀ w, s.yard.slots[q] = some w → ∀ c : BayId, eligible c w s = false := by
  simp only [nextCall_eq, List.findSome?_eq_some_iff, callOf_eq_some_iff, callOf_eq_none_iff]
  constructor
  · rintro ⟨pre, q, post, hqueue, ⟨rfl, hv, helig, hlow⟩, hpre⟩
    exact ⟨pre, post, hqueue, hv, helig, hlow, hpre⟩
  · rintro ⟨pre, post, hqueue, hv, helig, hlow, hpre⟩
    exact ⟨pre, slot, post, hqueue, ⟨rfl, hv, helig, hlow⟩, hpre⟩

theorem nextCall_of_no_free {s : State} (h : ∀ b : BayId, s.bays[b].state ≠ .free) : nextCall s = none :=
  nextCall_eq_none_iff.2 fun _ _ w _ c => eligible_of_not_free (h c) w

theorem free_of_nextCall {slot : Slot} {v : Visit} {b : BayId} {s : State} (h : nextCall s = some (slot, v, b)) :
    s.bays[b].state = .free := by
  obtain ⟨_, _, _, _, helig, _⟩ := nextCall_eq_some_iff.1 h
  exact (eligible_iff.1 helig).2.1

/-! ### A call (R85) -/

theorem bays_callVisit (slot : Slot) (v : Visit) (b : BayId) (s : State) :
    (callVisit slot v b s).bays =
      s.bays.set b { s.bays[b] with state := .calling, bound := some slot, lastTag := none } := by
  simp [callVisit]

theorem yard_callVisit (slot : Slot) (v : Visit) (b : BayId) (s : State) :
    (callVisit slot v b s).yard = { s.yard with
      queue := s.yard.queue.erase slot,
      slots := s.yard.slots.set slot (some { v with
        state := .called, bay := some b, callTimer := some s.latched.callLimit }) } := by
  simp [callVisit]

theorem tally_callVisit (slot : Slot) (v : Visit) (b : BayId) (s : State) :
    (callVisit slot v b s).tally = s.tally := by
  simp [callVisit]

theorem ports_callVisit_of_room {b : BayId} {s : State} (hup : s.ports[bayPort b].link = .up)
    (hroom : s.ports[bayPort b].outbound.length < 16) (slot : Slot) (v : Visit) :
    (callVisit slot v b s).ports = s.ports.set (bayPort b) { s.ports[bayPort b] with
      outbound := s.ports[bayPort b].outbound ++ [signFrame v.serial (signPlate v s)] } := by
  unfold callVisit
  dsimp only
  rw [ports_offer_of_room (by simpa using hup) (by simpa using hroom)]
  simp

/-! ### A run of the arbiter (R83): each call takes a FREE bay, so eight calls leave none to make -/

/-- The bays that are FREE. -/
def freeBays (s : State) : Finset BayId := Finset.univ.filter fun b => s.bays[b].state = .free

/-- A call to a FREE bay leaves one fewer. -/
theorem card_freeBays_callVisit {b : BayId} {s : State} (h : s.bays[b].state = .free) (slot : Slot) (v : Visit) :
    (freeBays (callVisit slot v b s)).card < (freeBays s).card := by
  apply Finset.card_lt_card
  refine Finset.ssubset_iff_of_subset (fun c hc => ?_) |>.2 ⟨b, by simpa [freeBays] using h, ?_⟩
  · simp only [freeBays, Finset.mem_filter, Finset.mem_univ, true_and, bays_callVisit] at hc ⊢
    by_cases hcb : c = b
    · rw [hcb]
      exact h
    · simpa [Vector.getElem_set, Fin.val_inj, Ne.symm hcb] using hc
  · simp [freeBays, bays_callVisit]

theorem nextCall_of_card_freeBays {s : State} (h : (freeBays s).card = 0) : nextCall s = none :=
  nextCall_of_no_free fun b hb => by
    have hmem : b ∈ freeBays s := by simpa [freeBays] using hb
    rw [Finset.card_eq_zero.1 h] at hmem
    cases hmem

theorem arbiterCalls_of_none {s : State} (h : nextCall s = none) (n : Nat) : arbiterCalls n s = s := by
  cases n with
  | zero => rfl
  | succ n => rw [arbiterCalls, h]

theorem arbiterCalls_of_some {s : State} {slot : Slot} {v : Visit} {b : BayId}
    (h : nextCall s = some (slot, v, b)) (n : Nat) :
    arbiterCalls (n + 1) s = arbiterCalls n (callVisit slot v b s) := by
  rw [arbiterCalls, h]

/-- As many calls as bays are FREE leave no call to make. -/
theorem nextCall_arbiterCalls {n : Nat} {s : State} (hn : (freeBays s).card ≤ n) :
    nextCall (arbiterCalls n s) = none := by
  induction n generalizing s with
  | zero => exact nextCall_of_card_freeBays (Nat.le_zero.1 hn)
  | succ n ih =>
    rcases hnext : nextCall s with _ | ⟨slot, v, b⟩
    · rw [arbiterCalls_of_none hnext, hnext]
    · have hfewer := card_freeBays_callVisit (free_of_nextCall hnext) slot v
      rw [arbiterCalls_of_some hnext]
      exact ih (by omega)

/-- A further call allowed changes nothing. -/
theorem arbiterCalls_succ {n : Nat} {s : State} (hn : (freeBays s).card ≤ n) :
    arbiterCalls (n + 1) s = arbiterCalls n s := by
  induction n generalizing s with
  | zero => exact arbiterCalls_of_none (nextCall_of_card_freeBays (Nat.le_zero.1 hn)) 1
  | succ n ih =>
    rcases hnext : nextCall s with _ | ⟨slot, v, b⟩
    · rw [arbiterCalls_of_none hnext, arbiterCalls_of_none hnext]
    · have hfewer := card_freeBays_callVisit (free_of_nextCall hnext) slot v
      rw [arbiterCalls_of_some hnext, arbiterCalls_of_some hnext, ih (by omega)]

theorem card_freeBays_le (s : State) : (freeBays s).card ≤ 8 := Finset.card_le_univ (freeBays s)

theorem arbiter_of_fallback {s : State} (h : s.clock.fallback = true) : arbiter s = s := by
  simp [arbiter, h]

theorem arbiter_eq_arbiterCalls {s : State} (h : s.clock.fallback = false) : arbiter s = arbiterCalls 8 s := by
  simp [arbiter, h]

theorem arbiter_of_none {s : State} (h : nextCall s = none) : arbiter s = s := by
  unfold arbiter
  split
  · rfl
  · exact arbiterCalls_of_none h 8

theorem nextCall_arbiter {s : State} (h : s.clock.fallback = false) : nextCall (arbiter s) = none := by
  rw [arbiter_eq_arbiterCalls h]
  exact nextCall_arbiterCalls (card_freeBays_le s)

/-- A run makes its next call and looks again. -/
theorem arbiter_of_some {s : State} {slot : Slot} {v : Visit} {b : BayId} (h : s.clock.fallback = false)
    (hnext : nextCall s = some (slot, v, b)) : arbiter s = arbiter (callVisit slot v b s) := by
  have hclock : (callVisit slot v b s).clock.fallback = false := by
    rw [clock_of_kept (kept_callVisit slot v b s)]
    exact h
  have hfewer := card_freeBays_callVisit (free_of_nextCall hnext) slot v
  have hbound := card_freeBays_le s
  rw [arbiter_eq_arbiterCalls h, arbiter_eq_arbiterCalls hclock, arbiterCalls_of_some hnext]
  exact (arbiterCalls_succ (by omega)).symm

/-! ### The queue's order (R80) -/

theorem standsBefore_iff {v w : Visit} : standsBefore v w = true ↔
    (v.priority = true ∧ w.priority = false) ∨ (v.priority = w.priority ∧ v.admission < w.admission) := by
  unfold standsBefore
  cases v.priority <;> cases w.priority <;> simp

theorem standsBefore_trans {u v w : Visit} (huv : standsBefore u v = true) (hvw : standsBefore v w = true) :
    standsBefore u w = true := by
  rw [standsBefore_iff] at *
  grind

/-- Of two visits admitted at different times one stands before the other. -/
theorem standsBefore_of_not {v w : Visit} (h : standsBefore v w = false) (hne : w.admission ≠ v.admission) :
    standsBefore w v = true := by
  rw [← Bool.not_eq_true, standsBefore_iff] at h
  rw [standsBefore_iff]
  grind

/-- A visit joins before the first that it precedes: after all of `pre`, which it does not precede. -/
theorem enqueueAt_split (slots : Vector (Option Visit) 64) (slot : Slot) (v : Visit) (queue : List Slot) :
    ∃ pre post, queue = pre ++ post ∧ enqueueAt slots slot v queue = pre ++ slot :: post ∧
      (∀ q ∈ pre, ∀ w, slots[q] = some w → standsBefore v w = false) ∧
      ∀ q qs, post = q :: qs → ∃ w, slots[q] = some w ∧ standsBefore v w = true := by
  induction queue with
  | nil => exact ⟨[], [], rfl, rfl, by simp, by simp⟩
  | cons q qs ih =>
    obtain ⟨pre, post, hqueue, hjoined, hpre, hpost⟩ := ih
    by_cases hfirst : ∃ w, slots[q] = some w ∧ standsBefore v w = true
    · obtain ⟨w, hw, hbefore⟩ := hfirst
      refine ⟨[], q :: qs, rfl, by rw [enqueueAt, hw]; simp [hbefore], by simp, ?_⟩
      rintro _ _ ⟨⟩
      exact ⟨w, hw, hbefore⟩
    · have hpast : enqueueAt slots slot v (q :: qs) = q :: enqueueAt slots slot v qs := by
        rw [enqueueAt]
        split
        · rfl
        · next w hw => rw [if_neg fun hbefore => hfirst ⟨w, hw, hbefore⟩]
      refine ⟨q :: pre, post, by rw [hqueue]; rfl, by rw [hpast, hjoined]; rfl, ?_, hpost⟩
      rintro q' hq' w hw
      rcases List.mem_cons.1 hq' with rfl | hq'
      · exact Bool.eq_false_iff.2 fun hbefore => hfirst ⟨w, hw, hbefore⟩
      · exact hpre q' hq' w hw

/-- A queue in R80's order stays so when a visit joins it that was admitted at another time than each in it. -/
theorem pairwise_enqueue {slot : Slot} {v : Visit} {s : State} (hslot : s.yard.slots[slot] = some v)
    (hothers : ∀ q ∈ s.yard.queue, ∃ w, s.yard.slots[q] = some w ∧ w.admission ≠ v.admission)
    (horder : s.yard.queue.Pairwise (queuedBefore s)) :
    (enqueue slot v s).yard.queue.Pairwise (queuedBefore s) := by
  obtain ⟨pre, post, hqueue, hjoined, hpre, hpost⟩ := enqueueAt_split s.yard.slots slot v s.yard.queue
  rw [enqueue_yard]
  dsimp only
  rw [hjoined]
  rw [hqueue] at horder hothers
  obtain ⟨hordpre, hordpost, hacross⟩ := List.pairwise_append.1 horder
  have hbehind : ∀ q ∈ pre, queuedBefore s q slot := by
    intro q hq w v' hw hv'
    obtain ⟨w', hw', hne⟩ := hothers q (List.mem_append_left _ hq)
    obtain rfl : w' = w := Option.some.inj (hw'.symm.trans hw)
    obtain rfl : v = v' := Option.some.inj (hslot.symm.trans hv')
    exact standsBefore_of_not (hpre q hq w' hw') hne
  have hahead : ∀ q ∈ post, queuedBefore s slot q := by
    intro q hq v' w hv' hw
    obtain rfl : v = v' := Option.some.inj (hslot.symm.trans hv')
    cases post with
    | nil => cases hq
    | cons first rest =>
      obtain ⟨w', hw', hbefore⟩ := hpost first rest rfl
      rcases List.mem_cons.1 hq with rfl | hrest
      · obtain rfl : w' = w := Option.some.inj (hw'.symm.trans hw)
        exact hbefore
      · exact standsBefore_trans hbefore ((List.pairwise_cons.1 hordpost).1 q hrest w' w hw' hw)
  refine List.pairwise_append.2 ⟨hordpre, List.pairwise_cons.2 ⟨hahead, hordpost⟩, fun p hp q hq => ?_⟩
  rcases List.mem_cons.1 hq with rfl | hq
  · exact hbehind p hp
  · exact hacross p hp q hq

/-! ### PRESENCE OFF in a FREE bay (R83, R94) -/

/-- A bay takes a frame of the row's kind at the head of its port's queue (R46, R95). -/
theorem bayFrameRow_of_head {b : BayId} {x : QFrame} {xs : List QFrame} {s : State} (hpart : s.exch.part = .running)
    (hfit : bayFitted b s = true) (hup : s.ports[bayPort b].link = .up) (hin : s.ports[bayPort b].inbound = x :: xs)
    (act : List Byte → State → State) :
    bayFrameRow b x.kind act s = conclude s (act x.payload (takeFrame (bayPort b) s)) := by
  have hframe : bayFrame b x.kind s = some x := by
    have hhead : headFrame (bayPort b) s = some x := by
      unfold headFrame working linkUp
      rw [hpart, hup, hin]
      rfl
    simp [bayFrame, hhead, hfit]
  rw [bayFrameRow, hframe]

theorem presenceFrame_off_of_free {b : BayId} {payload : List Byte} {s : State} (hoff : presenceOf payload = .off)
    (hnew : s.bays[b].presence ≠ .off) (hfree : s.bays[b].state = .free) :
    presenceFrame b payload s = arbiter (setBayWith b (fun x => { x with presence := .off }) s) := by
  have hstate : (setBayWith b (fun x => { x with presence := .off }) s).bays[b].state = .free := by simpa using hfree
  unfold presenceFrame
  dsimp only
  rw [hoff, if_neg hnew, if_neg (by decide), presenceOff, hstate]

/-- The state in which a bay's PRESENCE OFF is acted on: its frame taken, its presence recorded. -/
def presenceOffTaken (b : BayId) (s : State) : State :=
  setBayWith b (fun x => { x with presence := .off }) (takeFrame (bayPort b) s)

section PresenceOff

variable {b : BayId} {s : State}

theorem kept_presenceOffTaken : kept (presenceOffTaken b s) = kept s := by simp [presenceOffTaken]

theorem yard_presenceOffTaken : (presenceOffTaken b s).yard = s.yard := by simp [presenceOffTaken]

theorem tally_presenceOffTaken : (presenceOffTaken b s).tally = s.tally := by simp [presenceOffTaken]

theorem bays_presenceOffTaken :
    (presenceOffTaken b s).bays = s.bays.set b { s.bays[b] with presence := .off } := by simp [presenceOffTaken]

theorem ports_presenceOffTaken : (presenceOffTaken b s).ports =
    s.ports.set (bayPort b) (takeInbound s.latched s.ports[bayPort b]) := by simp [presenceOffTaken]

theorem port_presenceOffTaken : (presenceOffTaken b s).ports[bayPort b] =
    takeInbound s.latched s.ports[bayPort b] := by simp [ports_presenceOffTaken]

/-- Taking a frame brings no port UP or DOWN. -/
theorem linkUp_presenceOffTaken (p : PortId) : linkUp p (presenceOffTaken b s) = linkUp p s := by
  unfold linkUp
  by_cases hp : p = bayPort b
  · rw [hp, port_presenceOffTaken, (takeInbound_spec ..).1]
  · simp [ports_presenceOffTaken, Fin.val_inj, Ne.symm hp]

/-- No other bay being FREE, none is eligible for any visit. -/
theorem eligible_presenceOffTaken_of_ne (hothers : ∀ c : BayId, c ≠ b → s.bays[c].state ≠ .free) {c : BayId}
    (hc : c ≠ b) (v : Visit) : eligible c v (presenceOffTaken b s) = false := by
  refine eligible_of_not_free ?_ v
  simpa [bays_presenceOffTaken, Vector.getElem_set, Fin.val_inj, Ne.symm hc] using hothers c hc

/-- The state with the bay's presence recorded OFF and nothing else changed. -/
def withPresenceOff (b : BayId) (s : State) : State :=
  { s with bays := s.bays.set b { s.bays[b] with presence := .off } }

/-- The frame taken makes no difference to who is eligible. -/
theorem eligible_presenceOffTaken (c : BayId) (v : Visit) :
    eligible c v (presenceOffTaken b s) = eligible c v (withPresenceOff b s) :=
  eligible_congr (kept_presenceOffTaken.trans (kept_withBays _ s).symm) bays_presenceOffTaken
    (linkUp_presenceOffTaken (s := s) (bayPort c)) v

theorem nextCall_presenceOffTaken_eq_none (hothers : ∀ c : BayId, c ≠ b → s.bays[c].state ≠ .free)
    (hnone : ∀ q ∈ s.yard.queue, ∀ w, s.yard.slots[q] = some w → eligible b w (withPresenceOff b s) = false) :
    nextCall (presenceOffTaken b s) = none := by
  rw [nextCall_eq_none_iff, yard_presenceOffTaken]
  intro q hq w hw c
  by_cases hc : c = b
  · rw [hc, eligible_presenceOffTaken]
    exact hnone q hq w hw
  · exact eligible_presenceOffTaken_of_ne hothers hc w

/-- The first queued visit that the bay takes is the next called, and to that bay. -/
theorem nextCall_presenceOffTaken_eq_some (hothers : ∀ c : BayId, c ≠ b → s.bays[c].state ≠ .free)
    {pre post : List Slot} {slot : Slot} {v : Visit} (hqueue : s.yard.queue = pre ++ slot :: post)
    (hslot : s.yard.slots[slot] = some v) (helig : eligible b v (withPresenceOff b s) = true)
    (hpre : ∀ q ∈ pre, ∀ w, s.yard.slots[q] = some w → eligible b w (withPresenceOff b s) = false) :
    nextCall (presenceOffTaken b s) = some (slot, v, b) := by
  rw [nextCall_eq_some_iff, yard_presenceOffTaken]
  refine ⟨pre, post, hqueue, hslot, ?_, fun c hc => eligible_presenceOffTaken_of_ne hothers (ne_of_lt hc) v, ?_⟩
  · rw [eligible_presenceOffTaken]
    exact helig
  · intro q hq w hw c
    by_cases hc : c = b
    · rw [hc, eligible_presenceOffTaken]
      exact hpre q hq w hw
    · exact eligible_presenceOffTaken_of_ne hothers hc w

/-- The called bay was the one FREE bay, so the run ends with that call. -/
theorem arbiter_presenceOffTaken_of_some (hothers : ∀ c : BayId, c ≠ b → s.bays[c].state ≠ .free)
    (hfallback : s.clock.fallback = false) {slot : Slot} {v : Visit}
    (hnext : nextCall (presenceOffTaken b s) = some (slot, v, b)) :
    arbiter (presenceOffTaken b s) = callVisit slot v b (presenceOffTaken b s) := by
  have hclock : (presenceOffTaken b s).clock.fallback = false := by
    rw [clock_of_kept kept_presenceOffTaken]
    exact hfallback
  rw [arbiter_of_some hclock hnext]
  refine arbiter_of_none (nextCall_of_no_free fun c => ?_)
  rw [bays_callVisit, bays_presenceOffTaken]
  by_cases hc : c = b
  · simp [hc]
  · simpa [Vector.getElem_set, Fin.val_inj, Ne.symm hc] using hothers c hc

end PresenceOff

theorem exec_presence_off_of_free {b : BayId} {x : QFrame} {xs : List QFrame} {s : State} (hs : quiet s)
    (hfit : bayFitted b s = true) (hup : s.ports[bayPort b].link = .up) (hin : s.ports[bayPort b].inbound = x :: xs)
    (hkind : x.kind = Kind.presence) (hoff : presenceOf x.payload = .off) (hnew : s.bays[b].presence ≠ .off)
    (hfree : s.bays[b].state = .free) :
    exec (.presence b) s = .next (conclude s (arbiter (presenceOffTaken b s))) := by
  have hexec : exec (.presence b) s = .next (bayFrameRow b Kind.presence (presenceFrame b) s) := rfl
  rw [hexec, ← hkind, bayFrameRow_of_head hs.2.1 hfit hup hin,
    presenceFrame_off_of_free hoff (by rw [bays_takeFrame]; exact hnew) (by rw [bays_takeFrame]; exact hfree)]
  rfl

/-- With no visit for the bay, the frame is taken, the presence recorded, and nothing else changes. -/
theorem conclude_presenceOffTaken {b : BayId} {s : State} (hs : quiet s) :
    conclude s (presenceOffTaken b s) = presenceOffTaken b s :=
  conclude_eq_self hs kept_presenceOffTaken tally_presenceOffTaken linkUp_presenceOffTaken

section PresenceOffCalls

variable {b : BayId} {s : State} (hup : s.ports[bayPort b].link = .up)
  (hroom : s.ports[bayPort b].outbound.length < 16) (slot : Slot) (v : Visit)
include hup hroom

theorem ports_callVisit_presenceOffTaken : (callVisit slot v b (presenceOffTaken b s)).ports =
    s.ports.set (bayPort b) { takeInbound s.latched s.ports[bayPort b] with
      outbound := s.ports[bayPort b].outbound ++ [signFrame v.serial (signPlate v s)] } := by
  obtain ⟨hlink, -, hout⟩ := takeInbound_spec s.latched s.ports[bayPort b]
  have hplate : signPlate v (presenceOffTaken b s) = signPlate v s := by
    unfold signPlate linkedEntry
    rw [table_of_kept kept_presenceOffTaken]
  rw [ports_callVisit_of_room (by rw [port_presenceOffTaken, hlink]; exact hup)
    (by rw [port_presenceOffTaken, hout]; exact hroom), port_presenceOffTaken, ports_presenceOffTaken, hout, hplate,
    Vector.set_set]

theorem linkUp_callVisit_presenceOffTaken (p : PortId) :
    linkUp p (callVisit slot v b (presenceOffTaken b s)) = linkUp p s := by
  unfold linkUp
  rw [ports_callVisit_presenceOffTaken hup hroom]
  by_cases hp : p = bayPort b
  · simp [hp, (takeInbound_spec ..).1]
  · simp [Fin.val_inj, Ne.symm hp]

theorem conclude_callVisit_presenceOffTaken (hs : quiet s) :
    conclude s (callVisit slot v b (presenceOffTaken b s)) = callVisit slot v b (presenceOffTaken b s) :=
  conclude_eq_self hs ((kept_callVisit ..).trans kept_presenceOffTaken)
    ((tally_callVisit ..).trans tally_presenceOffTaken) (linkUp_callVisit_presenceOffTaken hup hroom slot v)

end PresenceOffCalls

/-- A visit that stands in the queue behind others leaves it where it stands. -/
theorem yard_callVisit_of_split {slot : Slot} {pre post : List Slot} {s : State}
    (hqueue : s.yard.queue = pre ++ slot :: post) (hpre : slot ∉ pre) (v : Visit) (b : BayId) :
    (callVisit slot v b s).yard = { s.yard with
      queue := pre ++ post,
      slots := s.yard.slots.set slot (some { v with
        state := .called, bay := some b, callTimer := some s.latched.callLimit }) } := by
  rw [yard_callVisit, hqueue, List.erase_append_right _ hpre, List.erase_cons_head]

/-- PRESENCE OFF in the one FREE bay (R83, R85, R94): the frame leaves its queue, and the first queued visit that the
bay takes, if there is one, is called to it. -/
theorem presence_off_calls {b : BayId} {x : QFrame} {xs : List QFrame} {s : State} (hs : quiet s)
    (hfit : bayFitted b s = true) (hup : s.ports[bayPort b].link = .up) (hin : s.ports[bayPort b].inbound = x :: xs)
    (hroom : s.ports[bayPort b].outbound.length < 16) (hkind : x.kind = Kind.presence)
    (hoff : presenceOf x.payload = .off) (hnew : s.bays[b].presence ≠ .off) (hfree : s.bays[b].state = .free)
    (hothers : ∀ c : BayId, c ≠ b → s.bays[c].state ≠ .free) :
    ∃ t, exec (.presence b) s = .next t ∧ t.ports[bayPort b].inbound = xs ∧
      ((∀ q ∈ s.yard.queue, ∀ w, s.yard.slots[q] = some w → eligible b w (withPresenceOff b s) = false) →
        t.bays = (withPresenceOff b s).bays ∧ t.yard = s.yard) ∧
      (∀ (pre post : List Slot) (slot : Slot) (v : Visit), s.yard.queue = pre ++ slot :: post →
        s.yard.slots[slot] = some v → eligible b v (withPresenceOff b s) = true →
        (∀ q ∈ pre, ∀ w, s.yard.slots[q] = some w → eligible b w (withPresenceOff b s) = false) →
        t.bays = s.bays.set b { s.bays[b] with
          presence := .off, state := .calling, bound := some slot, lastTag := none } ∧
        t.yard = { s.yard with queue := pre ++ post, slots := s.yard.slots.set slot (some { v with
          state := .called, bay := some b, callTimer := some s.latched.callLimit }) } ∧
        t.ports[bayPort b].outbound =
          s.ports[bayPort b].outbound ++ [signFrame v.serial (signPlate v s)]) := by
  refine ⟨_, exec_presence_off_of_free hs hfit hup hin hkind hoff hnew hfree, ?_⟩
  have htail : (takeInbound s.latched s.ports[bayPort b]).inbound = xs := by
    rw [(takeInbound_spec ..).2.1, hin]
    rfl
  rcases hnext : nextCall (presenceOffTaken b s) with _ | ⟨slot, v, c⟩
  case none =>
    rw [arbiter_of_none hnext, conclude_presenceOffTaken hs]
    refine ⟨by rw [port_presenceOffTaken, htail],
      fun _ => ⟨bays_presenceOffTaken, yard_presenceOffTaken⟩, ?_⟩
    intro pre post slot v hqueue hslot helig hpre
    cases hnext.symm.trans (nextCall_presenceOffTaken_eq_some hothers hqueue hslot helig hpre)
  case some =>
    have hcb : c = b := by
      by_contra hne
      obtain ⟨_, _, _, _, helig, _⟩ := nextCall_eq_some_iff.1 hnext
      exact Bool.noConfusion (helig.symm.trans (eligible_presenceOffTaken_of_ne hothers hne v))
    subst hcb
    rw [arbiter_presenceOffTaken_of_some hothers hs.2.2 hnext, conclude_callVisit_presenceOffTaken hup hroom slot v hs]
    have hports := ports_callVisit_presenceOffTaken hup hroom slot v
    refine ⟨by rw [hports]; simpa using htail, fun hnone => ?_, ?_⟩
    · cases hnext.symm.trans (nextCall_presenceOffTaken_eq_none hothers hnone)
    · intro pre post slot' v' hqueue hslot helig hpre
      have hsome := hnext.symm.trans (nextCall_presenceOffTaken_eq_some hothers hqueue hslot helig hpre)
      cases hsome
      have hfirst : slot ∉ pre := fun hmem =>
        Bool.noConfusion (helig.symm.trans (hpre slot hmem v hslot))
      refine ⟨?_, ?_, by rw [hports]; simp⟩
      · rw [bays_callVisit, bays_presenceOffTaken]
        simp
      · rw [yard_callVisit_of_split (by rw [yard_presenceOffTaken]; exact hqueue) hfirst, yard_presenceOffTaken,
          latched_of_kept kept_presenceOffTaken]

/-- Settles O32: eligibility, the arbiter's choice and its run, the run at a PRESENCE OFF, and the queue's order. -/
theorem eligibleBays : Obligations.EligibleBays :=
  ⟨fun _ _ _ => eligible_iff,
    fun _ => arbiter_of_fallback,
    ⟨fun _ _ _ _ => nextCall_eq_some_iff,
      fun _ hclock => ⟨arbiter_of_none, nextCall_arbiter hclock, fun _ _ _ => arbiter_of_some hclock⟩,
      fun _ _ _ _ hs hfit hup hin hroom hkind hoff hnew hfree hothers =>
        presence_off_calls hs hfit hup hin hroom hkind hoff hnew hfree hothers⟩,
    fun _ _ => standsBefore_iff,
    fun slot v s => enqueueAt_split s.yard.slots slot v s.yard.queue,
    fun _ _ _ => pairwise_enqueue⟩

end Sys2Proof.Machine

/-! PROOFS. What a command can change (chapters 1 to 11): every effect is a run of elementary changes, each within a scope,
and the invariants are judged change by change. -/

namespace Sys2Proof.Machine

/-! ### The Exchange Unit and the arrivals under requests and notices -/

@[simp] theorem exch_present (u : UnitId) (i : Issue) (s : State) : (present u i s).exch = s.exch := by
  unfold present; split <;> rfl
@[simp] theorem arrived_present (u : UnitId) (i : Issue) (s : State) :
    (present u i s).path.arrived = s.path.arrived := by
  unfold present; split <;> rfl
@[simp] theorem exch_keepDropPos (n : Notice) (pos : Option Count) (s : State) :
    (keepDropPos n pos s).exch = s.exch := by
  unfold keepDropPos; split <;> rfl
@[simp] theorem arrived_keepDropPos (n : Notice) (pos : Option Count) (s : State) :
    (keepDropPos n pos s).path.arrived = s.path.arrived := by
  unfold keepDropPos; split <;> rfl
@[simp] theorem queue_keepDropPos (n : Notice) (pos : Option Count) (s : State) :
    (keepDropPos n pos s).path.queue = s.path.queue := by
  unfold keepDropPos; split <;> rfl
@[simp] theorem exch_placeTold (u : UnitId) (r : Rec) (a : Nat) (bytes : List Byte) (s : State) :
    (placeTold u r a bytes s).exch = s.exch := by simp [placeTold]
@[simp] theorem arrived_placeTold (u : UnitId) (r : Rec) (a : Nat) (bytes : List Byte) (s : State) :
    (placeTold u r a bytes s).path.arrived = s.path.arrived := by simp [placeTold]

/-- A notice written moves the producer count and drives the attention line, or leaves both and sets OVERRUN (R33, R35). -/
theorem exch_writeNotice (n : Notice) (asked : Stamp) (s : State) :
    (writeNotice n asked s).exch =
      if dist s.exch.taken s.exch.producer < Config.noticeEntries then
        { s.exch with producer := s.exch.producer + 1, attention := s.exch.producer + 1 != s.exch.taken }
      else { s.exch with overrun := true } := by
  unfold writeNotice
  split
  · simp [attentionLevel]
  · dsimp only; split <;> simp

@[simp] theorem arrived_writeNotice (n : Notice) (asked : Stamp) (s : State) :
    (writeNotice n asked s).path.arrived = s.path.arrived := by
  unfold writeNotice
  split
  · simp
  · dsimp only; split <;> simp

/-! ### The request queue keeps its places (R14) -/

theorem length_mergeRefresh {r : Rec} {new : Request} :
    ∀ {l l' : List Request}, mergeRefresh r new l = some l' → l'.length = l.length
  | [], _, h => by simp [mergeRefresh] at h
  | q :: rest, l', h => by
    unfold mergeRefresh at h
    split at h
    · next hr => cases h; simp [length_mergeRefresh hr]
    · split at h
      · cases h; rfl
      · cases h

/-- A queue that an issue joins is no longer, or still within its places. -/
theorem length_joinQueue {i : Issue} {s : State} {q : List Request} (h : joinQueue i s = some q) :
    q.length ≤ s.path.queue.length ∨ q.length ≤ Config.queuePlaces := by
  unfold joinQueue at h
  rcases Option.or_eq_some_iff.1 h with hm | ⟨-, ha⟩
  · cases i with
    | refresh r => exact Or.inl (length_mergeRefresh hm).le
    | read _ _ _ => cases hm
    | place _ _ => cases hm
  · unfold appendIssue at ha
    split at ha
    · next hlt => cases ha; exact Or.inr (by simpa using hlt)
    · cases ha

theorem length_presented {i : Issue} {s : State} {q : List Request} (h : presented i s = some q) :
    q.length ≤ s.path.queue.length ∨ q.length ≤ Config.queuePlaces := by
  unfold presented at h
  split at h
  · exact length_joinQueue h
  · split at h
    · cases h
    · exact length_joinQueue (i := i) (by simp [joinQueue, h])

theorem queueBounded_iff {s : State} : queueBounded s = true ↔ s.path.queue.length ≤ Config.queuePlaces := by
  simp [queueBounded]

theorem queueBounded_present {s : State} (h : queueBounded s = true) (u : UnitId) (i : Issue) :
    queueBounded (present u i s) = true := by
  rw [queueBounded_iff] at h ⊢
  unfold present
  split
  · next q hq => exact (length_presented hq).elim (fun hle => hle.trans h) id
  · exact h

theorem queueBounded_placeTold {s : State} (h : queueBounded s = true) (u : UnitId) (r : Rec) (a : Nat)
    (bytes : List Byte) : queueBounded (placeTold u r a bytes s) = true :=
  queueBounded_present (u := u) (i := .place a bytes) h

theorem queueBounded_congr {s t : State} (h : queueBounded s = true) (hq : t.path.queue = s.path.queue) :
    queueBounded t = true := by
  rw [queueBounded_iff] at h ⊢; rwa [hq]

@[simp] theorem queueBounded_keepDropPos (n : Notice) (pos : Option Count) (s : State) :
    queueBounded (keepDropPos n pos s) = queueBounded s := by simp [queueBounded]

theorem queueBounded_writeNotice {s : State} (h : queueBounded s = true) (n : Notice) (asked : Stamp) :
    queueBounded (writeNotice n asked s) = true := by
  unfold writeNotice
  split
  · apply queueBounded_present
    rw [queueBounded_keepDropPos]
    exact queueBounded_congr (queueBounded_placeTold h ..) rfl
  · have hdrop : queueBounded (keepDropPos n none { s with exch := { s.exch with overrun := true } }) = true := by
      rw [queueBounded_keepDropPos]; exact h
    dsimp only
    split
    · exact hdrop
    · exact queueBounded_present hdrop ..

/-! ### Elementary changes -/

/-- What a command may change beside the records that any event may change. -/
structure Scope where
  mem : Bool := false
  /-- The parameters and the bases. -/
  latched : Bool := false
  map : Bool := false
  copies : Bool := false
  counts : Bool := false
  index : Bool := false
  /-- The drop fields and the ports to host and memory. -/
  host : Bool := false
  calibration : Bool := false
  /-- The clock and the divider count. -/
  now : Bool := false
  /-- An event without a row of its own has its turn. -/
  takes : Bool := false
  /-- A row takes its value or its read, and the positions of the two rings, OVERRUN and the load error may move. -/
  rows : Bool := false

/-- A port's frame queues keep to their places (R46, R49). -/
def Port.withinPlaces (x : Port) : Prop :=
  x.inbound.length ≤ Config.inboundPlaces ∧ x.outbound.length ≤ Config.outboundPlaces

/-- Fresh drawn today by a Water Unit's record (R121). -/
def WaterUnit.fresh (w : WaterUnit) : Nat := w.settled + (w.grants.toList.map grantFresh).sum

theorem freshDrawn_eq (s : State) : freshDrawn s = s.water.fresh := rfl

/-- The two copies of every table are those of another record. -/
def TableUnit.sameCopies (t u : TableUnit) : Prop :=
  t.vehicles = u.vehicles ∧ t.accounts = u.accounts ∧ t.programmes = u.programmes ∧ t.tariffs = u.tariffs

/-- The four copies of a Table Unit's record rise (R138). -/
def TableUnit.sorted (t : TableUnit) : Prop :=
  copySorted t.vehicles ∧ copySorted t.accounts ∧ copySorted t.programmes ∧ copySorted t.tariffs

/-- The monitor, the fault line and the flag stay, or a monitor that has not lapsed moves, lapsing with the fault line
(R176, R177). -/
def monitorMoves (s : State) (c : ClockUnit) : Prop :=
  (c.monitor = s.clock.monitor ∧ c.faultLine = s.clock.faultLine ∧ c.fallback = s.clock.fallback) ∨
  (s.clock.monitor ≠ .lapsed ∧ (working s = true ∨ s.clock.monitor ≠ .idle) ∧
    ((c.monitor ≠ .lapsed ∧ c.faultLine = s.clock.faultLine ∧ c.fallback = s.clock.fallback) ∨
      (c.monitor = .lapsed ∧ c.faultLine = true)))

/-- The counts of the notice ring and the attention line stay, or the line is driven while the ring is accepted (R35). -/
def attentionMoves (s : State) (e : ExchangeUnit) : Prop :=
  (e.attention = s.exch.attention ∧ e.producer = s.exch.producer ∧ e.taken = s.exch.taken) ∨
    (accepted s = true ∧ e.attention = (e.producer != e.taken))

/-- A notice and the completion of LOADING are asked for only while the ring's location is accepted (R33). -/
def Event.needsRing : Event → Bool
  | .ask (.notice _ _) | .ask .complete => true
  | .ask (.refresh _) | .ask .windDown | .value _ | .read _ _ | .told _ | .closing _ => false

/-- An event stands for its unit. -/
def standing (e : Event) (s : State) : Prop := e ∈ s.path.arrived.map Arrival.event

/-- The part has entered HALTED, its port records, monitor and gates set (R28, R43, R176). -/
def haltEntered (s : State) : State :=
  let s2 := refreshNow (.line 0) { s with exch := { s.exch with part := .halted } }
  { s2 with ports := mapVec haltPort s2.ports, clock := monitorHalted s2.clock,
            gate := { s2.gate with entry := .down, pair := none, outcome := none, timer := none,
                                   exitReady := false, recent := [] } }

/-- One elementary change, within a scope. -/
inductive Change (L : Scope) : State → State → Prop where
  | present (s : State) (u : UnitId) (i : Issue) : Change L s (present u i s)
  | makeWay (s : State) (u : UnitId) (r : Rec) : Change L s (makeWay u r s)
  | reach (s : State) (e : Event) (h : e.needsRing = true → accepted s = true)
      (hL : e.unattended = true ∨ L.host = true) : Change L s (reach e s)
  | drop (s : State) (e : Event) (hL : (e.unattended = true ∧ L.takes = true) ∨ L.rows = true) :
      Change L s (dropArrival e s)
  | notice (s : State) (n : Notice) (asked : Stamp) (h : accepted s = true) : Change L s (writeNotice n asked s)
  | takeNotice (s : State) (n : Notice) (asked : Stamp) (h : standing (.ask (.notice n asked)) s)
      (hL : L.takes = true) :
      Change L s (writeNotice n asked (dropArrival (.ask (.notice n asked)) s))
  | exch (s : State) (e : ExchangeUnit) (hpart : e.part = s.exch.part) (h : attentionMoves s e)
      (hL : L.rows = true) :
      Change L s { s with exch := e }
  | ports (s : State) (x : Vector Port 11) (h : ∀ p : PortId, s.ports[p].withinPlaces → x[p].withinPlaces) :
      Change L s { s with ports := x }
  | gate (s : State) (g : GateUnit)
      (h : L.index = true ∨ (g.tagMap = s.gate.tagMap ∧ g.plateMap = s.gate.plateMap)) :
      Change L s { s with gate := g }
  | yard (s : State) (y : YardUnit) : Change L s { s with yard := y }
  | bays (s : State) (x : Vector Bay 8) : Change L s { s with bays := x }
  | water (s : State) (w : WaterUnit)
      (hcal : L.calibration = true ∨
        (w.calibrated = s.water.calibrated ∧ w.calDay = s.water.calDay ∧ w.calTemp = s.water.calTemp))
      (h : w.fresh ≤ s.water.fresh ∨ w.fresh ≤ s.latched.freshAllowance + s.latched.freshReserve) :
      Change L s { s with water := w }
  | table (s : State) (t : TableUnit) (hcopies : (L.copies = true ∧ (s.table.sorted → t.sorted)) ∨ t.sameCopies s.table)
      (hcounts : L.counts = true ∨ (t.counting = s.table.counting ∧ t.loadCounts = s.table.loadCounts))
      (h : t.touched.length ≤ s.table.touched.length ∨ t.touched.length ≤ Config.touchedPlaces) :
      Change L s { s with table := t }
  | tally (s : State) (t : TallyUnit) : Change L s { s with tally := t }
  | clock (s : State) (c : ClockUnit)
      (hnow : L.now = true ∨ (c.now = s.clock.now ∧ c.divider = s.clock.divider)) (h : monitorMoves s c) :
      Change L s { s with clock := c }
  | drawn (s : State) : Change L s (drawn s)
  | loading (s : State) (hpart : s.exch.part = .dormant ∨ s.exch.part = .halted) (h : s.clock.monitor ≠ .lapsed)
      (hmap : L.map = true) (hindex : L.index = true) (hL : L.rows = true) : Change L s (loadingEntered s)
  | refuse (s : State) (e : LoadError) (n : Nat) (hpart : s.exch.part = .loading)
      (hL : L = { L with latched := true, map := true, copies := true, counts := true, index := true,
                         calibration := true, now := true, rows := true }) : Change L s (refusedState e n s)
  | accept (s : State) (c : List Byte) (hpart : s.exch.part = .loading)
      (hL : L = { L with latched := true, map := true, copies := true, counts := true, index := true,
                         calibration := true, now := true, rows := true }) : Change L s (acceptedState c s)
  | run (s : State) (hpart : s.exch.part = .loading) (h : accepted s = true ∨ standing (.ask .complete) s) :
      Change L s { s with exch := { s.exch with part := .running } }
  | stop (s : State) (hpart : s.exch.part = .running) :
      Change L s { s with exch := { s.exch with part := .stopping } }
  | halt (s : State) (hpart : s.exch.part = .stopping) : Change L s (haltEntered s)
  | path (s : State) (x : PathUnit) (hL : L.host = true) (hmap : x.map = s.path.map) (hbases : x.bases = s.path.bases)
      (harr : x.arrived = s.path.arrived)
      (hq : x.queue.length ≤ s.path.queue.length ∨ x.queue.length ≤ Config.queuePlaces)
      (hrun : x.hostRun ≤ s.path.hostRun ∨ x.hostRun ≤ 4) : Change L s { s with path := x }
  | mem (s : State) (m : Memory) (hL : L.mem = true) (h : Memory.wf s.mem = true → Memory.wf m = true) :
      Change L s { s with mem := m }

/-- A run of elementary changes. -/
inductive Run (L : Scope) (s : State) : State → Prop where
  | refl : Run L s s
  | step {t u : State} (h : Run L s t) (c : Change L t u) : Run L s u

/-- What every change keeps, every run keeps. -/
theorem Run.keeps {L : Scope} {P : State → Prop} (hP : ∀ {s t}, Change L s t → P s → P t) {s t : State}
    (h : Run L s t) (hs : P s) : P t := by
  induction h with
  | refl => exact hs
  | step _ c ih => exact hP c ih

/-- What no change alters, no run alters. -/
theorem Run.same {α : Type} {L : Scope} {f : State → α} (hf : ∀ {s t}, Change L s t → f t = f s) {s t : State}
    (h : Run L s t) : f t = f s := by
  induction h with
  | refl => rfl
  | step _ c ih => exact (hf c).trans ih

theorem Run.trans {L : Scope} {s t u : State} (h : Run L s t) (h' : Run L t u) : Run L s u := by
  induction h' with
  | refl => exact h
  | step _ c ih => exact ih.step c

end Sys2Proof.Machine

namespace Sys2Proof.Machine

namespace Run

variable {L : Scope} {s t : State}

/-! ### Requests, notices, refreshes -/

theorem present {u : UnitId} {i : Issue} (h : Run L s t) : Run L s (present u i t) := h.step (.present ..)
theorem makeWay {u : UnitId} {r : Rec} (h : Run L s t) : Run L s (makeWay u r t) := h.step (.makeWay ..)
theorem placeTold {u : UnitId} {r : Rec} {a : Nat} {bytes : List Byte} (h : Run L s t) :
    Run L s (placeTold u r a bytes t) := h.present.makeWay
theorem tellOfLine {r : Rec} {a : State} (h : Run L s t) : Run L s (tellOfLine r a t) := by
  unfold Machine.tellOfLine; split
  · exact h.makeWay
  · exact h
theorem reach {e : Event} (h : Run L s t) (he : e.needsRing = true → accepted t = true)
    (hL : e.unattended = true ∨ L.host = true) : Run L s (reach e t) := h.step (.reach _ _ he hL)
theorem drop {e : Event} (h : Run L s t) (hL : (e.unattended = true ∧ L.takes = true) ∨ L.rows = true) :
    Run L s (dropArrival e t) := h.step (.drop _ _ hL)
theorem dropHanded {x : Handed} (h : Run L s t) (hL : L.rows = true := by rfl) : Run L s (dropHanded x t) :=
  h.drop (Or.inr hL)
theorem dropReturned {r : ReadTag × List Byte} (h : Run L s t) (hL : L.rows = true := by rfl) :
    Run L s (dropReturned r t) := h.drop (Or.inr hL)
theorem drawn (h : Run L s t) : Run L s (drawn t) := h.step (.drawn _)
theorem refreshNow {r : Rec} (h : Run L s t) : Run L s (refreshNow r t) := h.present
theorem refreshAll {rs : List Rec} (h : Run L s t) : Run L s (refreshAll rs t) := by
  induction rs generalizing t with
  | nil => exact h
  | cons r rs ih => exact ih h.refreshNow
theorem notifyNow {n : Notice} (h : Run L s t) : Run L s (notifyNow n t) := by
  unfold Machine.notifyNow; split
  · next ha => exact h.step (.notice _ _ _ ha)
  · exact h
theorem notify {n : Notice} (h : Run L s t) : Run L s (notify n t) := by
  unfold Machine.notify; split
  · next ha =>
    unfold askNotice; split
    · exact h.reach (fun _ => ha) (Or.inl rfl)
    · exact h.step (.notice _ _ _ ha)
  · exact h
theorem post {r : Rec} (h : Run L s t) : Run L s (post r t) := by
  unfold Machine.post; split
  · exact h.reach nofun (Or.inl rfl)
  · exact h.refreshNow
theorem postLine {k : Fin 64} (h : Run L s t) : Run L s (postLine k t) := h.post
theorem postVisit {slot : Slot} (h : Run L s t) : Run L s (postVisit slot t) := h.post
theorem postChanged {k : Fin 64} {a : State} (h : Run L s t) : Run L s (postChanged k a t) := by
  unfold Machine.postChanged; split
  · exact h
  · exact h.postLine
theorem postChangedLines {ks : List (Fin 64)} {a : State} (h : Run L s t) : Run L s (postChangedLines ks a t) := by
  induction ks generalizing t with
  | nil => exact h
  | cons k ks ih => exact ih h.postChanged

/-! ### The units' records -/

theorem withPorts {x : Vector Port 11} (h : Run L s t)
    (hx : ∀ p : PortId, t.ports[p].withinPlaces → x[p].withinPlaces) : Run L s { t with ports := x } :=
  h.step (.ports _ _ hx)
theorem withYard {y : YardUnit} (h : Run L s t) : Run L s { t with yard := y } := h.step (.yard ..)
theorem withBays {x : Vector Bay 8} (h : Run L s t) : Run L s { t with bays := x } := h.step (.bays ..)
theorem withTally {x : TallyUnit} (h : Run L s t) : Run L s { t with tally := x } := h.step (.tally ..)
theorem putGate {g : GateUnit} (h : Run L s t) (htag : g.tagMap = t.gate.tagMap) (hplate : g.plateMap = t.gate.plateMap) :
    Run L s (putGate g t) := h.step (.gate _ _ (Or.inr ⟨htag, hplate⟩))
theorem withWater {w : WaterUnit} (h : Run L s t)
    (hcal : w.calibrated = t.water.calibrated ∧ w.calDay = t.water.calDay ∧ w.calTemp = t.water.calTemp)
    (hw : w.fresh ≤ t.water.fresh) : Run L s { t with water := w } :=
  h.step (.water _ _ (Or.inr hcal) (Or.inl hw))
theorem withExch {e : ExchangeUnit} (h : Run L s t) (hpart : e.part = t.exch.part)
    (hatt : e.attention = t.exch.attention ∧ e.producer = t.exch.producer ∧ e.taken = t.exch.taken)
    (hL : L.rows = true) : Run L s { t with exch := e } :=
  h.step (.exch _ _ hpart (Or.inl hatt) hL)
theorem withTable {x : TableUnit} (h : Run L s t) (hcopies : x.sameCopies t.table)
    (hcounts : x.counting = t.table.counting ∧ x.loadCounts = t.table.loadCounts)
    (htouched : x.touched.length ≤ t.table.touched.length ∨ x.touched.length ≤ Config.touchedPlaces) :
    Run L s { t with table := x } := h.step (.table _ _ (Or.inr hcopies) (Or.inr hcounts) htouched)
theorem putClock {c : ClockUnit} (h : Run L s t)
    (hnow : L.now = true ∨ (c.now = t.clock.now ∧ c.divider = t.clock.divider)) (hc : monitorMoves t c) :
    Run L s (putClock c t) := h.step (.clock _ _ hnow hc)

theorem setPort {p : PortId} {x : Port} (h : Run L s t) (hx : t.ports[p].withinPlaces → x.withinPlaces) :
    Run L s (setPort p x t) := by
  have hset : Run L s { t with ports := t.ports.set p x } := h.withPorts fun q hq => by
    by_cases hpq : (p : ℕ) = q
    · have : p = q := Fin.ext hpq
      subst this; simpa using hx hq
    · simpa [Vector.getElem_set_ne _ _ hpq] using hq
  unfold Machine.setPort; dsimp only; split
  · exact hset.postChanged
  · exact hset
theorem setBay {b : BayId} {x : Bay} (h : Run L s t) : Run L s (setBay b x t) := h.withBays.postChanged
theorem setBayWith {b : BayId} {f : Bay → Bay} (h : Run L s t) : Run L s (setBayWith b f t) := h.setBay
theorem setTank {k : TankId} {x : Tank} (h : Run L s t) : Run L s (setTank k x t) :=
  (h.withWater (w := { t.water with tanks := t.water.tanks.set k x }) ⟨rfl, rfl, rfl⟩ le_rfl).postChanged
theorem setTankWith {k : TankId} {f : Tank → Tank} (h : Run L s t) : Run L s (setTankWith k f t) := h.setTank
theorem setWater {w : WaterUnit} (h : Run L s t)
    (hcal : w.calibrated = t.water.calibrated ∧ w.calDay = t.water.calDay ∧ w.calTemp = t.water.calTemp)
    (hw : w.fresh ≤ t.water.fresh) : Run L s (setWater w t) := (h.withWater hcal hw).postChanged
theorem setTally {x : TallyUnit} (h : Run L s t) : Run L s (setTally x t) := h.withTally.postChanged
theorem setTable {x : TableUnit} (h : Run L s t) (hcopies : x.sameCopies t.table)
    (hcounts : x.counting = t.table.counting ∧ x.loadCounts = t.table.loadCounts)
    (htouched : x.touched.length ≤ t.table.touched.length ∨ x.touched.length ≤ Config.touchedPlaces) :
    Run L s (setTable x t) := (h.withTable hcopies hcounts htouched).postChanged
theorem putVisit {slot : Slot} {v : Option Visit} (h : Run L s t) : Run L s (putVisit slot v t) := h.withYard
theorem setVisit {slot : Slot} {v : Option Visit} (h : Run L s t) : Run L s (setVisit slot v t) := h.putVisit.postVisit
theorem putAccount {a : AccountId} {x : AccountState} (h : Run L s t) : Run L s (putAccount a x t) := h.withTally

/-! ### Ports (chapter 3) -/

theorem portDown {p : PortId} {r : DownReason} (h : Run L s t) : Run L s (portDown p r t) :=
  (h.setPort fun _ => ⟨Nat.zero_le _, Nat.zero_le _⟩).notify
theorem offer {p : PortId} {f : QFrame} (h : Run L s t) : Run L s (offer p f t) := by
  unfold Machine.offer; dsimp only; split
  · split
    · next hroom => exact h.setPort fun hx => ⟨hx.1, by simpa using hroom⟩
    · exact (h.setPort (x := { t.ports[p] with outDiscarded := t.ports[p].outDiscarded + 1 }) id).portDown
  · exact h.setPort (x := { t.ports[p] with outDiscarded := t.ports[p].outDiscarded + 1 }) id
theorem takeFrame {p : PortId} (h : Run L s t) : Run L s (takeFrame p t) := h.setPort fun ⟨hin, hout⟩ => by
  obtain ⟨-, hi, ho⟩ := takeInbound_spec t.latched t.ports[p]
  exact ⟨by rw [hi, List.length_tail]; exact (Nat.sub_le _ _).trans hin, by rw [ho]; exact hout⟩

/-! ### Pages and lines (chapters 9 and 10) -/

theorem pageSearch (h : Run L s t) : Run L s (pageSearch t) := by
  unfold Machine.pageSearch; split
  · exact h.withTally.present
  · exact h
theorem closePage {r : Nat} (h : Run L s t) : Run L s (closePage r t) := by
  unfold Machine.closePage; split
  · exact h
  · exact h.placeTold.notify.setTally
theorem tellPage (h : Run L s t) : Run L s (tellPage t) := by
  unfold Machine.tellPage; split
  · exact h.reach nofun (Or.inl rfl)
  · exact h.closePage
theorem placeItems {a : Nat} {items : List Byte} (h : Run L s t) : Run L s (placeItems a items t) := by
  unfold Machine.placeItems; split
  · exact h
  · exact h.present
theorem placeLine {l : TallyLine} {x : TallyUnit} (h : Run L s t) : Run L s (placeLine l x t) := by
  unfold Machine.placeLine; split
  · exact h
  · dsimp only; split
    · exact h.placeItems.present.placeTold.setTally.closePage.pageSearch
    · exact h.placeItems.present.placeTold.setTally
theorem pendLine {l : TallyLine} {x : TallyUnit} (h : Run L s t) : Run L s (pendLine l x t) := by
  unfold Machine.pendLine; dsimp only; split
  · exact h.setTally.withTally.notify
  · exact h.setTally
theorem composeLine {x : TallyUnit} {r : Bool} {f : Word → List Byte} {items : List Byte} (h : Run L s t) :
    Run L s (composeLine x r f items t) := by
  unfold Machine.composeLine; dsimp only; split
  · exact h.placeLine
  · exact h.pendLine
theorem drainLines {ls : List TallyLine} (h : Run L s t) : Run L s (drainLines ls t) := by
  induction ls generalizing t with
  | nil => exact h
  | cons l ls ih =>
    unfold Machine.drainLines; split
    · exact ih h.placeLine
    · exact h
theorem creditChange {a : AccountId} (h : Run L s t) : Run L s (creditChange a t) := by
  unfold Machine.creditChange; dsimp only; split
  · exact h
  · exact h.putAccount.notify
theorem creditTest {a : AccountId} (h : Run L s t) : Run L s (creditTest a t) := by
  unfold Machine.creditTest; split
  · exact h
  · exact h.creditChange.post
theorem chargeAccount {a : AccountId} {n : Nat} (h : Run L s t) : Run L s (chargeAccount a n t) :=
  h.putAccount.creditTest.post
theorem composeVisitLine {v : Visit} {x : TallyUnit} (h : Run L s t) : Run L s (composeVisitLine v x t) := by
  unfold Machine.composeVisitLine; dsimp only; split
  · exact h.composeLine
  · exact h.composeLine.tellOfLine.chargeAccount
theorem composePayment {a : AccountId} {n : Nat} (h : Run L s t) : Run L s (composePayment a n t) := h.composeLine
theorem composePeriod {a : AccountId} (h : Run L s t) : Run L s (composePeriod a t) := h.composeLine
theorem composeEdit {u : TableId} {i o r n : Nat} (h : Run L s t) : Run L s (composeEdit u i o r n t) := h.composeLine

/-! ### The yard (chapter 5) -/

theorem enqueue {slot : Slot} {v : Visit} (h : Run L s t) : Run L s (enqueue slot v t) := h.withYard
theorem leaveQueue {slot : Slot} (h : Run L s t) : Run L s (leaveQueue slot t) := h.withYard
theorem callVisit {slot : Slot} {v : Visit} {b : BayId} (h : Run L s t) : Run L s (callVisit slot v b t) :=
  h.leaveQueue.setVisit.setBayWith.offer
theorem arbiterCalls {n : Nat} (h : Run L s t) : Run L s (arbiterCalls n t) := by
  induction n generalizing t with
  | zero => exact h
  | succ n ih =>
    unfold Machine.arbiterCalls; split
    · exact h
    · exact ih h.callVisit
theorem arbiter (h : Run L s t) : Run L s (arbiter t) := by
  unfold Machine.arbiter; split
  · exact h
  · exact h.arbiterCalls
theorem unservableCheck {slot : Slot} {v : Visit} (h : Run L s t) : Run L s (unservableCheck slot v t) := by
  unfold Machine.unservableCheck; split
  · exact h
  · exact h.notify
theorem queueVisit {slot : Slot} {v : Visit} (h : Run L s t) : Run L s (queueVisit slot v t) :=
  h.withYard.putVisit.enqueue.unservableCheck.arbiter.postVisit
theorem endCallAtBay {b : BayId} (h : Run L s t) : Run L s (endCallAtBay b t) := by
  unfold Machine.endCallAtBay; dsimp only; split
  · exact h.setBayWith.offer.notify
  · exact h.setBayWith.offer
theorem requeue {slot : Slot} {v : Visit} (h : Run L s t) : Run L s (requeue slot v t) := h.putVisit.enqueue
theorem release {slot : Slot} {v : Visit} {r : VisitReason} (h : Run L s t) : Run L s (release slot v r t) :=
  h.setVisit.notify
theorem withdrawCall {slot : Slot} {v : Visit} {c : Nat} (h : Run L s t) : Run L s (withdrawCall slot v c t) :=
  h.requeue.notify.arbiter.postVisit
theorem expireCall {slot : Slot} {v : Visit} {b : BayId} (h : Run L s t) : Run L s (expireCall slot v b t) := by
  unfold Machine.expireCall; dsimp only; split
  · exact h.endCallAtBay.requeue.notify.arbiter.postVisit
  · exact h.endCallAtBay.release.arbiter

/-! ### The gates (chapter 4) -/

theorem gateWith {e : EntryState} (h : Run L s t) : Run L s (gateWith e t) := h.putGate rfl rfl
theorem raiseBarrier {g : Gate} {n : Count} (h : Run L s t) : Run L s (raiseBarrier g n t) := by
  unfold Machine.raiseBarrier; split
  · exact h.offer
  · exact h.offer.notify
theorem holdVisit {slot : Slot} {v : Visit} {r : VisitReason} (h : Run L s t) : Run L s (holdVisit slot v r t) :=
  h.setVisit.notify
theorem admitVisit {slot : Slot} {v : Visit} (h : Run L s t) : Run L s (admitVisit slot v t) := h.queueVisit.raiseBarrier
theorem settleAdmission {slot : Slot} {v : Visit} (h : Run L s t) : Run L s (settleAdmission slot v t) := by
  unfold Machine.settleAdmission; split
  · exact h.holdVisit
  · exact h.admitVisit
theorem createVisit {p : Pair} {o : Ident} {slot : Slot} (h : Run L s t) : Run L s (createVisit p o slot t) := by
  unfold Machine.createVisit; dsimp only; split
  · exact h.withYard.holdVisit
  · exact h.withYard.holdVisit
  · exact h.withYard.holdVisit
  · exact h.withYard.settleAdmission
theorem reevaluate {l : List Slot} (h : Run L s t) : Run L s (reevaluate l t) := by
  induction l generalizing t with
  | nil => exact h
  | cons a l ih =>
    unfold Machine.reevaluate; split
    · exact ih h
    · exact ih h.settleAdmission
theorem pauseLifted (h : Run L s t) : Run L s (pauseLifted t) := h.reevaluate
theorem creditEased {a : AccountId} (h : Run L s t) : Run L s (creditEased a t) := h.reevaluate
theorem decidePair {p : Pair} (h : Run L s t) : Run L s (decidePair p t) := by
  unfold Machine.decidePair; dsimp only; split
  · exact h.gateWith
  · split
    · exact h.gateWith.createVisit
    · exact notify (h.putGate (g := { t.gate with entry := .blocked, pair := some p, outcome := some (identify p t), timer := none }) rfl rfl)
theorem offerSlot {slot : Slot} (h : Run L s t) : Run L s (offerSlot slot t) := by
  unfold Machine.offerSlot; split
  · dsimp only; split
    · exact h.gateWith
    · exact h.gateWith.createVisit
  · exact h
theorem openPair {x : Sighting} (h : Run L s t) : Run L s (openPair x t) := h.putGate rfl rfl
theorem sameKind {b : Bool} {p : Pair} {x : Sighting} (h : Run L s t) : Run L s (sameKind b p x t) := by
  unfold Machine.sameKind; split
  · exact h
  · dsimp only; split
    · exact h.decidePair
    · exact h.decidePair.openPair
theorem pairSighting {x : Sighting} (h : Run L s t) : Run L s (pairSighting x t) := by
  unfold Machine.pairSighting; split
  · exact h.openPair
  · split
    · split
      · exact h.decidePair
      · exact h.sameKind
    · split
      · exact h.decidePair
      · exact h.sameKind
theorem discardPair {e : EntryState} {r : Nat} (h : Run L s t) : Run L s (discardPair e r t) := by
  unfold Machine.discardPair; split
  · exact h.gateWith
  · exact h.gateWith.notify
theorem entryUp (h : Run L s t) : Run L s (entryUp t) := by
  unfold Machine.entryUp; split
  · exact h.gateWith
  · exact h
theorem exitLost (h : Run L s t) : Run L s (exitLost t) := h.putGate rfl rfl
theorem exitUp (h : Run L s t) : Run L s (exitUp t) := h.putGate rfl rfl
theorem gateStopping (h : Run L s t) : Run L s (gateStopping t) := by
  unfold Machine.gateStopping; split
  · exact h.discardPair
  · exact h.discardPair
  · exact h
  · exact h
theorem addRecent {ts : List Tag} {ps : List Plate} {n : Option Count} (h : Run L s t) :
    Run L s (addRecent ts ps n t) := h.putGate rfl rfl
theorem exitUnmatched {x : Sighting} {r f : Nat} (h : Run L s t) : Run L s (exitUnmatched x r f t) := h.addRecent.notify

/-! ### Closings, the page taken, the pause -/

theorem closeVisit {slot : Slot} {x : TallyUnit} (h : Run L s t) : Run L s (closeVisit slot x t) := by
  unfold Machine.closeVisit; split
  · exact h.setTally
  · dsimp only; split
    · exact h.composeVisitLine.tellOfLine.setVisit.offerSlot
    · exact h.composeVisitLine.tellOfLine.setVisit.offerSlot.raiseBarrier
theorem composeClosings {l : List Slot} (h : Run L s t) : Run L s (composeClosings l t) := by
  induction l generalizing t with
  | nil => exact h
  | cons a l ih =>
    unfold Machine.composeClosings; split
    · exact h
    · exact ih h.closeVisit
theorem serveClosings (h : Run L s t) : Run L s (serveClosings t) := h.composeClosings
theorem takeClosing {slot : Slot} (h : Run L s t) : Run L s (takeClosing slot t) := by
  unfold Machine.takeClosing; split
  · exact h.setTally
  · exact h.closeVisit
theorem handClosing {slot : Slot} (h : Run L s t) : Run L s (handClosing slot t) := by
  unfold Machine.handClosing; split
  · exact h.reach nofun (Or.inl rfl)
  · exact h.takeClosing
theorem closeAtExit {slot : Slot} {v : Visit} {o : Option Outcome} (h : Run L s t) :
    Run L s (closeAtExit slot v o t) := h.setVisit.handClosing
theorem exitAction {slot : Slot} {v : Visit} (h : Run L s t) : Run L s (exitAction slot v t) := by
  unfold Machine.exitAction; dsimp only; split
  · exact h.addRecent.closeAtExit
  · exact h.addRecent.closeAtExit
  · exact h.addRecent.leaveQueue.closeAtExit
  · exact h.addRecent.notify
  · exact h.addRecent.notify
  · exact h.addRecent.notify
  · exact h.addRecent
theorem matchExit {x : Sighting} (h : Run L s t) : Run L s (matchExit x t) := by
  unfold Machine.matchExit; split
  · exact h.exitUnmatched
  · split
    · exact h
    · exact h.exitAction
  · exact h.exitUnmatched
theorem exitSighting {x : Sighting} (h : Run L s t) : Run L s (exitSighting x t) := by
  unfold Machine.exitSighting; split
  · exact h
  · split
    · exact h.exitUnmatched
    · exact h.matchExit
theorem pauseCheck (h : Run L s t) : Run L s (pauseCheck t) := by
  unfold Machine.pauseCheck; dsimp only; split
  · split
    · exact h
    · exact h.setTally.notify
  · split
    · split
      · exact h.setTally.notify
      · exact h.setTally.notify.pauseLifted
    · exact h
theorem takePage {a : Nat} {x : Word} (h : Run L s t) : Run L s (takePage a x t) :=
  h.placeTold.setTally.drainLines.serveClosings
theorem judgePoolEntry {l : List Byte} (h : Run L s t) : Run L s (judgePoolEntry l t) := by
  unfold Machine.judgePoolEntry; dsimp only; split
  · exact h.setTally.notify.pageSearch
  · split
    · exact h.setTally.notify.pageSearch
    · exact h.setTally.takePage

end Run
end Sys2Proof.Machine

namespace Sys2Proof.Machine

/-! ### Fresh drawn today (R121) -/

theorem sum_map_set {α : Type} (f : α → ℕ) (x : α) :
    ∀ (l : List α) (i : ℕ) (hi : i < l.length), ((l.set i x).map f).sum + f l[i] = (l.map f).sum + f x
  | a :: l, 0, _ => by simp; omega
  | a :: l, i + 1, hi => by
    have := sum_map_set f x l i (by simpa using hi)
    simp only [List.set_cons_succ, List.map_cons, List.sum_cons, List.getElem_cons_succ]
    omega

/-- A grant place written: what stood in it leaves fresh drawn today, what is written joins it. -/
theorem fresh_setGrant (w : WaterUnit) (b : BayId) (g : Option Grant) :
    WaterUnit.fresh { w with grants := w.grants.set b g } + grantFresh w.grants[b] = w.fresh + grantFresh g := by
  have hb : b.val < w.grants.toList.length := by simp
  have := sum_map_set grantFresh g w.grants.toList b.val hb
  simp only [WaterUnit.fresh, Vector.toList_set]
  simp only [Vector.getElem_toList] at this
  simp only [Fin.getElem_fin]
  omega

/-- A fresh answer fits the allowance, or the allowance and the reserve (R120). -/
theorem freshAnswer_fits {l : Nat} {d r : Bool} {s : State} (h : freshAnswer l d s = some r) :
    freshDrawn s + l ≤ s.latched.freshAllowance + s.latched.freshReserve := by
  unfold freshAnswer at h
  split at h
  · omega
  · split at h
    · next hr => simp at hr; exact hr.2
    · cases h

/-- A request granted from fresh water fits the allowance and the reserve (R120). -/
theorem answer_fits {w : WaterClass} {l : Nat} {d r : Bool} {src : Source} {s : State}
    (h : answer w l d s = some (src, r)) (hsrc : src = .fresh) :
    freshDrawn s + l ≤ s.latched.freshAllowance + s.latched.freshReserve := by
  have fits : (freshAnswer l d s).map (fun r => (Source.fresh, r)) = some (src, r) →
      freshDrawn s + l ≤ s.latched.freshAllowance + s.latched.freshReserve := fun hf => by
    obtain ⟨x, hx, -⟩ := Option.map_eq_some_iff.1 hf
    exact freshAnswer_fits hx
  unfold answer at h
  split at h
  · split at h
    · cases h; cases hsrc
    · exact fits h
  · exact fits h
  · exact fits h

@[simp] theorem water_setTank (k : TankId) (x : Tank) (s : State) :
    (setTank k x s).water = { s.water with tanks := s.water.tanks.set k x } := water_of_besides (besides_setTank k x s)
@[simp] theorem water_setTankWith (k : TankId) (f : Tank → Tank) (s : State) :
    (setTankWith k f s).water = { s.water with tanks := s.water.tanks.set k (f s.water.tanks[k]) } := by
  simp [setTankWith]
@[simp] theorem water_setWater (w : WaterUnit) (s : State) : (setWater w s).water = w :=
  water_of_besides (besides_setWater w s)
@[simp] theorem water_setGrant (b : BayId) (g : Option Grant) (s : State) :
    (setGrant b g s).water = { s.water with grants := s.water.grants.set b g } :=
  water_of_besides (besides_setGrant b g s)
@[simp] theorem latched_setTank (k : TankId) (x : Tank) (s : State) : (setTank k x s).latched = s.latched :=
  (latched_of_besides (besides_setTank k x s) :)
@[simp] theorem latched_setWater (w : WaterUnit) (s : State) : (setWater w s).latched = s.latched :=
  (latched_of_besides (besides_setWater w s) :)

theorem grantNumbered_eq_some {b : BayId} {n : Nat} {g : Grant} {s : State} (h : grantNumbered b n s = some g) :
    s.water.grants[b] = some g ∧ g.number = n := by
  unfold grantNumbered at h
  rw [Option.filter_eq_some_iff] at h
  exact ⟨h.1, by simpa using h.2⟩

theorem activeFrom_eq_some {b : BayId} {k : TankId} {g : Grant} {s : State} (h : activeFrom b k s = some g) :
    s.water.grants[b] = some g ∧ g.source = .tank k ∧ g.revoked = false := by
  unfold activeFrom at h
  rw [Option.filter_eq_some_iff] at h
  exact ⟨h.1, by simpa using h.2⟩

namespace Run

variable {L : Scope} {s t : State}

/-! ### Water (chapter 7) -/

theorem setGrant {b : BayId} {g : Option Grant} (h : Run L s t)
    (hg : grantFresh g ≤ grantFresh t.water.grants[b] ∨
      freshDrawn t + grantFresh g ≤ t.latched.freshAllowance + t.latched.freshReserve) : Run L s (setGrant b g t) := by
  have hset := fresh_setGrant t.water b g
  have hstep : Run L s { t with water := { t.water with grants := t.water.grants.set b g } } :=
    h.step (.water _ _ (Or.inr ⟨rfl, rfl, rfl⟩) (hg.imp
      (fun hle => Nat.le_of_add_le_add_right (hset.trans_le (Nat.add_le_add_left hle _)))
      (fun hfit => (Nat.le_add_right _ _).trans (hset.trans_le hfit))))
  exact hstep.postChangedLines
theorem issueGrant {b : BayId} {src : Source} {l : Nat} {r : Bool} (h : Run L s t)
    (hfits : src = .fresh → freshDrawn t + l ≤ t.latched.freshAllowance + t.latched.freshReserve) :
    Run L s (issueGrant b src l r t) := by
  have hcount : Run L s { t with water := { t.water with counter := nextGrant t.water.counter } } :=
    h.withWater ⟨rfl, rfl, rfl⟩ le_rfl
  have ends : ∀ {u : State}, Run L s u → Run L s (if r && !u.water.reserveGiven then
      Machine.notify { kind := .allowanceReserve, subject := b.val, first := freshDrawn u,
                       second := u.latched.freshAllowance }
        { u with water := { u.water with reserveGiven := true } }
      else u) := by
    intro u hu
    split
    · exact notify (hu.withWater ⟨rfl, rfl, rfl⟩ le_rfl)
    · exact hu
  cases src with
  | tank k => exact ends (setGrant (setTank hcount) (Or.inl (Nat.zero_le _)))
  | fresh => exact ends (setGrant hcount (Or.inr (hfits rfl)))
  | none => exact ends (setGrant hcount (Or.inl (Nat.zero_le _)))
theorem refuseWater {b : BayId} {l : Nat} (h : Run L s t) : Run L s (refuseWater b l t) := by
  unfold Machine.refuseWater; split
  · exact h
  · exact notify (h.withWater ⟨rfl, rfl, rfl⟩ le_rfl)
theorem joinWaitList {e : WaitEntry} (h : Run L s t) : Run L s (joinWaitList e t) := h.setWater ⟨rfl, rfl, rfl⟩ le_rfl
theorem withdraw {b : BayId} (h : Run L s t) : Run L s (withdraw b t) := h.setWater ⟨rfl, rfl, rfl⟩ le_rfl
theorem removeGrant {b : BayId} {g : Grant} {n : Nat} (h : Run L s t) (hg : t.water.grants[b] = some g) :
    Run L s (removeGrant b g n t) := by
  unfold Machine.removeGrant; dsimp only
  refine postChangedLines ?_
  split
  · exact setGrant (setTank h) (Or.inl (Nat.zero_le _))
  · next hsrc =>
    refine postChangedLines (t := { t with water := { t.water with settled := t.water.settled + min n g.granted,
                                                                   grants := t.water.grants.set b none } })
      (h.withWater ⟨rfl, rfl, rfl⟩ ?_)
    have := fresh_setGrant t.water b none
    simp only [hg, WaterUnit.fresh, grantFresh, hsrc, beq_self_eq_true, if_true] at this ⊢
    omega
  · exact setGrant h (Or.inl (Nat.zero_le _))
theorem joinPump {k : TankId} {kind : PumpKind} (h : Run L s t) : Run L s (joinPump k kind t) :=
  h.setTankWith.setWater ⟨rfl, rfl, rfl⟩ le_rfl
theorem sendPump {r : PumpReq} (h : Run L s t) : Run L s (sendPump r t) :=
  offer (h.setTankWith.setWater ⟨rfl, rfl, rfl⟩ le_rfl)
theorem pumpLook (h : Run L s t) : Run L s (pumpLook t) := by
  unfold Machine.pumpLook; split
  · split
    · exact h
    · exact h.sendPump
  · exact h

/-! ### Sessions (chapter 6) -/

theorem arbiterIfFree {b : BayId} (h : Run L s t) : Run L s (arbiterIfFree b t) := by
  unfold Machine.arbiterIfFree; split
  · exact h.arbiter
  · exact h
theorem endSession {b : BayId} {a : Option AbortReason} (h : Run L s t) : Run L s (endSession b a t) := by
  unfold Machine.endSession; split
  · exact h
  · dsimp only
    refine arbiterIfFree ?_
    split <;> split
    · exact h.setBayWith
    · exact h.setBayWith.setVisit
    · exact h.setBayWith.notify
    · exact h.setBayWith.setVisit.notify
theorem runPart {b : BayId} {r : StageRun} {p : Part} (h : Run L s t) : Run L s (runPart b r p t) := h.setBayWith.offer
theorem askWater {b : BayId} {x : Session} {r : StageRun} (h : Run L s t) : Run L s (askWater b x r t) := by
  unfold Machine.askWater; dsimp only; split
  · next hans => exact (h.issueGrant (answer_fits hans)).runPart
  · exact h.refuseWater.joinWaitList.setBayWith
theorem startPart {b : BayId} (h : Run L s t) : Run L s (startPart b t) := by
  unfold Machine.startPart; split
  · exact h
  · split
    · exact h.endSession
    · split
      · exact h
      · split
        · exact h.runPart
        · exact h.askWater
theorem startSession {b : BayId} {slot : Slot} {v : Visit} (h : Run L s t) : Run L s (startSession b slot v t) := by
  unfold Machine.startSession; dsimp only; split
  · exact h.setVisit.setBayWith.endSession
  · exact h.setVisit.setBayWith.startPart
theorem stopPart {b : BayId} (h : Run L s t) : Run L s (stopPart b t) := h.setBayWith.offer
theorem abortBay {b : BayId} {r : AbortReason} (h : Run L s t) : Run L s (abortBay b r t) := by
  unfold Machine.abortBay; split
  · exact h.withdraw.endSession
  · exact h.setBayWith.stopPart
  · exact h.setBayWith
  all_goals exact h
theorem bayFallback {b : BayId} (h : Run L s t) : Run L s (bayFallback b t) := by
  unfold Machine.bayFallback; split
  · split
    · exact h
    · exact h.endCallAtBay.withdrawCall
  · exact h.withdraw.endSession
  all_goals exact h

/-! ### Supply (R123 to R125, R133) -/

theorem takeRetried {b : BayId} (h : Run L s t) : Run L s (takeRetried b t) := by
  unfold Machine.takeRetried; split
  · exact h
  · split
    · split
      · exact h
      · next hg => exact (h.removeGrant hg).endSession
    · exact h.runPart
theorem retryEntry {e : WaitEntry} (h : Run L s t) : Run L s (retryEntry e t) := by
  unfold Machine.retryEntry; split
  · next hans =>
    refine takeRetried (issueGrant h.withdraw fun hsrc => ?_)
    have := answer_fits hans hsrc
    simpa [freshDrawn, Machine.withdraw] using this
  · exact h.refuseWater
theorem retryEntries {l : List WaitEntry} (h : Run L s t) : Run L s (retryEntries l t) := by
  induction l generalizing t with
  | nil => exact h
  | cons e l ih => exact ih h.retryEntry
theorem retry (h : Run L s t) : Run L s (retry t) := h.retryEntries
theorem bayRevoked {b : BayId} (h : Run L s t) : Run L s (bayRevoked b t) := by
  unfold Machine.bayRevoked; dsimp only; split
  · exact h.setBayWith.stopPart
  · exact h.setBayWith
theorem revokeGrant {b : BayId} {g : Grant} {k : TankId} {r : Nat} (h : Run L s t) (hg : t.water.grants[b] = some g) :
    Run L s (revokeGrant b g k r t) :=
  notify (bayRevoked (setGrant h (Or.inl (by rw [hg]; exact le_rfl))))
theorem revokeEach {k : TankId} {all : Bool} {r : Nat} {bs : List BayId} (h : Run L s t) :
    Run L s (revokeEach k all r bs t) := by
  induction bs generalizing t with
  | nil => exact h
  | cons b bs ih =>
    unfold Machine.revokeEach; split
    · split
      · exact ih h
      · next hg => exact ih (h.revokeGrant (activeFrom_eq_some hg).1)
    · exact h
theorem meetShortfall {k : TankId} (h : Run L s t) : Run L s (meetShortfall k t) := by
  unfold Machine.meetShortfall; split
  · exact h.revokeEach.retry
  · exact h
theorem revokeAll {k : TankId} (h : Run L s t) : Run L s (revokeAll k t) := by
  unfold Machine.revokeAll; split
  · exact h.revokeEach.retry
  · exact h
theorem reportMeter {b : BayId} {n x : Nat} (h : Run L s t) : Run L s (reportMeter b n x t) := by
  unfold Machine.reportMeter; split
  · exact h
  · next g hg =>
    have hset : Run L s (Machine.setGrant b (some { g with metered := g.metered + x }) t) :=
      h.setGrant (Or.inl (by rw [(grantNumbered_eq_some hg).1]; exact le_rfl))
    dsimp only; split
    · exact hset.setTankWith.meetShortfall
    · exact hset
    · exact hset
theorem settleGrant {b : BayId} {n x : Nat} (h : Run L s t) : Run L s (settleGrant b n x t) := by
  unfold Machine.settleGrant; split
  · exact h
  · next hg => exact (h.removeGrant (grantNumbered_eq_some hg).1).retry.pumpLook
theorem dryMeter {b : BayId} {p : Part} {l : Nat} (h : Run L s t) : Run L s (dryMeter b p l t) := by
  unfold Machine.dryMeter; dsimp only; split
  · exact h.setBayWith.notify
  · exact h.setBayWith
theorem applyMeter {b : BayId} {l : Nat} (h : Run L s t) : Run L s (applyMeter b l t) := by
  unfold Machine.applyMeter; split
  · exact h
  · split
    · split
      · exact h.dryMeter
      · exact h.setBayWith.reportMeter
    · split
      · exact h.notify
      · exact h
theorem handSettlement {b : BayId} {p : Part} (h : Run L s t) : Run L s (handSettlement b p t) := by
  unfold Machine.handSettlement; split
  · exact h
  · exact h.settleGrant
theorem afterSettling {b : BayId} (h : Run L s t) : Run L s (afterSettling b t) := by
  unfold Machine.afterSettling; split
  · exact h
  · split
    · split
      · exact h.endSession
      · split
        · exact h.endSession
        · exact h.setBayWith.startPart
    · split
      · exact h.endSession
      · exact h.startPart
theorem settlePart {b : BayId} {x : Bool} (h : Run L s t) : Run L s (settlePart b x t) := by
  unfold Machine.settlePart; split
  · exact h
  · exact h.setBayWith.handSettlement.afterSettling
theorem stationStopped {b : BayId} (h : Run L s t) : Run L s (stationStopped b t) := by
  unfold Machine.stationStopped; split
  · exact h
  · exact h.notify
theorem finalInRunning {b : BayId} {l : Nat} {c : Bool} (h : Run L s t) : Run L s (finalInRunning b l c t) := by
  unfold Machine.finalInRunning; dsimp only; split
  · exact h.setBayWith.applyMeter.settlePart
  · exact h.setBayWith.applyMeter.stationStopped.settlePart
theorem meterFrame {b : BayId} {bs : List Byte} (h : Run L s t) : Run L s (meterFrame b bs t) := by
  unfold Machine.meterFrame; dsimp only; split
  · split
    · exact h.finalInRunning
    · exact h.applyMeter
  · split
    · exact h.applyMeter.settlePart
    · exact h.applyMeter
  all_goals exact h.notify
theorem portLostPart {b : BayId} (h : Run L s t) : Run L s (portLostPart b t) := by
  unfold Machine.portLostPart; split
  · exact h.endSession
  · exact h.setBayWith.handSettlement.endSession
theorem portLostCall {b : BayId} (h : Run L s t) : Run L s (portLostCall b t) := by
  unfold Machine.portLostCall; dsimp only; split
  · exact h.setBayWith
  · exact h.setBayWith.withdrawCall
theorem bayLost {b : BayId} (h : Run L s t) : Run L s (bayLost b t) := by
  unfold Machine.bayLost; dsimp only; split
  · exact h.setBayWith.portLostCall
  · exact h.setBayWith.withdraw.endSession
  · exact h.setBayWith.portLostPart
  · exact h.setBayWith.portLostPart
  · exact h.setBayWith.setBayWith
  all_goals exact h.setBayWith
theorem failRun {c : Nat} (h : Run L s t) : Run L s (failRun c t) := by
  unfold Machine.failRun; split
  · exact h
  · dsimp only
    exact pumpLook (retry (notify (joinPump (setTankWith (h.setWater ⟨rfl, rfl, rfl⟩ le_rfl)))))
theorem finishRun {r : PumpReq} (h : Run L s t) : Run L s (finishRun r t) :=
  pumpLook (retry (setTankWith (h.setWater ⟨rfl, rfl, rfl⟩ le_rfl)))
theorem tankLost {k : TankId} (h : Run L s t) : Run L s (tankLost k t) := by
  unfold Machine.tankLost; split
  · exact h.setTankWith.notify.drawn.drawn
  · exact h
/-- A fold of changes over a list. -/
theorem foldl {α : Type} {f : State → α → State} {l : List α} (hf : ∀ {u} {x}, x ∈ l → Run L s u → Run L s (f u x))
    (h : Run L s t) : Run L s (l.foldl f t) := by
  induction l generalizing t with
  | nil => exact h
  | cons x l ih => exact ih (fun hx => hf (List.mem_cons_of_mem _ hx)) (hf (List.mem_cons_self ..) h)
theorem plantLost (h : Run L s t) : Run L s (plantLost t) := (h.foldl fun _ hu => hu.tankLost).failRun

/-! ### The end of an event (R28, R43, R168) -/

theorem roleLost {p : PortId} (h : Run L s t) : Run L s (roleLost p t) := by
  unfold Machine.roleLost; split
  · exact h.discardPair
  · split
    · exact h.exitLost
    · split
      · exact h.plantLost
      · split
        · exact h.bayLost
        · exact h
theorem roleUp {p : PortId} (h : Run L s t) : Run L s (roleUp p t) := by
  unfold Machine.roleUp; split
  · exact h.entryUp
  · split
    · exact h.exitUp
    · split
      · exact h.pumpLook
      · split
        · exact h.arbiterIfFree
        · exact h
theorem settlePorts {n : Nat} {ups : List PortId} (h : Run L s t) : Run L s (settlePorts n ups t) := by
  induction n generalizing ups t with
  | zero => exact h
  | succ n ih =>
    unfold Machine.settlePorts; split
    · exact h
    · exact ih h.roleLost
theorem tidy {a : State} (h : Run L s t) : Run L s (tidy a t) := by
  unfold Machine.tidy settleLost; split
  · exact h.pauseCheck.settlePorts
  · exact h.pauseCheck

/-! ### The edit window (chapter 8) -/

theorem leaveOpen {u : TableId} {w : Window} {lk : Option Nat} {r : Nat} (h : Run L s t) :
    Run L s (leaveOpen u w lk r t) := by
  have hset : Run L s (editWindow r u (Machine.setTable
      { t.table with window := w, lifetime := none, lockout := lk, touched := [] } t)) :=
    notify (h.setTable ⟨rfl, rfl, rfl, rfl⟩ ⟨rfl, rfl⟩ (Or.inl (Nat.zero_le _)))
  unfold Machine.leaveOpen; dsimp only; split
  · exact hset
  · exact hset.notify
theorem shutWindow (h : Run L s t) : Run L s (shutWindow t) :=
  h.setTable ⟨rfl, rfl, rfl, rfl⟩ ⟨rfl, rfl⟩ (Or.inl le_rfl)
theorem editKey {x : Handed} (h : Run L s t) : Run L s (editKey x t) := by
  unfold Machine.editKey; split
  · split
    · exact h.setTable ⟨rfl, rfl, rfl, rfl⟩ ⟨rfl, rfl⟩ (Or.inl le_rfl)
    · exact h
  · split
    · exact notify (h.setTable ⟨rfl, rfl, rfl, rfl⟩ ⟨rfl, rfl⟩ (Or.inl (Nat.zero_le _)))
    · exact notify (h.setTable ⟨rfl, rfl, rfl, rfl⟩ ⟨rfl, rfl⟩ (Or.inl le_rfl))
  · split
    · exact h.leaveOpen
    · exact h.leaveOpen
  · exact h.setTable ⟨rfl, rfl, rfl, rfl⟩ ⟨rfl, rfl⟩ (Or.inl le_rfl)
theorem editKeyActed {x : Handed} (h : Run L s t) : Run L s (editKeyActed x t) := by
  unfold Machine.editKeyActed; split
  · exact h.editKey
  · exact h
theorem tableExpired (h : Run L s t) : Run L s (tableExpired t) := by
  unfold Machine.tableExpired; split
  · exact h
  · exact h.leaveOpen
theorem tableTold {e : Told} (h : Run L s t) : Run L s (tableTold e t) := by
  unfold Machine.tableTold; split
  · exact h.tableExpired
  · unfold tableFallback; split
    · exact h.leaveOpen
    · exact h.shutWindow
    · exact h.shutWindow
    · exact h
  · unfold tableStopping; split
    · exact h.leaveOpen
    · exact h.shutWindow
    · exact h
    · exact h
  · exact h.shutWindow
  · split
    · exact h.shutWindow
    · exact h
  · exact h
theorem leaveExpiry {e : Told} (h : Run L s t) : Run L s (leaveExpiry e t) := by
  unfold Machine.leaveExpiry; split
  · exact h
  · exact h.reach nofun (Or.inl rfl)
theorem leaveLifetime (h : Run L s t) : Run L s (leaveLifetime t) := by
  unfold Machine.leaveLifetime; split
  · exact h.leaveExpiry
  · exact h
theorem tellTable {e : Told} (h : Run L s t) : Run L s (tellTable e t) := by
  unfold Machine.tellTable; split
  · exact h.leaveLifetime.reach nofun (Or.inl rfl)
  · exact h.tableTold

/-! ### HALTED (R28) -/

theorem enterHalted (h : Run L s t) (hpart : t.exch.part = .stopping) : Run L s (enterHalted t) :=
  ((h.notifyNow.step (.halt _ ((part_of_kept (kept_notifyNow _ t)).trans hpart))).tellTable).tellPage.postLine
theorem part_of_windDownMet (h : windDownMet t = true) : t.exch.part = .stopping := by
  simp only [windDownMet, Bool.and_eq_true, beq_iff_eq] at h
  exact h.1.1.1.1
theorem windDownOwn (h : Run L s t) : Run L s (windDownOwn t) := by
  unfold Machine.windDownOwn; split
  · next hm => exact h.enterHalted (part_of_windDownMet hm)
  · exact h
theorem windDown (h : Run L s t) : Run L s (windDown t) := by
  unfold Machine.windDown; split
  · split
    · exact h
    · exact h.reach nofun (Or.inl rfl)
  · exact h.windDownOwn
theorem conclude {a : State} (h : Run L s t) : Run L s (conclude a t) := h.tidy.windDown
theorem concludeOwn {a : State} (h : Run L s t) : Run L s (concludeOwn a t) := h.tidy.windDownOwn
theorem whenWorking {f : State → State} (h : Run L s t) (hf : working t = true → Run L s (f t)) :
    Run L s (whenWorking f t) := by
  unfold Machine.whenWorking; split
  · next hw => exact (hf hw).conclude
  · exact h
theorem actTold {e : Told} (h : Run L s t) : Run L s (actTold e t) := by
  unfold Machine.actTold; split
  · exact h.closePage
  all_goals exact h.tableTold

/-! ### Events whose turn has come (R14) -/

theorem readLinks (h : Run L s t) : Run L s (readLinks t) :=
  withBays (x := mapVec (fun x : Bay => { x with presence := .unknown }) t.bays)
    (h.putGate (g := { t.gate with entry := if linkUp entryPort t then .ready else .down,
                                   exitReady := linkUp exitPort t }) rfl rfl)
theorem completeLoading (h : Run L s { t with exch := { t.exch with part := .running } }) :
    Run L s (completeLoading t) := by
  have hlinks := h.readLinks
  unfold Machine.completeLoading
  exact pageSearch (refreshAll (notifyNow hlinks))
theorem act {e : Event} (h : Run L s t) (he : standing e t) (hu : e.unattended = true) (hL : L.takes = true) :
    Run L s (act e (dropArrival e t)) := by
  have hdrop : Run L s (dropArrival e t) := h.drop (Or.inl ⟨hu, hL⟩)
  unfold Machine.act; split
  · unfold actAsk; split
    · exact h.step (.takeNotice _ _ _ he hL)
    · exact hdrop.refreshNow
    · split
      · next hp => exact completeLoading (drop (h.step (.run _ hp (Or.inr he))) (Or.inl ⟨hu, hL⟩))
      · exact hdrop
    · exact hdrop.windDownOwn
  · exact hdrop.actTold
  · exact hdrop.takeClosing.conclude
  · exact hdrop
  · exact hdrop
theorem unattended_of_nextDue {e : Event} (h : nextDue t = some e) : e.unattended = true := by
  have := List.find?_some h
  simp_all
theorem serveUpTo {n : Nat} (h : Run L s t) (hL : L.takes = true) : Run L s (serveUpTo n t) := by
  induction n generalizing t with
  | zero => exact h
  | succ n ih =>
    unfold Machine.serveUpTo; split
    · exact h
    · next hdue => exact ih (h.act (List.mem_of_find?_eq_some hdue) (unattended_of_nextDue hdue) hL)
theorem serveWaiting (h : Run L s t) (hL : L.takes = true) : Run L s (serveWaiting t) := h.serveUpTo hL
theorem afterTurn {us : List UnitId} {a : State} (h : Run L s t) (hL : L.takes = true) : Run L s (afterTurn us a t) := by
  unfold Machine.afterTurn; split
  · exact h.serveWaiting hL
  · exact h
theorem takeValue {x : Handed} {f : State → State} (h : Run L s (f (Machine.dropHanded x t)))
    (hL : L.takes = true := by rfl) : Run L s (takeValue x f t) := h.afterTurn hL
theorem takeRead {tag : ReadTag} {data : List Byte} {f : State → State} (h : Run L s t)
    (hf : Run L s (f (Machine.dropReturned (tag, data) t))) (hL : L.takes = true := by rfl) : Run L s (takeRead tag data f t) := by
  unfold Machine.takeRead; split
  · exact hf.afterTurn hL
  · exact h

end Run
end Sys2Proof.Machine

namespace Sys2Proof.Machine

theorem sorted_iff {s : State} : copiesSorted s = true ↔ s.table.sorted := by
  simp [copiesSorted, TableUnit.sorted, and_assoc]

theorem kept_loadAccounts (n i : Nat) (data : List Byte) (s : State) : kept (loadAccounts n i data s) = kept s := by
  induction n generalizing i data s with
  | zero => rfl
  | succ n ih =>
    unfold loadAccounts
    rw [ih]
    split
    · rfl
    · unfold loadAccount; dsimp only
      split <;> split <;> simp
theorem accepted_of_kept {s t : State} (h : kept s = kept t) : accepted s = accepted t := by
  have hmap : s.path.map = t.path.map := congrArg (fun k => k.path.map) h
  simp [accepted, working, part_of_kept h, hmap]

namespace Run

variable {L : Scope} {s t : State}

/-! ### Commits (R146 to R148) -/

theorem storeEntry {u : TableId} {i : Nat} {x : Option Entry} (h : Run L s t) (hL : L.copies = true) :
    Run L s (storeEntry u i x t) := by
  have hsorted : ∀ {y : TableUnit}, { t with table := y } = Machine.storeEntry u i x t → t.table.sorted → y.sorted := by
    intro y hy hs
    have := copiesSorted_storeEntry (t := u) (i := i) (x := x) (sorted_iff.2 hs)
    rw [← hy] at this
    exact sorted_iff.1 this
  cases u <;> exact h.step (.table _ _ (Or.inl ⟨hL, hsorted rfl⟩) (Or.inr ⟨rfl, rfl⟩) (Or.inl le_rfl))
theorem withGate {g : GateUnit} (h : Run L s t) (hL : L.index = true) : Run L s (Machine.putGate g t) :=
  h.step (.gate _ _ (Or.inl hL))
theorem tellAccount {i : Nat} {a : State} (h : Run L s t) : Run L s (tellAccount i a t) := by
  unfold Machine.tellAccount; split
  · exact h
  · dsimp only; split
    · exact h
    · split
      · exact h.creditTest.creditEased
      · exact h.creditTest
theorem acceptEntry {u : TableId} {i : Nat} {x : Option Entry} (h : Run L s t) (hc : L.copies = true)
    (hi : L.index = true) : Run L s (acceptEntry u i x t) := by
  have hstore : Run L s (Machine.storeEntry u i x t) := h.storeEntry hc
  unfold Machine.acceptEntry; dsimp only; split
  · exact hstore.withGate hi
  · exact hstore.tellAccount
  · exact hstore.arbiter
  · exact hstore
theorem finishCommit {u : TableId} {i : Nat} {bytes : List Byte} (h : Run L s t) (hc : L.copies = true)
    (hi : L.index = true) : Run L s (finishCommit u i bytes t) := by
  have herase : Run L s { t with table := { t.table with commits := t.table.commits.erase (u, i) } } :=
    h.withTable ⟨rfl, rfl, rfl, rfl⟩ ⟨rfl, rfl⟩ (Or.inl le_rfl)
  unfold Machine.finishCommit; dsimp only; split
  · exact (herase.acceptEntry hc hi).composeEdit
  · exact (herase.acceptEntry hc hi).composeEdit
  · exact herase.composeEdit
theorem handCommit {u : TableId} {i : Nat} (h : Run L s t) : Run L s (handCommit u i t) :=
  present (h.withTable ⟨rfl, rfl, rfl, rfl⟩ ⟨rfl, rfl⟩ (Or.inl le_rfl))

/-! ### LOADING (chapter 2, R141, R151) -/

theorem readTable {u : TableId} {n : Nat} (h : Run L s t) : Run L s (readTable u n t) := h.present
theorem readBalances {n : Nat} (h : Run L s t) : Run L s (readBalances n t) := h.present
theorem startHanded (h : Run L s t) (hmap : L.map = true) (hi : L.index = true) (hL : L.rows = true) : Run L s (startHanded t) := by
  unfold Machine.startHanded; split
  · next hp =>
    split
    · exact refreshNow (h.withExch rfl ⟨rfl, rfl, rfl⟩ hL)
    · next hm =>
      unfold beginLoading
      exact present (refreshAll (refreshNow (h.step (.loading _ hp hm hmap hi hL))))
  · exact h
theorem hostHalfReturned {c : List Byte} (h : Run L s t) (hp : t.exch.part = .loading)
    (hL : L = { L with latched := true, map := true, copies := true, counts := true, index := true,
                       calibration := true, now := true, rows := true }) : Run L s (hostHalfReturned c t) := by
  unfold Machine.hostHalfReturned; split
  · exact refreshNow (h.step (.refuse _ _ _ hp hL))
  · unfold acceptCopy
    exact readTable (refreshNow (refreshAll (h.step (.accept _ c hp hL))))
theorem addLoadCount {u : TableId} {p r : Nat} (h : Run L s t) (hn : L.counts = true) :
    Run L s (addLoadCount u p r t) :=
  h.step (.table _ _ (Or.inr ⟨rfl, rfl, rfl, rfl⟩) (Or.inl hn) (Or.inl le_rfl))
theorem postLoadCounts (h : Run L s t) (hn : L.counts = true) : Run L s (postLoadCounts t) :=
  postLine (h.step (.table _ _ (Or.inr ⟨rfl, rfl, rfl, rfl⟩) (Or.inl hn) (Or.inl le_rfl)))
theorem loadEntry {u : TableId} {i : Nat} {bytes : List Byte} (h : Run L s t) (hc : L.copies = true)
    (hn : L.counts = true) : Run L s (loadEntry u i bytes t) := by
  unfold Machine.loadEntry; split
  · exact h
  · exact (h.storeEntry hc).addLoadCount hn
  · exact (h.addLoadCount hn).notify
theorem loadEntries {u : TableId} {n i : Nat} {data : List Byte} (h : Run L s t) (hc : L.copies = true)
    (hn : L.counts = true) : Run L s (loadEntries u n i data t) := by
  induction n generalizing i data t with
  | zero => exact h
  | succ n ih => exact ih (h.loadEntry hc hn)
theorem tableReturned {u : TableId} {n : Nat} {data : List Byte} (h : Run L s t) (hc : L.copies = true)
    (hn : L.counts = true) : Run L s (tableReturned u n data t) := by
  have hload : Run L s (Machine.loadEntries u (32 * tableReadLines u / u.entrySize) (2048 / u.entrySize * n) data t) :=
    h.loadEntries hc hn
  unfold Machine.tableReturned nextTableRead; split
  · exact hload.readTable
  · exact hload.readTable
  · split
    · exact hload.readTable
    · exact hload.readTable
  · split
    · exact hload.readTable
    · exact (hload.postLoadCounts hn).readBalances
theorem loadAccount {a : AccountId} {rec : List Byte} (h : Run L s t) : Run L s (loadAccount a rec t) := by
  have hstate : Run L s (Machine.creditChange a (if balanceValid rec then Machine.putAccount a (accountLoaded rec) t
      else Machine.notify { kind := .balanceRejected, subject := a.val, first := lowWord (field 0 8 rec),
                            second := highWord (field 0 8 rec) } (Machine.putAccount a (accountLoaded rec) t))) := by
    refine creditChange ?_
    split
    · exact h.putAccount
    · exact h.putAccount.notify
  unfold Machine.loadAccount; dsimp only
  generalize Machine.creditChange a _ = u at hstate ⊢
  split
  · exact hstate
  · exact hstate.post
theorem loadAccounts {n i : Nat} {data : List Byte} (h : Run L s t) : Run L s (loadAccounts n i data t) := by
  induction n generalizing i data t with
  | zero => exact h
  | succ n ih =>
    unfold Machine.loadAccounts
    refine ih ?_
    split
    · exact h
    · exact h.loadAccount
theorem askCompletion (h : Run L s t) (hp : t.exch.part = .loading) (ha : accepted t = true) :
    Run L s (askCompletion t) := by
  unfold Machine.askCompletion; split
  · exact h.reach (fun _ => ha) (Or.inl rfl)
  · exact completeLoading (h.step (.run _ hp (Or.inl ha)))
theorem balancesReturned {n : Nat} {data : List Byte} (h : Run L s t) (hi : L.index = true)
    (hp : t.exch.part = .loading) (ha : accepted t = true) : Run L s (balancesReturned n data t) := by
  have hload : Run L s (Machine.loadAccounts 128 (128 * n) data t) := h.loadAccounts
  have hkept := kept_loadAccounts 128 (128 * n) data t
  unfold Machine.balancesReturned; dsimp only
  generalize Machine.loadAccounts 128 (128 * n) data t = u at hload hkept ⊢
  split
  · exact hload.readBalances
  · exact askCompletion (hload.withGate hi) ((part_of_kept hkept).trans hp) ((accepted_of_kept hkept).trans ha)
theorem whenAccepted {f : State → State} (h : Run L s t)
    (hf : t.exch.part = .loading → accepted t = true → Run L s (f t)) : Run L s (whenAccepted f t) := by
  unfold Machine.whenAccepted; split
  · next hc => exact hf hc.1 (by simp [accepted, hc.1, hc.2])
  · exact h
theorem beginStopping (h : Run L s t) (hp : t.exch.part = .running) : Run L s (beginStopping t) := by
  unfold Machine.beginStopping
  exact gateStopping (tellTable (refreshNow (notifyNow (h.step (.stop _ hp)))))

/-! ### The clock and the monitor (chapter 11) -/

theorem setMonitor {c : ClockUnit} (h : Run L s t) (hnow : c.now = t.clock.now ∧ c.divider = t.clock.divider)
    (hc : monitorMoves t c) : Run L s (setMonitor c t) := (h.putClock (Or.inr hnow) hc).postChanged
theorem waterRollover (h : Run L s t) : Run L s (waterRollover t) :=
  retry (h.setWater ⟨rfl, rfl, rfl⟩ (Nat.add_le_add_right (Nat.zero_le _) _))
theorem rollover {r : Nat} {d : BitVec 16} (h : Run L s t) : Run L s (rollover r d t) := h.waterRollover.notify.postLine
theorem tellFallback (h : Run L s t) : Run L s (tellFallback t) := (h.foldl fun _ hu => hu.bayFallback).tellTable
/-- A monitor that works or is armed may lapse. -/
theorem lapse {c v : Nat} (h : Run L s t) (hm : t.clock.monitor ≠ .lapsed)
    (hw : working t = true ∨ t.clock.monitor ≠ .idle) : Run L s (lapse c v t) := by
  have hlapsed : Run L s (Machine.putClock { t.clock with
      monitor := .lapsed, countdown := none, faultLine := true,
      fallback := t.clock.fallback || (t.clock.latchedAction == some .fallback) } t) :=
    h.putClock (Or.inr ⟨rfl, rfl⟩) (Or.inr ⟨hm, hw, Or.inr ⟨rfl, rfl⟩⟩)
  unfold Machine.lapse; dsimp only; split
  · exact (postLine (notify hlapsed)).tellFallback
  · exact postLine (notify hlapsed)
theorem serviceOther {v : Option Word} (h : Run L s t) (hw : working t = true) : Run L s (serviceOther v t) := by
  have hlapse : t.clock.monitor ≠ .lapsed → Run L s (lapseValue v t) := fun hm => by
    unfold lapseValue; split
    · exact h.lapse hm (Or.inl hw)
    · exact h.drawn.lapse hm (Or.inl hw)
  unfold Machine.serviceOther; split
  · exact h
  · next hm => exact h.setMonitor ⟨rfl, rfl⟩ (Or.inr ⟨by simp [hm], Or.inl hw, Or.inl ⟨nofun, rfl, rfl⟩⟩)
  · next hm => exact hlapse (by simp [hm])
  · next hm => exact hlapse (by simp [hm])
  · exact h
@[simp] theorem clock_setMonitor (c : ClockUnit) (s : State) : (Machine.setMonitor c s).clock = c := by
  simp only [Machine.setMonitor]
  exact (clock_of_besides (besides_postChanged ..) :)
@[simp] theorem exch_part_setMonitor (c : ClockUnit) (s : State) :
    (Machine.setMonitor c s).exch.part = s.exch.part := by
  simp only [Machine.setMonitor]
  exact (part_of_kept (kept_postChanged 2 s (Machine.putClock c s)) :)
theorem primeArmed (h : Run L s t) (hm : t.clock.monitor = .armed) (hw : working t = true) :
    Run L s (primeArmed t) := by
  have hset : Run L s (Machine.setMonitor { t.clock with monitor := .armedPrimed } t) :=
    h.setMonitor ⟨rfl, rfl⟩ (Or.inr ⟨by simp [hm], Or.inl hw, Or.inl ⟨nofun, rfl, rfl⟩⟩)
  unfold Machine.primeArmed; dsimp only; split
  · exact hset.lapse (by simp) (Or.inr (by simp))
  · exact hset
theorem serviceFirst (h : Run L s t) (hw : working t = true) : Run L s (serviceFirst t) := by
  unfold Machine.serviceFirst; split
  · next hm => exact h.setMonitor ⟨rfl, rfl⟩ (Or.inr ⟨by simp [hm], Or.inl hw, Or.inl ⟨nofun, rfl, rfl⟩⟩)
  · next hm => exact h.primeArmed hm hw
  · exact h.serviceOther hw
  · exact h.serviceOther hw
  · exact h
theorem serviceSecond (h : Run L s t) (hw : working t = true) : Run L s (serviceSecond t) := by
  unfold Machine.serviceSecond; split
  · next hm =>
    unfold armMonitor
    exact notify (h.setMonitor ⟨rfl, rfl⟩ (Or.inr ⟨by simp [hm], Or.inl hw, Or.inl ⟨nofun, rfl, rfl⟩⟩))
  · next hm =>
    unfold reloadMonitor
    exact h.setMonitor ⟨rfl, rfl⟩ (Or.inr ⟨by simp [hm], Or.inl hw, Or.inl ⟨nofun, rfl, rfl⟩⟩)
  · exact h
  · exact h.serviceOther hw
  · exact h

/-! ### The rings and orders (chapter 2) -/

theorem fetchOrder (h : Run L s t) (hL : L.rows = true) : Run L s (fetchOrder t) := by
  unfold Machine.fetchOrder; split
  · exact present (h.withExch rfl ⟨rfl, rfl, rfl⟩ hL)
  · exact h
theorem orderPosted {v x : Count} (h : Run L s t) (hL : L.rows = true) : Run L s (orderPosted v x t) := by
  unfold Machine.orderPosted; split
  · exact fetchOrder (h.withExch rfl ⟨rfl, rfl, rfl⟩ hL) hL
  · exact h.notifyNow
theorem accepted_of_working (hw : working t = true) : accepted t = true := by simp [accepted, hw]
theorem noticeTaken {u : Count} (h : Run L s t) (hw : working t = true) (hL : L.rows = true) : Run L s (noticeTaken u t) := by
  unfold Machine.noticeTaken; split
  · have hdriven : Run L s (driveAttention { t with exch := { t.exch with taken := u } }) :=
      h.step (.exch _ { t.exch with taken := u, attention := t.exch.producer != u } rfl
        (Or.inr ⟨accepted_of_working hw, rfl⟩) hL)
    unfold acceptTaken; dsimp only; split
    · exact refreshNow (hdriven.withExch rfl ⟨rfl, rfl, rfl⟩ hL)
    · exact hdriven
  · exact h.notifyNow
theorem finishOrder {r : Result} (h : Run L s t) (hL : L.rows = true) : Run L s (finishOrder r t) :=
  refreshNow (h.placeTold.withExch rfl ⟨rfl, rfl, rfl⟩ hL)
theorem orderRow {want : Nat → Bool} {f : List Byte → State → Result × State} (h : Run L s t)
    (hf : ∀ {entry} {u : State}, Run L s u → Run L s (f entry u).2) (hL : L.rows = true := by rfl)
    (hT : L.takes = true := by rfl) : Run L s (orderRow want f t) := by
  unfold Machine.orderRow; split
  · exact h
  · unfold runOrder
    exact h.takeRead (fetchOrder (windDownOwn (finishOrder (tidy (hf (h.dropReturned hL))) hL)) hL) hT
theorem onVisit {f : Slot → Visit → List Byte → State → Result × State} {entry : List Byte} (h : Run L s t)
    (hf : ∀ {slot v}, Run L s (f slot v entry t).2) : Run L s (onVisit f entry t).2 := by
  unfold Machine.onVisit; split
  · exact h
  · exact hf

/-! ### The orders (chapters 3 to 11) -/

theorem admitOrder {slot : Slot} {v : Visit} {e : List Byte} (h : Run L s t) : Run L s (admitOrder slot v e t).2 := by
  unfold Machine.admitOrder; split
  · exact h
  · exact h.admitVisit
theorem turnAwayOrder {slot : Slot} {v : Visit} {e : List Byte} (h : Run L s t) :
    Run L s (turnAwayOrder slot v e t).2 := by
  unfold Machine.turnAwayOrder; split
  · exact h
  · split
    · exact h
    · exact takeClosing h.setVisit
theorem setProgrammeOrder {slot : Slot} {v : Visit} {e : List Byte} (h : Run L s t) :
    Run L s (setProgrammeOrder slot v e t).2 := by
  unfold Machine.setProgrammeOrder; dsimp only; split
  · exact h
  · split
    · exact h
    · split
      · exact h
      · unfold programmeSet; dsimp only; split
        · exact arbiter (unservableCheck h.setVisit)
        · split
          · exact settleAdmission h.setVisit
          · exact h.setVisit
theorem cancelOrder {slot : Slot} {v : Visit} {e : List Byte} (h : Run L s t) :
    Run L s (cancelOrder slot v e t).2 := by
  unfold Machine.cancelOrder; split
  · exact h.leaveQueue.release
  · unfold cancelCall; dsimp only; split
    · exact h.release
    · exact h.endCallAtBay.release.arbiter
  all_goals exact h
theorem abortOrder {e : List Byte} (h : Run L s t) : Run L s (abortOrder e t).2 := by
  unfold Machine.abortOrder; split
  · exact h
  · split
    · exact h
    · split
      · exact h
      · split
        · exact h.abortBay
        · exact h
theorem holdOrder {e : List Byte} (h : Run L s t) : Run L s (holdOrder e t).2 := by
  unfold Machine.holdOrder; split
  · exact h
  · split
    · exact h.setBayWith
    · exact h
theorem openOrder {e : List Byte} (h : Run L s t) : Run L s (openOrder e t).2 := by
  unfold Machine.openOrder; split
  · exact h
  · split
    · exact h.setBayWith.arbiter
    · exact h
theorem calibrateOrder {e : List Byte} (h : Run L s t) (hL : L.calibration = true) :
    Run L s (calibrateOrder e t).2 := by
  unfold Machine.calibrateOrder; dsimp only; split
  · exact retry (postChanged (h.step (.water _ _ (Or.inl hL) (Or.inl le_rfl))))
  · exact h
theorem paymentOrder {e : List Byte} (h : Run L s t) : Run L s (paymentOrder e t).2 := by
  unfold Machine.paymentOrder; split
  · exact h
  · dsimp only; split
    · exact h
    · split
      · exact h
      · split
        · exact h
        · exact h.composePayment.tellOfLine.putAccount.creditTest.post.creditEased
theorem closePeriodOrder {e : List Byte} (h : Run L s t) : Run L s (closePeriodOrder e t).2 := by
  unfold Machine.closePeriodOrder; split
  · exact h
  · split
    · exact h
    · exact putAccount (setTally h.composePeriod)
theorem hostStopOrder {b : Bool} {e : List Byte} (h : Run L s t) : Run L s (hostStopOrder b e t).2 := by
  unfold Machine.hostStopOrder; split
  · exact h
  · unfold setHostStop; dsimp only; split
    · exact h
    · exact h.putAccount.post
theorem cutOrder {e : List Byte} (h : Run L s t) : Run L s (cutOrder e t).2 := by
  unfold Machine.cutOrder; split
  · exact h
  · split
    · exact h
    · split
      · exact h
      · exact h.closePage.pageSearch
theorem setClockOrder {e : List Byte} (h : Run L s t) (hL : L.now = true) : Run L s (setClockOrder e t).2 := by
  unfold Machine.setClockOrder; split
  · exact h
  · have hset : Run L s (Machine.putClock { t.clock with
        now := { day := BitVec.ofNat 16 (arg16 4 e), second := arg32 e } } t) :=
      h.putClock (Or.inl hL) (Or.inl ⟨rfl, rfl, rfl⟩)
    unfold setClock; dsimp only; split
    · exact hset.postLine
    · exact hset.rollover
theorem resetPortOrder {e : List Byte} (h : Run L s t) : Run L s (resetPortOrder e t).2 := by
  unfold Machine.resetPortOrder; split
  · exact h
  · next p _ =>
    split
    · exact h
    · exact h.portDown
    · exact h.setPort (x := resetDown t.ports[p]) id

/-! ### The rows on ports, gates, bays and plant -/

theorem portUp {p : PortId} {x : StationState} (h : Run L s t) : Run L s (portUp p x t) := by
  unfold Machine.portUp; dsimp only; split
  · exact roleUp (notify (h.setPort id))
  · exact notify (h.setPort id)

theorem frameArrival {p : PortId} {f : Frame} (h : Run L s t) : Run L s (frameArrival p f t) := by
  unfold Machine.frameArrival; split
  · exact h
  · split
    · exact h.setPort (x := discardInbound t.ports[p]) id
    · split
      · unfold goodArrival; split
        · have hset : Run L s (Machine.setPort p { goodRecord t.ports[p] t with
              station := some (stationOf f.payload) } t) := h.setPort id
          unfold statusArrival; dsimp only; split
          · exact hset.portUp
          · exact hset
        · unfold frameForRole; dsimp only; split
          · split
            · next hroom =>
              refine h.setPort fun hx => ?_
              unfold joinInbound withFlow; dsimp only
              have hlen : (t.ports[p].inbound ++ [{ kind := f.kind, payload := f.payload }] : List QFrame).length ≤
                  Config.inboundPlaces := by simpa [goodRecord] using hroom
              split
              · exact ⟨hlen, hx.2⟩
              · exact ⟨hlen, hx.2⟩
            · unfold overflowArrival; dsimp only; split
              · exact h.setPort id
              · exact notify (h.setPort id)
          · exact h.setPort id
      · unfold badArrival; dsimp only; split
        · exact portDown (h.setPort id)
        · exact h.setPort id

theorem linkFree {p : PortId} {b : Bool} (h : Run L s t) :
    Run L s (Machine.setPort p (linkFreed t.ports[p] b) t) := by
  refine h.setPort fun hx => ?_
  have hend : (endSending t.ports[p]).withinPlaces := by
    unfold endSending; split
    · exact hx
    · exact hx
  unfold linkFreed; dsimp only; split
  · unfold beginSending; split
    · exact hend
    · split
      · exact hend
      · next fs hout =>
        refine ⟨hend.1, ?_⟩
        have := hend.2
        rw [hout, List.length_cons] at this
        exact (Nat.le_succ _).trans this
  · exact hend

theorem sightingRow {g : Gate} {k : Byte} (h : Run L s t) : Run L s (sightingRow g k t) := by
  unfold Machine.sightingRow; split
  · exact h
  · next f _ =>
    refine conclude ?_
    unfold gateSighting; split
    · unfold entrySighting; split
      · exact h.takeFrame
      · split
        · exact h.takeFrame.pairSighting
        · exact h.takeFrame.notify
    · unfold exitTaken; split
      · exact h.takeFrame.exitSighting
      · exact h.takeFrame.notify

theorem bayFrameRow {b : BayId} {k : Byte} {f : List Byte → State → State} (h : Run L s t)
    (hf : ∀ {e} {u : State}, Run L s u → Run L s (f e u)) : Run L s (bayFrameRow b k f t) := by
  unfold Machine.bayFrameRow; split
  · exact h
  · exact (hf h.takeFrame).conclude

theorem startIfArrived {b : BayId} (h : Run L s t) : Run L s (startIfArrived b t) := by
  unfold Machine.startIfArrived; split
  · exact h
  · split
    · exact h.startSession
    · exact h

theorem presenceFrame {b : BayId} {e : List Byte} (h : Run L s t) : Run L s (presenceFrame b e t) := by
  unfold Machine.presenceFrame; dsimp only; split
  · exact h
  · split
    · unfold presenceOn; split
      · exact h.setBayWith.startIfArrived
      · exact h.setBayWith.notify
      · exact h.setBayWith.notify
      all_goals exact h.setBayWith
    · unfold presenceOff; split
      · exact h.setBayWith.setBayWith
      · exact h.setBayWith.arbiter
      · exact h.setBayWith
      · exact h.setBayWith.abortBay
      · exact h.setBayWith.abortBay
      · exact h.setBayWith.abortBay
      · exact h.setBayWith.setBayWith.arbiterIfFree
      · exact h.setBayWith

theorem bayTagFrame {b : BayId} {e : List Byte} (h : Run L s t) : Run L s (bayTagFrame b e t) := by
  unfold Machine.bayTagFrame; split
  · exact h.notify
  · split
    · split
      · exact h
      · unfold calledTag; split
        · exact h
        · dsimp only; split
          · exact h.setBayWith.startIfArrived
          · exact h.setBayWith.notify
    · exact h

theorem plantRow {k : Byte} {f : TankId → QFrame → State → State} (h : Run L s t)
    (hf : ∀ {j x} {u : State}, Run L s u → Run L s (f j x u)) : Run L s (plantRow k (onTank k f) t) := by
  unfold Machine.plantRow; split
  · exact h
  · refine conclude ?_
    unfold onTank; split
    · exact h.takeFrame.notify
    · exact hf h.takeFrame

theorem levelFrame {k : TankId} {f : QFrame} (h : Run L s t) : Run L s (levelFrame k f t) := by
  unfold Machine.levelFrame; dsimp only; split
  · exact h.setTankWith.notify.meetShortfall.retry
  · exact h.setTankWith.meetShortfall.retry

theorem sampleFrame {k : TankId} {f : QFrame} (h : Run L s t) : Run L s (sampleFrame k f t) := by
  unfold Machine.sampleFrame; split
  · exact h
  · dsimp only; split
    · unfold expiredSample; dsimp only; split
      · exact h.setTankWith
      · exact notify (h.setTankWith.setWater ⟨rfl, rfl, rfl⟩ le_rfl)
    · have hq : ∀ {o n : Quality} {m y : Nat} {u : State}, Run L s u → Run L s (noteQuality k o n m y u) := by
        intro o n m y u hu
        unfold noteQuality; split
        · exact hu
        · exact hu.notify
      have he : ∀ {q : Quality} {b : Bool} {u : State}, Run L s u → Run L s (qualityEffect k q b u) := by
        intro q b u hu
        unfold qualityEffect; split
        · split
          · exact hu.retry
          · exact hu
        · exact hu
        · exact hu.revokeAll.joinPump.pumpLook
      exact he (hq (setTankWith (h.setWater ⟨rfl, rfl, rfl⟩ le_rfl)))

theorem pumpDoneFrame {k : TankId} {f : QFrame} (h : Run L s t) : Run L s (pumpDoneFrame k f t) := by
  have hans : ∀ {kind : PumpKind} {ok late : Bool}, Run L s (pumpAnswer k kind ok late t) := by
    intro kind ok late
    unfold pumpAnswer; split
    · exact h.notify
    · split
      · split
        · exact h.finishRun
        · exact h.failRun
      · exact h.notify
  unfold Machine.pumpDoneFrame; split
  · exact h.notify
  · split
    · exact hans
    · split
      · exact hans
      · exact h.notify

theorem overtakeDone (h : Run L s t) : Run L s (overtakeDone t) := by
  unfold Machine.overtakeDone; split
  · exact h
  · exact h.setPort fun hx => ⟨by simpa using hx.1, hx.2⟩

theorem circulationReached {k : TankId} (h : Run L s t) : Run L s (circulationReached k t) := by
  unfold Machine.circulationReached; dsimp only; split
  · exact h.setTankWith.postLine
  · exact h.setTankWith.postLine.joinPump.pumpLook

end Run
end Sys2Proof.Machine

namespace Sys2Proof.Machine

@[simp] theorem getElem_mapVec {α β : Type} {n : ℕ} (f : α → β) (v : Vector α n) (i : ℕ) (h : i < n) :
    (mapVec f v)[i] = f v[i] := by
  simp [mapVec]

@[simp] theorem getElem_vecOf {α : Type} {n : ℕ} (f : Fin n → α) (i : ℕ) (h : i < n) : (vecOf n f)[i] = f ⟨i, h⟩ := by
  simp [vecOf]

/-- The next state of an outcome, if it has one, ends a run. -/
def Ends (L : Scope) (s : State) (o : Host.Outcome State Fault Refusal) : Prop := ∀ t, o = .next t → Run L s t

theorem Ends.next {L : Scope} {s t : State} (h : Run L s t) : Ends L s (.next t) := fun _ ht => by cases ht; exact h
theorem Ends.fault {L : Scope} {s : State} {f : Fault} : Ends L s (.fault f) := fun _ ht => by cases ht

/-! ### The timers' rows and the boundary (chapter 11) -/

section Rows
variable {L : Scope} {s : State}

theorem ends_execLinkTimer (p : PortId) : Ends L s (execLinkTimer p s) := by
  unfold execLinkTimer; split
  · exact .next (Run.refl.portDown.conclude)
  · exact .next .refl
theorem ends_execPairingTimer : Ends L s (execPairingTimer s) := by
  unfold execPairingTimer; split
  · exact .next .refl
  · exact .next (Run.refl.decidePair.conclude)
theorem ends_execRecentExitExpiry : Ends L s (execRecentExitExpiry s) := .next (Run.refl.putGate rfl rfl)
theorem ends_execCallTimer (slot : Slot) : Ends L s (execCallTimer slot s) := by
  unfold execCallTimer; split
  · exact .next .refl
  · exact .next (Run.refl.expireCall.conclude)
theorem ends_execStageTimer (b : BayId) : Ends L s (execStageTimer b s) := by
  unfold execStageTimer; split
  · exact .next (Run.refl.stopPart.conclude)
  · exact .next .refl
theorem ends_execPumpTimer : Ends L s (execPumpTimer s) := by
  unfold execPumpTimer; split
  · exact .next (Run.refl.overtakeDone.failRun.conclude)
  · exact .next .refl
theorem ends_execCirculationDue (k : TankId) : Ends L s (execCirculationDue k s) := by
  unfold execCirculationDue; split
  · exact .next (Run.refl.circulationReached.conclude)
  · exact .next .refl
theorem ends_execTankStale (k : TankId) : Ends L s (execTankStale k s) := by
  unfold execTankStale tankGoesStale; split
  · exact .next (Run.refl.setTankWith.notify.conclude)
  · exact .next .refl
theorem ends_execLifetimeTimer : Ends L s (execLifetimeTimer s) := by
  unfold execLifetimeTimer; split
  · exact .next Run.refl.leaveLifetime
  · exact .next Run.refl.tableExpired
theorem ends_execLockoutTimer : Ends L s (execLockoutTimer s) := by
  unfold execLockoutTimer; split
  · refine .next ?_
    split
    · exact Run.refl.leaveExpiry
    · exact Run.refl.shutWindow
  · exact .next .refl
theorem ends_execMonitorCountdown : Ends L s (execMonitorCountdown s) := by
  unfold execMonitorCountdown; split
  · next hdue =>
    simp only [monitorDue, Bool.and_eq_true, Bool.or_eq_true, beq_iff_eq] at hdue
    refine .next (Run.conclude (Run.refl.lapse ?_ (Or.inr ?_)))
    · rcases hdue.1 with h | h <;> simp [h]
    · rcases hdue.1 with h | h <;> simp [h]
  · exact .next .refl

theorem ends_timerRows {r : State → Host.Outcome State Fault Refusal} (hr : r ∈ timerRows) : Ends L s (r s) := by
  simp only [timerRows, List.mem_append, List.mem_map, List.mem_cons, List.not_mem_nil, or_false] at hr
  rcases hr with ((((((⟨p, -, rfl⟩ | rfl | rfl) | ⟨slot, -, rfl⟩) | ⟨b, -, rfl⟩) | rfl) | ⟨k, -, rfl⟩) | ⟨k, -, rfl⟩) |
    rfl | rfl | rfl
  · exact ends_execLinkTimer p
  · exact ends_execPairingTimer
  · exact ends_execRecentExitExpiry
  · exact ends_execCallTimer slot
  · exact ends_execStageTimer b
  · exact ends_execPumpTimer
  · exact ends_execCirculationDue k
  · exact ends_execTankStale k
  · exact ends_execLifetimeTimer
  · exact ends_execLockoutTimer
  · exact ends_execMonitorCountdown

end Rows

namespace Run
variable {L : Scope} {s t : State}

theorem after {r : State → Host.Outcome State Fault Refusal} (h : Run L s t) (hr : Ends L t (r t)) :
    Run L s (after r t) := by
  unfold Machine.after; split
  · next hn => exact h.trans (hr _ hn)
  · exact h
  · exact h
theorem serveDue (h : Run L s t) : Run L s (serveDue t) := by
  unfold Machine.serveDue; split
  · exact h.foldl fun hr hu => hu.after (ends_timerRows hr)
  · exact h
theorem tickTimers (h : Run L s t) : Run L s (tickTimers t) := by
  have hports : Run L s { t with ports := mapVec tickPort t.ports } := h.withPorts fun p hp => by
    rw [Fin.getElem_fin, getElem_mapVec]; exact hp
  have hgate := hports.putGate (g := { t.gate with timer := countDown t.gate.timer,
                                                    recent := t.gate.recent.map tickRecent }) rfl rfl
  have hbays := (hgate.withYard (y := { t.yard with slots := mapVec tickVisit t.yard.slots })).withBays
    (x := mapVec tickBay t.bays)
  have hwater := hbays.withWater (w := { t.water with tanks := tickTanks t, pumpTimer := countDown t.water.pumpTimer })
    ⟨rfl, rfl, rfl⟩ le_rfl
  have htable := hwater.withTable (x := { t.table with lifetime := countDown t.table.lifetime,
                                                       lockout := countDown t.table.lockout })
    ⟨rfl, rfl, rfl, rfl⟩ ⟨rfl, rfl⟩ (Or.inl le_rfl)
  exact htable.putClock (c := { t.clock with countdown := countDown t.clock.countdown }) (Or.inr ⟨rfl, rfl⟩)
    (Or.inl ⟨rfl, rfl, rfl⟩)
theorem advanceClock (h : Run L s t) (hL : L.now = true) : Run L s (advanceClock t) := by
  have hnow : Run L s (Machine.putClock { t.clock with now := nextStamp t.clock.now } t) :=
    h.putClock (Or.inl hL) (Or.inl ⟨rfl, rfl, rfl⟩)
  unfold Machine.advanceClock; dsimp only; split
  · exact hnow
  · exact hnow.rollover
theorem boundary (h : Run L s t) (hL : L.now = true) : Run L s (boundary t) := by
  unfold Machine.boundary; dsimp only; split
  · exact (h.serveDue.tickTimers.advanceClock hL).conclude
  · exact h.serveDue
theorem withDivider {n : Nat} (h : Run L s t) (hL : L.now = true) :
    Run L s (Machine.putClock { t.clock with divider := n } t) := h.putClock (Or.inl hL) (Or.inl ⟨rfl, rfl, rfl⟩)
theorem referencePeriod (h : Run L s t) (hL : L.now = true) : Run L s (referencePeriod t) := by
  unfold Machine.referencePeriod; split
  · split
    · exact h.withDivider hL
    · exact (h.withDivider hL).boundary hL
  · exact h

/-! ### The memory path (chapter 1) -/

/-- The registers of the processor port, the memory port and the drops change. -/
theorem withHost {x : PathUnit} (h : Run L s t) (hL : L.host = true) (hmap : x.map = t.path.map)
    (hbases : x.bases = t.path.bases) (harr : x.arrived = t.path.arrived) (hq : x.queue = t.path.queue)
    (hrun : x.hostRun = t.path.hostRun) : Run L s { t with path := x } :=
  h.step (.path _ _ hL hmap hbases harr (Or.inl (by rw [hq])) (Or.inl (by rw [hrun])))
theorem drainHeld {hs : List Held} (h : Run L s t) (hL : L.host = true) : Run L s (drainHeld hs t) := by
  induction hs generalizing t with
  | nil => exact h.withHost hL rfl rfl rfl rfl rfl
  | cons x hs ih =>
    unfold Machine.drainHeld; split
    · next q hq => exact ih (h.step (.path _ _ hL rfl rfl rfl (length_joinQueue hq) (Or.inl le_rfl)))
    · exact h.withHost hL rfl rfl rfl rfl rfl
theorem holdHost {op : HostOp} {a : Nat} {hands : List Handed} (h : Run L s t) (hL : L.host = true) :
    Run L s (holdHost op a hands t) := h.withHost hL rfl rfl rfl rfl rfl
theorem guardedTouch {e : Nat} {c : Bool} (h : Run L s t) (hroom : touchedRoom e t = true) :
    Run L s (guardedTouch e c t) := by
  unfold Machine.guardedTouch; split
  · exact setTally (h.setTable ⟨rfl, rfl, rfl, rfl⟩ ⟨rfl, rfl⟩ (Or.inl List.length_erase_le))
  · split
    · exact h
    · next hnew =>
      refine h.setTable ⟨rfl, rfl, rfl, rfl⟩ ⟨rfl, rfl⟩ (Or.inr ?_)
      have hlt : t.table.touched.length < Config.touchedPlaces := by
        simp only [touchedRoom, Bool.or_eq_true, decide_eq_true_eq] at hroom
        exact hroom.resolve_left hnew
      simpa using hlt
theorem editRefused {u : TableId} {e : Nat} (h : Run L s t) : Run L s (editRefused u e t) := by
  unfold Machine.editRefused; split
  · split
    · split
      · exact h
      · exact notify (h.withTable ⟨rfl, rfl, rfl, rfl⟩ ⟨rfl, rfl⟩ (Or.inl le_rfl))
    · split
      · exact h
      · exact notify (h.withTable ⟨rfl, rfl, rfl, rfl⟩ ⟨rfl, rfl⟩ (Or.inl le_rfl))
  · exact h
theorem dropWrite {addr : Word} {c : DropClass} (h : Run L s t) (hL : L.host = true) :
    Run L s (dropWrite addr c t) := by
  have hdropped := present (u := .path) (i := .refresh (.line 1)) (h.withHost (x := { t.path with
    dropped := t.path.dropped + 1, dropAddr := addr, dropClass := some c }) hL rfl rfl rfl rfl rfl)
  unfold Machine.dropWrite dropNotice; dsimp only; split
  · exact hdropped
  · exact hdropped.notify
/-- A write into a guarded table is forwarded only where its entry has room (R144). -/
theorem guardedForward_of_dropOf {a e : Nat} {u : TableId} (hdrop : dropOf a t = none)
    (hentry : guardedEntry a t = some (u, e)) : guardedForward u e t = true := by
  unfold guardedEntry at hentry
  unfold dropOf at hdrop
  split at hentry
  · next hplace =>
    cases hentry
    simp only [hplace] at hdrop
    by_contra hno
    simp [hno] at hdrop
  all_goals cases hentry
theorem writeArrives {span : Span} {addr : Word} {bytes : List (Option Byte)} (h : Run L s t) (hL : L.host = true) :
    Run L s (writeArrives span addr bytes t) := by
  unfold Machine.writeArrives; split
  · split
    · refine dropWrite ?_ hL
      unfold refusalNotice; split
      · exact h
      · exact h.editRefused
    · next hdrop =>
      unfold forwardWrite; split
      · next u e hentry =>
        have hroom : touchedRoom e t = true := by
          have := guardedForward_of_dropOf hdrop hentry
          simp only [guardedForward, Bool.and_eq_true] at this
          exact this.1.2
        exact pauseCheck (holdHost (h.guardedTouch hroom) hL)
      · exact h.holdHost hL
  · exact h.holdHost hL
theorem acceptOps {ops : List HostOp} (h : Run L s t) (hL : L.host = true) : Run L s (acceptOps ops t) := by
  induction ops generalizing t with
  | nil => exact h.withHost hL rfl rfl rfl rfl rfl
  | cons op ops ih =>
    unfold Machine.acceptOps; split
    · refine ih ?_
      unfold arrive; split
      · exact h.holdHost hL
      · exact h.writeArrives hL
    · exact h.withHost hL rfl rfl rfl rfl rfl
theorem handAll {hs : List Handed} (h : Run L s t) (hL : L.host = true) : Run L s (handAll hs t) := by
  induction hs generalizing t with
  | nil => exact h
  | cons x hs ih => exact ih (h.reach nofun (Or.inr hL))
theorem finishPort (h : Run L s t) (hL : L.host = true) (hM : L.mem = true) : Run L s (finishPort t) := by
  unfold Machine.finishPort; split
  · exact h
  · unfold performRequest; dsimp only; split
    · exact reach (h.withHost hL rfl rfl rfl rfl rfl) nofun (Or.inr hL)
    · exact (h.step (.mem _ _ hM (Memory.wf_writeBytes _ _))).withHost hL rfl rfl rfl rfl rfl
    · exact (h.step (.mem _ _ hM (Memory.wf_writeBytes _ _))).withHost hL rfl rfl rfl rfl rfl
  · split
    · exact h.withHost hL rfl rfl rfl rfl rfl
    · unfold performHost; dsimp only; split
      · exact h.withHost hL rfl rfl rfl rfl rfl
      · exact handAll ((h.step (.mem _ _ hM (Memory.wf_writeMasked _ _))).withHost hL rfl rfl rfl rfl rfl) hL
theorem grant (h : Run L s t) (hL : L.host = true) : Run L s (grant t) := by
  unfold Machine.grant; split
  · split
    · exact h.step (.path _ _ hL rfl rfl rfl (Or.inl le_rfl) (Or.inr (Nat.zero_le _)))
    · exact h
  · next r rest hq =>
    split
    · next hc =>
      refine h.step (.path _ _ hL rfl rfl rfl (Or.inl le_rfl) (Or.inr ?_))
      simp only [Bool.and_eq_true, decide_eq_true_eq] at hc
      exact hc.2
    · unfold grantHead drainQueue
      refine drainHeld (h.step (.path _ _ hL rfl rfl rfl (Or.inl ?_) (Or.inr (Nat.zero_le _)))) hL
      simp [hq]
theorem portFree (h : Run L s t) (hL : L.host = true) (hM : L.mem = true) : Run L s (portFree t) :=
  ((h.finishPort hL hM).acceptOps hL).grant hL

end Run

/-! ### Every command's run -/

/-- What each command may change beside the records that any event may change. -/
def scope : Instr → Scope
  | .hostRead _ _ | .hostWrite _ _ _ => { host := true }
  | .memoryPortFree => { host := true, mem := true, takes := true }
  | .startValue => { map := true, index := true, takes := true, rows := true }
  | .hostHalfRead =>
    { latched := true, map := true, copies := true, counts := true, index := true, calibration := true, now := true,
      takes := true, rows := true }
  | .tableRead => { copies := true, counts := true, takes := true, rows := true }
  | .balanceRead => { index := true, takes := true, rows := true }
  | .commitReadback => { copies := true, index := true, takes := true, rows := true }
  | .calibrate => { calibration := true, takes := true, rows := true }
  | .depotSecondBoundary | .setClock => { now := true, takes := true, rows := true }
  | _ => { takes := true, rows := true }

/-- Every command but the reset input is a run of changes within its scope. -/
theorem ends_exec (c : Instr) (hc : c ≠ .resetInput) (s : State) : Ends (scope c) s (exec c s) := by
  cases c with
  | hostRead span addr =>
    show Ends _ s (execHostRead span addr s)
    unfold execHostRead; split
    · exact .next (Run.refl.acceptOps rfl)
    · exact .fault
  | hostWrite span addr bytes =>
    show Ends _ s (execHostWrite span addr bytes s)
    unfold execHostWrite; split
    · exact .next (Run.refl.acceptOps rfl)
    · exact .fault
  | memoryPortFree => exact .next (Run.serveWaiting (Run.refl.portFree rfl rfl) rfl)
  | startValue =>
    show Ends _ s (execStartValue s)
    unfold execStartValue; split
    · exact .next (Run.takeValue (Run.refl.dropHanded.startHanded rfl rfl rfl))
    · exact .next .refl
  | stopValue =>
    show Ends _ s (execStopValue s)
    unfold execStopValue; split
    · refine .next (Run.takeValue ?_)
      unfold stopHanded; split
      · next hp => exact (Run.refl.dropHanded.beginStopping hp).concludeOwn
      · exact Run.refl.dropHanded
    · exact .next .refl
  | hostHalfRead =>
    show Ends _ s (execHostHalfRead s)
    unfold execHostHalfRead; split
    · exact .next .refl
    · refine .next (Run.refl.takeRead ?_)
      split
      · next hp => exact Run.refl.dropReturned.hostHalfReturned hp rfl
      · exact Run.refl.dropReturned
  | tableRead =>
    show Ends _ s (execTableRead s)
    unfold execTableRead; split
    · exact .next .refl
    · exact .next (Run.refl.takeRead (Run.refl.dropReturned.whenAccepted fun _ _ =>
        Run.refl.dropReturned.tableReturned rfl rfl))
  | balanceRead =>
    show Ends _ s (execBalanceRead s)
    unfold execBalanceRead; split
    · exact .next .refl
    · exact .next (Run.refl.takeRead (Run.refl.dropReturned.whenAccepted fun hp ha =>
        Run.refl.dropReturned.balancesReturned rfl hp ha))
  | orderPost =>
    show Ends _ s (execOrderPost s)
    unfold execOrderPost; split
    · exact .next (Run.takeValue (Run.refl.dropHanded.whenWorking fun _ => Run.refl.dropHanded.orderPosted rfl))
    · exact .next .refl
  | unknownOrderKind => exact .next (Run.refl.orderRow fun hu => hu)
  | noticeTaken =>
    show Ends _ s (execNoticeTaken s)
    unfold execNoticeTaken; split
    · exact .next (Run.takeValue (Run.refl.dropHanded.whenWorking fun hw => Run.refl.dropHanded.noticeTaken hw rfl))
    · exact .next .refl
  | poolPost =>
    show Ends _ s (execPoolPost s)
    unfold execPoolPost; split
    · refine .next (Run.takeValue (Run.refl.dropHanded.whenWorking fun _ => ?_))
      unfold poolPosted; split
      · exact Run.refl.dropHanded.setTally.pageSearch
      · exact Run.refl.dropHanded.notify
    · exact .next .refl
  | serviceFirstKey =>
    show Ends _ s (execServiceFirstKey s)
    unfold execServiceFirstKey; split
    · exact .next (Run.takeValue (Run.refl.dropHanded.whenWorking fun hw => Run.refl.dropHanded.serviceFirst hw))
    · exact .next .refl
  | serviceSecondKey =>
    show Ends _ s (execServiceSecondKey s)
    unfold execServiceSecondKey; split
    · exact .next (Run.takeValue (Run.refl.dropHanded.whenWorking fun hw => Run.refl.dropHanded.serviceSecond hw))
    · exact .next .refl
  | serviceWrongValue =>
    show Ends _ s (execServiceWrongValue s)
    unfold execServiceWrongValue; split
    · exact .next (Run.takeValue (Run.refl.dropHanded.whenWorking fun hw => Run.refl.dropHanded.serviceOther hw))
    · exact .next .refl
  | openFirstKey =>
    show Ends _ s (execOpenFirstKey s)
    unfold execOpenFirstKey; split
    · exact .next (Run.takeValue Run.refl.dropHanded.editKeyActed)
    · exact .next .refl
  | openSecondKey =>
    show Ends _ s (execOpenSecondKey s)
    unfold execOpenSecondKey; split
    · exact .next (Run.takeValue Run.refl.dropHanded.editKeyActed)
    · exact .next .refl
  | closeKey =>
    show Ends _ s (execCloseKey s)
    unfold execCloseKey; split
    · exact .next (Run.takeValue Run.refl.dropHanded.editKeyActed)
    · exact .next .refl
  | wrongEditKey =>
    show Ends _ s (execWrongEditKey s)
    unfold execWrongEditKey; split
    · exact .next (Run.takeValue Run.refl.dropHanded.editKeyActed)
    · exact .next .refl
  | commit =>
    show Ends _ s (execCommit s)
    unfold execCommit; split
    · refine .next (Run.takeValue ?_)
      unfold commitHanded; split
      · exact Run.refl.dropHanded.handCommit
      · exact Run.refl.dropHanded
    · exact .next .refl
  | commitReadback =>
    show Ends _ s (execCommitReadback s)
    unfold execCommitReadback; split
    · exact .next .refl
    · exact .next (Run.refl.takeRead (Run.refl.dropReturned.whenWorking fun _ =>
        (Run.refl.dropReturned.finishCommit rfl rfl).serveClosings))
  | resetInput => exact absurd rfl hc
  | badFrame p f => exact .next Run.refl.frameArrival.conclude
  | goodFrameArrival p f => exact .next Run.refl.frameArrival.conclude
  | status p f => exact .next Run.refl.frameArrival.conclude
  | linkFree p => exact .next Run.refl.linkFree
  | linkTimer p => exact ends_execLinkTimer p
  | sightTag g => exact .next Run.refl.sightingRow
  | sightPlate g => exact .next Run.refl.sightingRow
  | pairingTimer => exact ends_execPairingTimer
  | recentExitExpiry => exact ends_execRecentExitExpiry
  | admitVisit => exact .next (Run.refl.orderRow fun hu => hu.onVisit hu.admitOrder)
  | turnAway => exact .next (Run.refl.orderRow fun hu => hu.onVisit hu.turnAwayOrder)
  | setProgramme => exact .next (Run.refl.orderRow fun hu => hu.onVisit hu.setProgrammeOrder)
  | cancelVisit => exact .next (Run.refl.orderRow fun hu => hu.onVisit hu.cancelOrder)
  | callTimer slot => exact ends_execCallTimer slot
  | presence b => exact .next (Run.refl.bayFrameRow Run.presenceFrame)
  | bayTag b => exact .next (Run.refl.bayFrameRow Run.bayTagFrame)
  | meter b => exact .next (Run.refl.bayFrameRow Run.meterFrame)
  | stageTimer b => exact ends_execStageTimer b
  | abortSession => exact .next (Run.refl.orderRow Run.abortOrder)
  | holdBay => exact .next (Run.refl.orderRow Run.holdOrder)
  | openBay => exact .next (Run.refl.orderRow Run.openOrder)
  | level => exact .next (Run.refl.plantRow Run.levelFrame)
  | sample => exact .next (Run.refl.plantRow Run.sampleFrame)
  | calibrate => exact .next (Run.refl.orderRow fun hu => hu.calibrateOrder rfl)
  | pumpDone => exact .next (Run.refl.plantRow Run.pumpDoneFrame)
  | pumpTimer => exact ends_execPumpTimer
  | circulationDue k => exact ends_execCirculationDue k
  | tankStale k => exact ends_execTankStale k
  | payment => exact .next (Run.refl.orderRow Run.paymentOrder)
  | closePeriod => exact .next (Run.refl.orderRow Run.closePeriodOrder)
  | stopAccount => exact .next (Run.refl.orderRow Run.hostStopOrder)
  | resumeAccount => exact .next (Run.refl.orderRow Run.hostStopOrder)
  | poolEntryRead =>
    show Ends _ s (execPoolEntryRead s)
    unfold execPoolEntryRead; split
    · exact .next .refl
    · refine .next (Run.refl.takeRead ?_)
      unfold poolReturned; split
      · exact Run.refl.dropReturned.judgePoolEntry.conclude
      · exact Run.refl.dropReturned.withTally
  | cutPage => exact .next (Run.refl.orderRow Run.cutOrder)
  | depotSecondBoundary =>
    show Ends _ s (execDepotSecondBoundary s)
    unfold execDepotSecondBoundary; split
    · exact .next ((Run.refl.withDivider rfl).boundary rfl)
    · exact .next .refl
  | setClock => exact .next (Run.refl.orderRow fun hu => hu.setClockOrder rfl)
  | monitorCountdown => exact ends_execMonitorCountdown
  | lifetimeTimer => exact ends_execLifetimeTimer
  | lockoutTimer => exact ends_execLockoutTimer
  | resetPort => exact .next (Run.refl.orderRow Run.resetPortOrder)

end Sys2Proof.Machine

namespace Sys2Proof.Machine

/-! ### What requests and notices leave of the Path Unit -/

/-- The Path Unit's registers: all of it but the request queue, what is held, what has arrived, and the position kept of
a WRITE_DROPPED. -/
def registers (p : PathUnit) : PathUnit := { p with queue := [], held := [], arrived := [], dropPos := none }

@[simp] theorem registers_present (u : UnitId) (i : Issue) (s : State) :
    registers (present u i s).path = registers s.path := by
  unfold present; split <;> rfl
@[simp] theorem registers_keepDropPos (n : Notice) (pos : Option Count) (s : State) :
    registers (keepDropPos n pos s).path = registers s.path := by
  unfold keepDropPos; split <;> rfl
@[simp] theorem registers_placeTold (u : UnitId) (r : Rec) (a : Nat) (bytes : List Byte) (s : State) :
    registers (placeTold u r a bytes s).path = registers s.path := registers_present u (.place a bytes) s
@[simp] theorem registers_writeNotice (n : Notice) (asked : Stamp) (s : State) :
    registers (writeNotice n asked s).path = registers s.path := by
  unfold writeNotice
  split
  · simp
  · dsimp only; split <;> simp
@[simp] theorem registers_dropArrival (e : Event) (s : State) :
    registers (dropArrival e s).path = registers s.path := rfl
@[simp] theorem registers_reach (e : Event) (s : State) : registers (reach e s).path = registers s.path := rfl

theorem map_of_registers {s t : State} (h : registers t.path = registers s.path) : t.path.map = s.path.map :=
  (congrArg PathUnit.map h :)

/-! ### What a run within a scope leaves alone -/

/-- The Exchange Unit's own registers: neither its part state nor the notice ring's producer side. -/
def exchangeSet (e : ExchangeUnit) : ExchangeKept := { exchangeKept e with part := .dormant }

theorem exchangeSet_writeNotice (n : Notice) (asked : Stamp) (s : State) :
    exchangeSet (writeNotice n asked s).exch = exchangeSet s.exch := by
  rw [exch_writeNotice]; split <;> rfl

/-- The fields that a scope leaves out are as they were. -/
structure Within (L : Scope) (s t : State) : Prop where
  mem : L.mem = false → t.mem = s.mem := by exact fun _ => rfl
  latched : L.latched = false → (t.latched, t.path.bases) = (s.latched, s.path.bases) := by exact fun _ => rfl
  map : L.map = false → t.path.map = s.path.map := by exact fun _ => rfl
  copies : L.copies = false → (t.table.vehicles, t.table.accounts, t.table.programmes, t.table.tariffs) =
    (s.table.vehicles, s.table.accounts, s.table.programmes, s.table.tariffs) := by exact fun _ => rfl
  counts : L.counts = false → (t.table.counting, t.table.loadCounts) = (s.table.counting, s.table.loadCounts) := by
    exact fun _ => rfl
  index : L.index = false → (t.gate.tagMap, t.gate.plateMap) = (s.gate.tagMap, s.gate.plateMap) := by
    exact fun _ => rfl
  host : L.host = false → (t.path.dropped, t.path.dropAddr, t.path.dropClass, t.path.host, t.path.waiting, t.path.port,
      t.path.readData, t.path.hostRun) = (s.path.dropped, s.path.dropAddr, s.path.dropClass, s.path.host,
      s.path.waiting, s.path.port, s.path.readData, s.path.hostRun) := by exact fun _ => rfl
  calibration : L.calibration = false → (t.water.calibrated, t.water.calDay, t.water.calTemp) =
    (s.water.calibrated, s.water.calDay, s.water.calTemp) := by exact fun _ => rfl
  now : L.now = false → (t.clock.now, t.clock.divider) = (s.clock.now, s.clock.divider) := by exact fun _ => rfl
  exch : L.rows = false → exchangeSet t.exch = exchangeSet s.exch := by exact fun _ => rfl
  /-- The values handed and the reads returned. -/
  arrivals : L.rows = false → L.host = false →
    (t.path.handed, t.path.returned) = (s.path.handed, s.path.returned) := by exact fun _ _ => rfl
  pending : t.pending = s.pending := by exact rfl

theorem Within.trans {L : Scope} {s t u : State} (h : Within L s t) (h' : Within L t u) : Within L s u where
  mem hL := (h'.mem hL).trans (h.mem hL)
  latched hL := (h'.latched hL).trans (h.latched hL)
  map hL := (h'.map hL).trans (h.map hL)
  copies hL := (h'.copies hL).trans (h.copies hL)
  counts hL := (h'.counts hL).trans (h.counts hL)
  index hL := (h'.index hL).trans (h.index hL)
  host hL := (h'.host hL).trans (h.host hL)
  calibration hL := (h'.calibration hL).trans (h.calibration hL)
  now hL := (h'.now hL).trans (h.now hL)
  exch hL := (h'.exch hL).trans (h.exch hL)
  arrivals hL hH := (h'.arrivals hL hH).trans (h.arrivals hL hH)
  pending := h'.pending.trans h.pending

/-- A change of the request path and the Exchange Unit alone leaves every field of every scope. -/
theorem within_of_besides {L : Scope} {s t : State} (h : besides t = besides s)
    (hp : registers t.path = registers s.path) (hx : exchangeSet t.exch = exchangeSet s.exch)
    (ha : t.path.arrived = s.path.arrived) : Within L s t where
  mem _ := mem_of_besides h
  latched _ := Prod.ext (latched_of_besides h) (congrArg PathUnit.bases hp :)
  map _ := map_of_registers hp
  copies _ := by rw [table_of_besides h]
  counts _ := by rw [table_of_besides h]
  index _ := by rw [gate_of_besides h]
  host _ := (congrArg (fun p : PathUnit =>
    (p.dropped, p.dropAddr, p.dropClass, p.host, p.waiting, p.port, p.readData, p.hostRun)) hp :)
  calibration _ := by rw [water_of_besides h]
  now _ := by rw [clock_of_besides h]
  exch _ := hx
  arrivals _ _ := by simp only [PathUnit.handed, PathUnit.returned, ha]
  pending := pending_of_besides h

theorem asValue_of_unattended {e : Event} (h : e.unattended = true) : e.asValue = none := by
  cases e <;> simp_all [Event.unattended, Event.asValue]
theorem asRead_of_unattended {e : Event} (h : e.unattended = true) : e.asRead = none := by
  cases e <;> simp_all [Event.unattended, Event.asRead]

theorem Change.within {L : Scope} {s t : State} (c : Change L s t) : Within L s t := by
  cases c with
  | present u i => exact within_of_besides (by simp) (by simp) (by simp) (by simp)
  | makeWay u r => exact within_of_besides rfl rfl rfl rfl
  | reach e h hL =>
    refine { arrivals := fun _ hH => ?_ }
    have hu : e.unattended = true := hL.resolve_right (Bool.eq_false_iff.1 hH)
    rw [handed_reach, returned_reach, asValue_of_unattended hu, asRead_of_unattended hu]
    simp
  | drop e hL =>
    refine { arrivals := fun hR _ => ?_ }
    have hu : e.unattended = true := (hL.resolve_right (Bool.eq_false_iff.1 hR)).1
    rw [handed_dropArrival hu, returned_dropArrival hu]
  | notice n asked h =>
    exact within_of_besides (by simp) (by simp) (exchangeSet_writeNotice ..) (arrived_writeNotice ..)
  | takeNotice n asked h _ =>
    have hdrop : Within L s (dropArrival (.ask (.notice n asked)) s) :=
      { arrivals := fun _ _ => by rw [handed_dropArrival rfl, returned_dropArrival rfl] }
    exact hdrop.trans (within_of_besides (besides_writeNotice ..) (registers_writeNotice ..)
      (exchangeSet_writeNotice ..) (arrived_writeNotice ..))
  | exch e hpart h hL => exact { exch := fun hL' => absurd hL (Bool.eq_false_iff.1 hL') }
  | ports x h => exact {}
  | gate g h =>
    exact { index := fun hL => Prod.ext_iff.2 (h.resolve_left (Bool.eq_false_iff.1 hL)) }
  | yard y => exact {}
  | bays x => exact {}
  | water w hcal h =>
    exact { calibration := fun hL => by
              obtain ⟨h1, h2, h3⟩ := hcal.resolve_left (Bool.eq_false_iff.1 hL)
              simp only [h1, h2, h3] }
  | table x hcopies hcounts h =>
    exact { copies := fun hL => by
              obtain ⟨h1, h2, h3, h4⟩ := hcopies.resolve_left fun hc => Bool.eq_false_iff.1 hL hc.1
              simp only [h1, h2, h3, h4]
            counts := fun hL => Prod.ext_iff.2 (hcounts.resolve_left (Bool.eq_false_iff.1 hL)) }
  | tally x => exact {}
  | clock c hnow h => exact { now := fun hL => Prod.ext_iff.2 (hnow.resolve_left (Bool.eq_false_iff.1 hL)) }
  | drawn => exact {}
  | loading hpart h hmap hindex hL =>
    exact { map := fun hL' => absurd hmap (Bool.eq_false_iff.1 hL')
            index := fun hL' => absurd hindex (Bool.eq_false_iff.1 hL')
            exch := fun hL' => absurd hL (Bool.eq_false_iff.1 hL')
            arrivals := fun hL' => absurd hL (Bool.eq_false_iff.1 hL') }
  | refuse e n hpart hL =>
    rw [hL]
    exact { latched := nofun, map := nofun, copies := nofun, counts := nofun, index := nofun, calibration := nofun,
            now := nofun, exch := nofun, arrivals := nofun }
  | accept x hpart hL =>
    rw [hL]
    exact { latched := nofun, map := nofun, copies := nofun, counts := nofun, index := nofun, calibration := nofun,
            now := nofun, exch := nofun, arrivals := nofun }
  | run hpart h => exact {}
  | stop hpart => exact {}
  | halt hpart =>
    have hrefresh : Within L s (Machine.refreshNow (.line 0) { s with exch := { s.exch with part := .halted } }) :=
      within_of_besides (besides_refreshNow ..) (registers_present ..) (congrArg exchangeSet (exch_present ..) :)
        (arrived_present ..)
    refine hrefresh.trans { now := fun _ => ?_ }
    show ((monitorHalted _).now, (monitorHalted _).divider) = _
    unfold monitorHalted
    split <;> rfl
  | path x hL hmap hbases harr hq hrun =>
    exact { latched := fun _ => Prod.ext rfl hbases, map := fun _ => hmap
            host := fun hL' => absurd hL (Bool.eq_false_iff.1 hL')
            arrivals := fun _ hH => absurd hL (Bool.eq_false_iff.1 hH) }
  | mem m hL h => exact { mem := fun hL' => absurd hL (Bool.eq_false_iff.1 hL') }

theorem Run.within {L : Scope} {s t : State} (h : Run L s t) : Within L s t := by
  induction h with
  | refl => exact {}
  | step _ c ih => exact ih.trans c.within

/-! ### The reset input (R20) -/

theorem pending_cutPort (s : State) : (cutPort s).pending = s.pending := by
  unfold cutPort
  split
  · unfold cutPost; split <;> rfl
  · unfold cutPost; split <;> rfl
  all_goals rfl

theorem wf_cutPort {s : State} (h : Memory.wf s.mem = true) : Memory.wf (cutPort s).mem = true := by
  unfold cutPort
  split
  · unfold cutPost; split <;> exact Memory.wf_writeBytes _ _ h
  · unfold cutPost; split <;> exact Memory.wf_writeBytes _ _ h
  all_goals exact h

/-- After the units are reset, the reset input only lets the processor port accept. -/
theorem run_resetInput (s : State) : Run { host := true } (resetUnits (cutPort s)) (resetInput s) :=
  Run.refl.acceptOps rfl

/-- A command's next state: reached by a run within its scope, or by the reset input. -/
theorem exec_cases {c : Instr} {s t : State} (h : exec c s = .next t) :
    Run (scope c) s t ∨ (c = .resetInput ∧ Run { host := true } (resetUnits (cutPort s)) t) := by
  by_cases hc : c = .resetInput
  · subst hc
    cases h
    exact Or.inr ⟨rfl, run_resetInput s⟩
  · exact Or.inl (ends_exec c hc s t h)

/-- A step's next state: reached by a run, with the command at the front gone, or by the reset input. -/
theorem step_cases {s t : State} (h : step s = .next t) :
    ∃ L rest, Run L (s.withPending rest) t ∨ Run L (resetUnits (cutPort (s.withPending rest))) t := by
  unfold step at h
  split at h
  · next hp =>
    cases h
    exact ⟨{ now := true }, [], Or.inl (by
      have : s.withPending [] = s := by rw [← hp]; rfl
      rw [this]; exact Run.refl.referencePeriod rfl)⟩
  · next c rest _ =>
    rcases exec_cases h with hr | ⟨-, hr⟩
    · exact ⟨scope c, rest, Or.inl hr⟩
    · exact ⟨_, rest, Or.inr hr⟩

/-- A property that looks at no waiting command, that every change keeps and that holds after the units are reset, is
kept by every step. -/
theorem step_keeps {P : State → Prop} (hchange : ∀ {L s t}, Change L s t → P s → P t)
    (hqueue : ∀ {s} rest, P s → P (s.withPending rest)) (hreset : ∀ {s}, P s → P (resetUnits (cutPort s)))
    {s t : State} (hs : P s) (h : step s = .next t) : P t := by
  obtain ⟨L, rest, hr | hr⟩ := step_cases h
  · exact hr.keeps hchange (hqueue rest hs)
  · exact hr.keeps hchange (hreset (hqueue rest hs))

/-! ### Memory, the queue, the run count, the copies (R14, R18, R138; log 4) -/

theorem Change.memoryCanonical {L : Scope} {s t : State} (c : Change L s t) (h : memoryCanonical s = true) :
    memoryCanonical t = true := by
  cases c with
  | mem m hL hwf => exact hwf h
  | present u i => exact (congrArg Memory.wf (mem_present u i s)).trans h
  | notice n asked _ => exact (congrArg Memory.wf (mem_of_besides (besides_writeNotice n asked s))).trans h
  | takeNotice n asked _ _ => exact (congrArg Memory.wf (mem_of_besides (besides_writeNotice n asked _))).trans h
  | halt _ => exact (congrArg Memory.wf (mem_present .exchange (.refresh (.line 0)) _)).trans h
  | _ => exact h

theorem Change.queueBounded {L : Scope} {s t : State} (c : Change L s t) (h : queueBounded s = true) :
    queueBounded t = true := by
  cases c with
  | present u i => exact queueBounded_present h ..
  | notice n asked _ => exact queueBounded_writeNotice h ..
  | takeNotice n asked _ _ => exact queueBounded_writeNotice (s := dropArrival _ s) h ..
  | halt _ => exact queueBounded_present (s := { s with exch := { s.exch with part := .halted } }) h ..
  | path x hL hmap hbases harr hq hrun =>
    rw [queueBounded_iff] at h ⊢
    exact hq.elim (fun hle => hle.trans h) id
  | _ => exact h

theorem hostRun_of_registers {s t : State} (h : registers t.path = registers s.path) :
    t.path.hostRun = s.path.hostRun := (congrArg PathUnit.hostRun h :)

theorem Change.hostRunBounded {L : Scope} {s t : State} (c : Change L s t) (h : hostRunBounded s = true) :
    hostRunBounded t = true := by
  have same : t.path.hostRun = s.path.hostRun → Machine.hostRunBounded t = true := fun ht => by
    unfold Machine.hostRunBounded at h ⊢; rwa [ht]
  cases c with
  | present u i => exact same (hostRun_of_registers (registers_present ..))
  | notice n asked _ => exact same (hostRun_of_registers (registers_writeNotice ..))
  | takeNotice n asked _ _ => exact same (hostRun_of_registers (registers_writeNotice ..))
  | halt _ => exact same (hostRun_of_registers (t := haltEntered s) (registers_present ..))
  | path x hL hmap hbases harr hq hrun =>
    simp only [Machine.hostRunBounded, decide_eq_true_eq] at h ⊢
    exact hrun.elim (fun hle => hle.trans h) id
  | _ => exact h

theorem Change.sorted {L : Scope} {s t : State} (c : Change L s t) (h : s.table.sorted) : t.table.sorted := by
  have empty : TableUnit.reset.sorted := ⟨.nil, .nil, .nil, .nil⟩
  cases c with
  | table x hcopies hcounts _ =>
    rcases hcopies with ⟨-, hs⟩ | ⟨h1, h2, h3, h4⟩
    · exact hs h
    · show TableUnit.sorted x
      unfold TableUnit.sorted
      rw [h1, h2, h3, h4]
      exact h
  | refuse e n _ _ => exact empty
  | accept x _ _ => exact empty
  | present u i => rw [table_present]; exact h
  | notice n asked _ => rw [table_of_besides (besides_writeNotice n asked s)]; exact h
  | takeNotice n asked _ _ => rw [table_of_besides (besides_writeNotice n asked _)]; exact h
  | halt _ =>
    show (Machine.refreshNow (.line 0) { s with exch := { s.exch with part := .halted } }).table.sorted
    rw [table_of_besides (besides_refreshNow ..)]; exact h
  | _ => exact h

/-- Settles O55: each change keeps each of the four. -/
theorem memoryQueueAndCopiesStayLawful : Obligations.MemoryQueueAndCopiesStayLawful := fun s t h =>
  ⟨fun hs => step_keeps Change.memoryCanonical (fun _ => id) (fun hm => wf_cutPort hm) hs h,
    fun hs => step_keeps Change.queueBounded (fun _ => id) (fun _ => rfl) hs h,
    fun hs => step_keeps Change.hostRunBounded (fun _ => id) (fun _ => rfl) hs h,
    fun hs => sorted_iff.2 (step_keeps (P := fun s => s.table.sorted) Change.sorted (fun _ => id)
      (fun _ => ⟨.nil, .nil, .nil, .nil⟩) (sorted_iff.1 hs) h)⟩

/-! ### LAPSED (R25, R176, R177) -/

theorem lapseLawful_iff {s : State} : lapseLawful s = true ↔
    (s.clock.fallback = true → s.clock.monitor = .lapsed) ∧ (s.clock.faultLine = true ↔ s.clock.monitor = .lapsed) ∧
      (working s = true ∨ s.clock.monitor = .idle ∨ (s.exch.part = .halted ∧ s.clock.monitor = .lapsed)) := by
  simp only [lapseLawful, Bool.and_eq_true, Bool.or_eq_true, Bool.not_eq_true', beq_iff_eq, or_assoc, and_assoc]
  refine and_congr ?_ (and_congr ?_ Iff.rfl)
  · cases s.clock.fallback <;> simp
  · rw [Bool.eq_iff_iff, beq_iff_eq]

theorem exch_part_writeNotice (n : Notice) (asked : Stamp) (s : State) :
    (writeNotice n asked s).exch.part = s.exch.part := by
  rw [exch_writeNotice]; split <;> rfl

/-- LOADING is entered and left with the monitor IDLE. -/
theorem idle_of_not_working {s : State} (h : lapseLawful s = true) (hw : working s = false)
    (hp : s.exch.part ≠ .halted ∨ s.clock.monitor ≠ .lapsed) : s.clock.monitor = .idle := by
  obtain ⟨-, -, h3⟩ := lapseLawful_iff.1 h
  rcases h3 with hw' | hidle | ⟨hhalt, hlapsed⟩
  · simp [hw] at hw'
  · exact hidle
  · exact absurd hp (by simp [hhalt, hlapsed])

/-- What a change does to the monitor, and to its place in the part states. -/
theorem Change.lapse {L : Scope} {s t : State} (c : Change L s t) (h : lapseLawful s = true) :
    lapseLawful t = true ∧ (s.clock.monitor = .lapsed → t.clock.monitor = .lapsed ∧
      t.clock.fallback = s.clock.fallback) := by
  have same : t.clock = s.clock → t.exch.part = s.exch.part → lapseLawful t = true ∧
      (s.clock.monitor = .lapsed → t.clock.monitor = .lapsed ∧ t.clock.fallback = s.clock.fallback) := by
    intro hc hp
    refine ⟨?_, fun hm => by rw [hc]; exact ⟨hm, rfl⟩⟩
    rw [lapseLawful_iff] at h ⊢
    simpa [working, hc, hp] using h
  have works : t.clock = s.clock → working t = true → lapseLawful t = true ∧
      (s.clock.monitor = .lapsed → t.clock.monitor = .lapsed ∧ t.clock.fallback = s.clock.fallback) := by
    intro hc hw
    refine ⟨?_, fun hm => by rw [hc]; exact ⟨hm, rfl⟩⟩
    rw [lapseLawful_iff] at h ⊢
    rw [hc]
    exact ⟨h.1, h.2.1, Or.inl hw⟩
  have idle : s.exch.part = .loading → s.clock.monitor = .idle ∧ s.clock.faultLine = false := by
    intro hp
    have hidle := idle_of_not_working h (by simp [working, hp]) (Or.inl (by simp [hp]))
    exact ⟨hidle, by simpa [hidle] using (lapseLawful_iff.1 h).2.1⟩
  cases c with
  | present u i => exact same (by simp) (by simp)
  | notice n asked _ => exact same (clock_of_besides (by simp)) (exch_part_writeNotice ..)
  | takeNotice n asked _ _ => exact same (clock_of_besides (besides_writeNotice ..)) (exch_part_writeNotice ..)
  | exch e hpart _ _ => exact same rfl hpart
  | clock c hnow hmove =>
    obtain ⟨h1, h2, h3⟩ := lapseLawful_iff.1 h
    rcases hmove with ⟨hm, hline, hfall⟩ | ⟨hm, hw, ⟨hm', hline, hfall⟩ | ⟨hm', hline⟩⟩
    · refine ⟨lapseLawful_iff.2 ?_, fun hl => ⟨hm.trans hl, hfall⟩⟩
      exact ⟨by simpa [hm, hfall] using h1, by simpa [hm, hline] using h2, by simpa [working, hm] using h3⟩
    · refine ⟨lapseLawful_iff.2 ⟨fun hf => ?_, ?_, Or.inl ?_⟩, fun hl => absurd hl hm⟩
      · exact absurd (h1 (hfall ▸ hf)) hm
      · show c.faultLine = true ↔ c.monitor = .lapsed
        rw [hline]
        exact ⟨fun hf => absurd (h2.1 hf) hm, fun hf => absurd hf hm'⟩
      · exact hw.elim id fun hn => h3.elim id fun ho => (ho.elim (absurd · hn) fun hh => absurd hh.2 hm)
    · refine ⟨lapseLawful_iff.2 ⟨fun _ => hm', ?_, Or.inl ?_⟩, fun hl => absurd hl hm⟩
      · exact ⟨fun _ => hm', fun _ => hline⟩
      · exact hw.elim id fun hn => h3.elim id fun ho => (ho.elim (absurd · hn) fun hh => absurd hh.2 hm)
  | loading hpart hm _ _ _ =>
    have hidle : s.clock.monitor = .idle :=
      idle_of_not_working h (by rcases hpart with hp | hp <;> simp [working, hp]) (Or.inr hm)
    obtain ⟨h1, h2, -⟩ := lapseLawful_iff.1 h
    exact ⟨lapseLawful_iff.2 ⟨h1, h2, Or.inr (Or.inl hidle)⟩, fun hl => ⟨hl, rfl⟩⟩
  | refuse e n hpart _ => exact ⟨rfl, fun hl => by simp [(idle hpart).1] at hl⟩
  | accept x hpart _ =>
    refine ⟨lapseLawful_iff.2 ⟨nofun, ?_, Or.inr (Or.inl rfl)⟩, fun hl => by simp [(idle hpart).1] at hl⟩
    show s.clock.faultLine = true ↔ _
    rw [(idle hpart).2]
    exact ⟨nofun, nofun⟩
  | run hpart _ => exact works rfl rfl
  | stop hpart => exact works rfl rfl
  | halt hpart =>
    have hclock : (haltEntered s).clock = monitorHalted s.clock :=
      congrArg monitorHalted (clock_of_besides (besides_refreshNow (.line 0) { s with exch := { s.exch with part := .halted } }))
    have hp : (haltEntered s).exch.part = .halted :=
      congrArg ExchangeUnit.part (exch_present .exchange (.refresh (.line 0)) { s with exch := { s.exch with part := .halted } })
    obtain ⟨h1, h2, -⟩ := lapseLawful_iff.1 h
    rw [lapseLawful_iff, hclock, hp]
    unfold monitorHalted
    split
    · next hl => exact ⟨⟨h1, h2, Or.inr (Or.inr ⟨rfl, hl⟩)⟩, fun hl => ⟨hl, rfl⟩⟩
    · next hl =>
      refine ⟨⟨fun hf => absurd (h1 hf) hl, ?_, Or.inr (Or.inl rfl)⟩, fun hl' => absurd hl' hl⟩
      exact ⟨fun hf => absurd (h2.1 hf) hl, nofun⟩
  | _ => exact same rfl rfl

/-- Settles O56: each change keeps the law, and a lapse survives every change. -/
theorem lapseStaysLawful : Obligations.LapseStaysLawful := by
  refine ⟨fun s t hs h => step_keeps (P := fun s => lapseLawful s = true) (fun c hl => (c.lapse hl).1) (fun _ => id)
    (fun _ => rfl) hs h, fun c s t hs hc hm h => ?_⟩
  obtain ⟨hlaw, hlapsed, hfall⟩ := (ends_exec c hc s t h).keeps
    (P := fun u => lapseLawful u = true ∧ u.clock.monitor = .lapsed ∧ u.clock.fallback = s.clock.fallback)
    (fun ch ⟨hl, hm, hf⟩ => ⟨(ch.lapse hl).1, ((ch.lapse hl).2 hm).1, ((ch.lapse hl).2 hm).2.trans hf⟩)
    ⟨hs, hm, rfl⟩
  exact ⟨hlapsed, (lapseLawful_iff.1 hlaw).2.1.2 hlapsed, hfall⟩

/-! ### Fresh drawn today (R121) -/

theorem freshBounded_iff {s : State} :
    freshBounded s = true ↔ s.water.fresh ≤ s.latched.freshAllowance + s.latched.freshReserve := by
  unfold freshBounded
  rw [decide_eq_true_eq]
  rfl

theorem Change.freshBounded {L : Scope} {s t : State} (c : Change L s t) (h : freshBounded s = true) :
    freshBounded t = true := by
  have same : t.water = s.water → t.latched = s.latched → Machine.freshBounded t = true := fun hw hl => by
    rw [freshBounded_iff] at h ⊢; rwa [hw, hl]
  cases c with
  | water w hcal hw =>
    rw [freshBounded_iff] at h ⊢
    exact hw.elim (fun hle => hle.trans h) id
  | refuse e n _ _ => exact freshBounded_iff.2 (Nat.zero_le _)
  | accept x _ _ => exact freshBounded_iff.2 (Nat.zero_le _)
  | present u i => exact same (by simp) (latched_of_besides (by simp))
  | notice n asked _ => exact same (water_of_besides (by simp)) (latched_of_besides (by simp))
  | takeNotice n asked _ _ =>
    exact same (water_of_besides (besides_writeNotice ..)) (latched_of_besides (besides_writeNotice ..))
  | halt _ => exact same (water_of_besides (besides_refreshNow ..) :) (latched_of_besides (besides_refreshNow ..) :)
  | _ => exact h

/-- Settles O57: only a grant raises fresh drawn today, and a grant is issued within the allowance and the reserve. -/
theorem freshStaysWithinTheAllowance : Obligations.FreshStaysWithinTheAllowance := fun _ _ hs h =>
  step_keeps Change.freshBounded (fun _ => id) (fun _ => rfl) hs h

/-! ### Frame queues and the touched list (R46, R49, R144) -/

theorem portsBounded_iff {s : State} : portsBounded s = true ↔ ∀ p : PortId, s.ports[p].withinPlaces := by
  simp only [portsBounded, List.all_eq_true, Bool.and_eq_true, decide_eq_true_eq, Vector.mem_toList_iff,
    Vector.mem_iff_getElem]
  constructor
  · exact fun h p => h _ ⟨p, p.isLt, rfl⟩
  · rintro h _ ⟨i, hi, rfl⟩
    exact h ⟨i, hi⟩

theorem Port.withinPlaces_downRecord (x : Port) (r : DownReason) : (downRecord x r).withinPlaces :=
  ⟨Nat.zero_le _, Nat.zero_le _⟩

theorem Port.withinPlaces_haltPort {x : Port} (h : x.withinPlaces) : (haltPort x).withinPlaces := by
  unfold haltPort; split
  · exact Port.withinPlaces_downRecord x .halted
  · exact h

theorem Port.withinPlaces_acceptedPort {l : Latched} {p : PortId} {x : Port} (h : x.withinPlaces) :
    (acceptedPort l p x).withinPlaces := by
  unfold acceptedPort; split
  · split
    · exact Port.withinPlaces_downRecord x .resetOrder
    · exact h
  · split
    · exact h
    · exact h

theorem Change.portsBounded {L : Scope} {s t : State} (c : Change L s t) (h : ∀ p : PortId, s.ports[p].withinPlaces)
    (p : PortId) : t.ports[p].withinPlaces := by
  have same : t.ports = s.ports → t.ports[p].withinPlaces := fun ht => by rw [ht]; exact h p
  cases c with
  | ports x hx => exact hx p (h p)
  | loading _ _ _ _ _ =>
    show (mapVec loadingPort s.ports)[p.val].withinPlaces
    rw [getElem_mapVec]
    exact ⟨Nat.zero_le _, Nat.zero_le _⟩
  | refuse e n _ _ =>
    show (Vector.replicate 11 Port.reset)[p.val].withinPlaces
    rw [Vector.getElem_replicate]
    exact ⟨Nat.zero_le _, Nat.zero_le _⟩
  | accept x _ _ =>
    show (vecOf 11 fun q => acceptedPort (latchedOf x) q s.ports[q])[p.val].withinPlaces
    rw [getElem_vecOf]
    exact Port.withinPlaces_acceptedPort (h p)
  | halt _ =>
    show (mapVec haltPort _)[p.val].withinPlaces
    rw [getElem_mapVec, ports_of_besides (besides_refreshNow ..)]
    exact Port.withinPlaces_haltPort (h p)
  | present u i => exact same (by simp)
  | notice n asked _ => exact same (ports_of_besides (by simp))
  | takeNotice n asked _ _ => exact same (ports_of_besides (besides_writeNotice ..))
  | _ => exact h p

theorem Change.touchedBounded {L : Scope} {s t : State} (c : Change L s t) (h : touchedBounded s = true) :
    touchedBounded t = true := by
  have same : t.table = s.table → Machine.touchedBounded t = true := fun ht => by
    unfold Machine.touchedBounded at h ⊢; rwa [ht]
  cases c with
  | table x hcopies hcounts hx =>
    simp only [Machine.touchedBounded, decide_eq_true_eq] at h ⊢
    exact hx.elim (fun hle => hle.trans h) id
  | refuse e n _ _ => rfl
  | accept x _ _ => rfl
  | present u i => exact same (by simp)
  | notice n asked _ => exact same (table_of_besides (by simp))
  | takeNotice n asked _ _ => exact same (table_of_besides (besides_writeNotice ..))
  | halt _ => exact same (table_of_besides (besides_refreshNow ..) :)
  | _ => exact h

/-- Settles O58: a frame joins a queue only where a place is free, an entry the touched list only where there is room. -/
theorem queuesStayBounded : Obligations.QueuesStayBounded := fun s t h =>
  ⟨fun hs => portsBounded_iff.2 (step_keeps (P := fun s => ∀ p : PortId, s.ports[p].withinPlaces) Change.portsBounded
      (fun _ => id) (fun _ => portsBounded_iff.1 rfl) (portsBounded_iff.1 hs) h),
    fun hs => step_keeps Change.touchedBounded (fun _ => id) (fun _ => rfl) hs h⟩

/-! ### The attention line (R35) -/

theorem attentionLawful_eq (s : State) : attentionLawful s =
    ((!accepted s || (s.exch.attention == (s.exch.producer != s.exch.taken)))
      && (accepted s || s.exch.part == .halted || !s.exch.attention)
      && (accepted s || s.exch.part == .halted || s.path.arrived.all (fun a => !a.event.needsRing))) := by
  unfold attentionLawful
  congr 4
  funext a
  rcases a.event with _ | _ | i | _ | _
  · rfl
  · rfl
  · cases i <;> rfl
  · rfl
  · rfl

theorem attentionLawful_iff {s : State} : attentionLawful s = true ↔
    (accepted s = true → s.exch.attention = (s.exch.producer != s.exch.taken)) ∧
      (accepted s = false → s.exch.part ≠ .halted →
        s.exch.attention = false ∧ ∀ a ∈ s.path.arrived, a.event.needsRing = false) := by
  rw [attentionLawful_eq]
  cases accepted s <;> by_cases hp : s.exch.part = .halted <;> simp [hp]

theorem accepted_congr {s t : State} (hp : t.exch.part = s.exch.part) (hm : t.path.map = s.path.map) :
    accepted t = accepted s := by
  simp [accepted, working, hp, hm]

/-- A notice written while the ring is accepted leaves the line driven. -/
theorem attentionLawful_writeNotice {n : Notice} {asked : Stamp} {s : State} (h : attentionLawful s = true)
    (hs : accepted s = true ∨ s.exch.part = .halted) : attentionLawful (writeNotice n asked s) = true := by
  have hacc : accepted (writeNotice n asked s) = accepted s :=
    accepted_congr (exch_part_writeNotice ..) (map_of_registers (registers_writeNotice ..))
  rw [attentionLawful_iff] at h ⊢
  rw [hacc, exch_part_writeNotice]
  refine ⟨fun ha => ?_, fun ha hp => hs.elim (fun ha' => by simp [ha] at ha') (absurd · hp)⟩
  rw [exch_writeNotice]
  split
  · rfl
  · exact h.1 ha

/-- Taking an event off the arrivals leaves the line's law. -/
theorem attentionLawful_dropArrival {e : Event} {s : State} (h : attentionLawful s = true) :
    attentionLawful (dropArrival e s) = true := by
  rw [attentionLawful_iff] at h ⊢
  refine ⟨h.1, fun ha hp => ⟨(h.2 ha hp).1, fun a ha' => (h.2 ha hp).2 a ?_⟩⟩
  exact List.mem_of_mem_eraseP ha'

theorem accepted_of_standing {e : Event} {s : State} (h : attentionLawful s = true) (he : e.needsRing = true)
    (hs : standing e s) : accepted s = true ∨ s.exch.part = .halted := by
  by_contra hno
  rw [not_or, Bool.not_eq_true] at hno
  obtain ⟨a, ha, hae⟩ := List.mem_map.1 hs
  have := ((attentionLawful_iff.1 h).2 hno.1 hno.2).2 a ha
  rw [hae, he] at this
  cases this

theorem Change.attentionLawful {L : Scope} {s t : State} (c : Change L s t) (h : attentionLawful s = true) :
    attentionLawful t = true := by
  have same : t.exch = s.exch → t.path.map = s.path.map → t.path.arrived = s.path.arrived →
      Machine.attentionLawful t = true := by
    intro he hm ha
    rw [attentionLawful_iff] at h ⊢
    rwa [accepted_congr (congrArg ExchangeUnit.part he) hm, he, ha]
  have hlaw := attentionLawful_iff.1 h
  cases c with
  | present u i => exact same (by simp) (map_of_registers (by simp)) (by simp)
  | reach e he _ =>
    rw [attentionLawful_iff]
    refine ⟨hlaw.1, fun ha hp => ⟨(hlaw.2 ha hp).1, fun a hmem => ?_⟩⟩
    have hold := (hlaw.2 ha hp).2
    unfold Machine.reach at hmem
    dsimp only at hmem
    rcases List.mem_append.1 hmem with hmem | hmem
    · split at hmem
      · obtain ⟨a', ha', rfl⟩ := List.mem_map.1 hmem
        exact hold a' ha'
      · exact hold a hmem
    · rw [List.mem_singleton] at hmem
      subst hmem
      exact Bool.eq_false_iff.2 fun hn => Bool.eq_false_iff.1 ha (he hn)
  | drop e _ => exact attentionLawful_dropArrival h
  | notice n asked ha => exact attentionLawful_writeNotice h (Or.inl ha)
  | takeNotice n asked hst _ =>
    exact attentionLawful_writeNotice (attentionLawful_dropArrival h) (accepted_of_standing h rfl hst :)
  | exch e hpart hmove _ =>
    have hacc : accepted { s with exch := e } = accepted s := accepted_congr hpart rfl
    rw [attentionLawful_iff, hacc]
    rcases hmove with ⟨h1, h2, h3⟩ | ⟨ha, h1⟩
    · refine ⟨fun ha => ?_, fun ha hp => ?_⟩
      · show e.attention = (e.producer != e.taken)
        rw [h1, h2, h3]; exact hlaw.1 ha
      · rw [show ({ s with exch := e } : State).exch.attention = e.attention from rfl, h1]
        exact hlaw.2 ha (hpart ▸ hp)
    · exact ⟨fun _ => h1, fun hna => by simp [ha] at hna⟩
  | loading _ _ _ _ _ =>
    refine attentionLawful_iff.2 ⟨nofun, fun _ _ => ⟨rfl, fun a ha => ?_⟩⟩
    obtain ⟨e, late, taken⟩ := a
    have hout := (List.mem_filter.1 ha).2
    cases e with
    | ask i =>
      cases i with
      | notice _ _ => cases hout
      | complete => cases hout
      | refresh _ => rfl
      | windDown => rfl
    | _ => rfl
  | refuse e n _ _ =>
    refine attentionLawful_iff.2 ⟨nofun, fun _ _ => ⟨rfl, fun a ha => ?_⟩⟩
    obtain ⟨e, late, taken⟩ := a
    have hout := (List.mem_filter.1 ha).2
    cases e with
    | ask _ => cases hout
    | _ => rfl
  | accept x hpart _ =>
    have hacc : accepted (acceptedState x s) = true := by
      simp [accepted, acceptedState, hpart]
    exact attentionLawful_iff.2 ⟨fun _ => by simp [acceptedState], fun hna => by simp [hacc] at hna⟩
  | run hpart hst =>
    have hacc : accepted s = true := hst.elim id fun hst =>
      (accepted_of_standing h rfl hst).elim id fun hp => by simp [hpart] at hp
    exact attentionLawful_iff.2 ⟨fun _ => hlaw.1 hacc, nofun⟩
  | stop hpart =>
    exact attentionLawful_iff.2 ⟨fun _ => hlaw.1 (by simp [accepted, working, hpart]), nofun⟩
  | halt _ =>
    have hp : (haltEntered s).exch.part = .halted :=
      congrArg ExchangeUnit.part (exch_present .exchange (.refresh (.line 0)) { s with exch := { s.exch with part := .halted } })
    exact attentionLawful_iff.2 ⟨fun ha => by simp [accepted, working, hp] at ha, fun _ hne => absurd hp hne⟩
  | path x hL hmap hbases harr hq hrun => exact same rfl hmap harr
  | _ => exact h

/-- Settles O59: every change of the counts drives the line, and none falls while the ring is not accepted. -/
theorem attentionStaysLawful : Obligations.AttentionStaysLawful := fun _ _ hs h =>
  step_keeps Change.attentionLawful (fun _ => id) (fun _ => rfl) hs h

/-! ### The reset state -/

/-- Settles O60. -/
theorem resetStateIsLawful : Obligations.ResetStateIsLawful :=
  ⟨rfl, rfl, rfl, rfl, rfl, rfl, rfl, rfl, rfl⟩

end Sys2Proof.Machine

/-! PROOFS. The command queue: what a step runs, which commands answer, what each leaves alone (logs 2, 6, 7, 9). -/

namespace Sys2Proof.Machine

/-! ### A step -/

/-- Settles O1. -/
theorem stepRunsFrontCommand : Obligations.StepRunsFrontCommand := by
  intro c rest s h
  unfold step
  rw [h]

theorem step_of_none {s : State} (h : s.pending = []) : step s = .next (referencePeriod s) := by
  unfold step
  rw [h]

/-- Settles O2, by the branches of `referencePeriod`. -/
theorem emptyQueueIsOneReferencePeriod : Obligations.EmptyQueueIsOneReferencePeriod := by
  intro s hs
  rw [step_of_none hs]
  refine ⟨fun hr => ?_, fun hr hlt => ?_, fun hr hge => ?_⟩
  · simp [referencePeriod, hr]
  · simp [referencePeriod, hr, hlt, putClock]
  · show _ = execDepotSecondBoundary s
    simp [referencePeriod, execDepotSecondBoundary, hr, Nat.not_lt.2 hge]

/-! ### Every command answers -/

/-- Every command but a host transaction answers a next state. -/
theorem exec_answers (c : Instr) (s : State) (hread : ∀ span addr, c ≠ .hostRead span addr)
    (hwrite : ∀ span addr bytes, c ≠ .hostWrite span addr bytes) : ∃ t, exec c s = .next t := by
  cases c
  case hostRead span addr => exact absurd rfl (hread span addr)
  case hostWrite span addr bytes => exact absurd rfl (hwrite span addr bytes)
  case startValue => show ∃ t, execStartValue s = .next t; unfold execStartValue; split <;> exact ⟨_, rfl⟩
  case stopValue => show ∃ t, execStopValue s = .next t; unfold execStopValue; split <;> exact ⟨_, rfl⟩
  case hostHalfRead => show ∃ t, execHostHalfRead s = .next t; unfold execHostHalfRead; split <;> exact ⟨_, rfl⟩
  case tableRead => show ∃ t, execTableRead s = .next t; unfold execTableRead; split <;> exact ⟨_, rfl⟩
  case balanceRead => show ∃ t, execBalanceRead s = .next t; unfold execBalanceRead; split <;> exact ⟨_, rfl⟩
  case orderPost => show ∃ t, execOrderPost s = .next t; unfold execOrderPost; split <;> exact ⟨_, rfl⟩
  case noticeTaken => show ∃ t, execNoticeTaken s = .next t; unfold execNoticeTaken; split <;> exact ⟨_, rfl⟩
  case poolPost => show ∃ t, execPoolPost s = .next t; unfold execPoolPost; split <;> exact ⟨_, rfl⟩
  case serviceFirstKey =>
    show ∃ t, execServiceFirstKey s = .next t; unfold execServiceFirstKey; split <;> exact ⟨_, rfl⟩
  case serviceSecondKey =>
    show ∃ t, execServiceSecondKey s = .next t; unfold execServiceSecondKey; split <;> exact ⟨_, rfl⟩
  case serviceWrongValue =>
    show ∃ t, execServiceWrongValue s = .next t; unfold execServiceWrongValue; split <;> exact ⟨_, rfl⟩
  case openFirstKey => show ∃ t, execOpenFirstKey s = .next t; unfold execOpenFirstKey; split <;> exact ⟨_, rfl⟩
  case openSecondKey => show ∃ t, execOpenSecondKey s = .next t; unfold execOpenSecondKey; split <;> exact ⟨_, rfl⟩
  case closeKey => show ∃ t, execCloseKey s = .next t; unfold execCloseKey; split <;> exact ⟨_, rfl⟩
  case wrongEditKey => show ∃ t, execWrongEditKey s = .next t; unfold execWrongEditKey; split <;> exact ⟨_, rfl⟩
  case commit => show ∃ t, execCommit s = .next t; unfold execCommit; split <;> exact ⟨_, rfl⟩
  case commitReadback =>
    show ∃ t, execCommitReadback s = .next t; unfold execCommitReadback; split <;> exact ⟨_, rfl⟩
  case linkTimer p => show ∃ t, execLinkTimer p s = .next t; unfold execLinkTimer; split <;> exact ⟨_, rfl⟩
  case pairingTimer => show ∃ t, execPairingTimer s = .next t; unfold execPairingTimer; split <;> exact ⟨_, rfl⟩
  case callTimer k => show ∃ t, execCallTimer k s = .next t; unfold execCallTimer; split <;> exact ⟨_, rfl⟩
  case stageTimer b => show ∃ t, execStageTimer b s = .next t; unfold execStageTimer; split <;> exact ⟨_, rfl⟩
  case pumpTimer => show ∃ t, execPumpTimer s = .next t; unfold execPumpTimer; split <;> exact ⟨_, rfl⟩
  case circulationDue k =>
    show ∃ t, execCirculationDue k s = .next t; unfold execCirculationDue; split <;> exact ⟨_, rfl⟩
  case tankStale k => show ∃ t, execTankStale k s = .next t; unfold execTankStale; split <;> exact ⟨_, rfl⟩
  case poolEntryRead =>
    show ∃ t, execPoolEntryRead s = .next t; unfold execPoolEntryRead; split <;> exact ⟨_, rfl⟩
  case depotSecondBoundary =>
    show ∃ t, execDepotSecondBoundary s = .next t; unfold execDepotSecondBoundary; split <;> exact ⟨_, rfl⟩
  case monitorCountdown =>
    show ∃ t, execMonitorCountdown s = .next t; unfold execMonitorCountdown; split <;> exact ⟨_, rfl⟩
  case lifetimeTimer =>
    show ∃ t, execLifetimeTimer s = .next t; unfold execLifetimeTimer; split <;> exact ⟨_, rfl⟩
  case lockoutTimer =>
    show ∃ t, execLockoutTimer s = .next t; unfold execLockoutTimer; split <;> exact ⟨_, rfl⟩
  all_goals exact ⟨_, rfl⟩

theorem exec_hostRead {span : Span} {addr : Word} {s : State} : exec (.hostRead span addr) s =
    if span.aligned addr then .next (issueHost (.read span addr) s) else .fault .malformedTransaction := rfl

theorem exec_hostWrite {span : Span} {addr : Word} {bytes : List (Option Byte)} {s : State} :
    exec (.hostWrite span addr bytes) s =
      if (Instr.hostWrite span addr bytes).wellFormed then .next (issueHost (.write span addr bytes) s)
      else .fault .malformedTransaction := rfl

theorem ne_refused_of_answers {o : Host.Outcome State Fault Refusal} (h : ∃ t, o = .next t) (r : Refusal) :
    o ≠ .refused r := by
  obtain ⟨t, rfl⟩ := h
  simp

theorem exec_ne_refused (c : Instr) (s : State) (r : Refusal) : exec c s ≠ .refused r := by
  cases c with
  | hostRead span addr => rw [exec_hostRead]; split <;> simp
  | hostWrite span addr bytes => rw [exec_hostWrite]; split <;> simp
  | _ => exact ne_refused_of_answers (exec_answers _ s (by simp) (by simp)) r

theorem exec_answers_of_wellFormed {c : Instr} (s : State) (h : c.wellFormed = true) : ∃ t, exec c s = .next t := by
  cases c with
  | hostRead span addr => exact ⟨_, exec_hostRead.trans (if_pos h)⟩
  | hostWrite span addr bytes => exact ⟨_, exec_hostWrite.trans (if_pos h)⟩
  | _ => exact exec_answers _ s (by simp) (by simp)

theorem exec_pending {c : Instr} {s t : State} (h : exec c s = .next t) : t.pending = s.pending := by
  rcases exec_cases h with hr | ⟨-, hr⟩
  · exact hr.within.pending
  · exact hr.within.pending.trans (pending_cutPort s)

/-- Settles O3. -/
theorem commandsAnswerAndKeepTheQueue : Obligations.CommandsAnswerAndKeepTheQueue := by
  refine ⟨fun _ _ _ => exec_pending, fun _ s h => exec_answers_of_wellFormed s h, fun span addr s h => ?_,
    fun span addr bytes s h => ?_, exec_ne_refused⟩
  · rw [exec_hostRead, if_neg (by simp [h])]
  · rw [exec_hostWrite, if_neg]
    rcases h with h | h <;> simp [Instr.wellFormed, h]

/-! ### What each command leaves alone -/

/-- Settles O53: the command's run stays within its scope. -/
theorem stateChangesOnlyByItsCommands : Obligations.StateChangesOnlyByItsCommands := by
  intro c s t h
  by_cases hreset : c = .resetInput
  · subst hreset; simp
  have w := (ends_exec c hreset s t h).within
  refine ⟨fun h1 _ a => ?_, fun h1 _ => ?_, fun h1 h2 _ => w.map ?_, fun h1 h2 h3 _ => ?_, fun h1 h2 _ => ?_,
    fun h1 h2 h3 h4 _ => ?_, fun h1 h2 h3 _ => ?_, fun h1 h2 _ => ?_, fun h1 h2 h3 _ => ?_⟩
  · rw [w.mem (by cases c <;> simp_all [scope])]
  · simpa using w.latched (by cases c <;> simp_all [scope])
  · cases c <;> simp_all [scope]
  · simpa using w.copies (by cases c <;> simp_all [scope])
  · simpa using w.counts (by cases c <;> simp_all [scope])
  · simpa using w.index (by cases c <;> simp_all [scope])
  · simpa using w.host (by cases c <;> simp_all [scope])
  · simpa using w.calibration (by cases c <;> simp_all [scope])
  · simpa using w.now (by cases c <;> simp_all [scope])

/-! ### The frame, timer and link rows -/

theorem part_setTable (x : TableUnit) (s : State) : (setTable x s).exch.part = s.exch.part :=
  (part_of_kept (kept_postChanged 3 s { s with table := x }) :)
theorem part_reach (e : Event) (s : State) : (reach e s).exch.part = s.exch.part := rfl
theorem part_leaveLifetime (s : State) : (leaveLifetime s).exch.part = s.exch.part := by
  unfold leaveLifetime leaveExpiry; repeat' split
  all_goals rfl
theorem part_tellTable_halted (s : State) : (tellTable .windowHalted s).exch.part = s.exch.part := by
  unfold tellTable; split
  · exact part_leaveLifetime s
  · exact part_setTable ..
theorem part_tellPage (s : State) : (tellPage s).exch.part = s.exch.part := by
  unfold tellPage; split
  · rfl
  · exact part_of_kept (kept_closePage 0 s)

theorem part_enterHalted (s : State) : (enterHalted s).exch.part = .halted := by
  unfold enterHalted
  rw [part_of_kept (kept_postLine ..), part_tellPage, part_tellTable_halted]
  exact part_of_kept (kept_refreshNow ..)

/-- The wind-down test leaves `kept` alone, or the part enters HALTED. -/
theorem kept_windDown (s : State) : kept (windDown s) = kept s ∨ (windDown s).exch.part = .halted := by
  by_cases hb : busy .exchange s = true
  · exact Or.inl (kept_windDown_of_busy hb)
  by_cases hm : windDownMet s = true
  · refine Or.inr ?_
    simp [windDown, windDownOwn, hm, hb, part_enterHalted]
  · exact Or.inl (by rw [windDown_eq_self (Bool.eq_false_iff.2 hm)])

/-- What keeps `kept` keeps it to the end of the event, or the part enters HALTED. -/
theorem kept_or_halted_conclude {s a b : State} (h : kept b = kept s) :
    kept (conclude a b) = kept s ∨ (conclude a b).exch.part = .halted := by
  unfold conclude
  rw [← h, ← kept_tidy a b]
  exact kept_windDown _

@[simp] theorem kept_sightingInvalid (p : PortId) (k : Byte) (s : State) : kept (sightingInvalid p k s) = kept s := by
  simp [sightingInvalid]

@[simp] theorem kept_gateSighting (g : Gate) (f : QFrame) (s : State) : kept (gateSighting g f s) = kept s := by
  cases g
  · simp only [gateSighting, entrySighting]
    split
    · rfl
    · split <;> simp
  · simp only [gateSighting, exitTaken]
    split <;> simp

@[simp] theorem kept_badArrival (p : PortId) (s : State) : kept (badArrival p s) = kept s := by
  unfold badArrival; dsimp only; split <;> simp

@[simp] theorem kept_portUp (p : PortId) (x : StationState) (s : State) : kept (portUp p x s) = kept s := by
  unfold portUp; dsimp only; split <;> simp

@[simp] theorem kept_statusArrival (p : PortId) (bs : List Byte) (s : State) :
    kept (statusArrival p bs s) = kept s := by
  unfold statusArrival; dsimp only; split <;> simp

@[simp] theorem kept_frameForRole (p : PortId) (f : QFrame) (s : State) : kept (frameForRole p f s) = kept s := by
  unfold frameForRole; dsimp only; split
  · split
    · simp
    · unfold overflowArrival; dsimp only; split <;> simp
  · simp

@[simp] theorem kept_frameArrival (p : PortId) (f : Frame) (s : State) : kept (frameArrival p f s) = kept s := by
  unfold frameArrival goodArrival; repeat' split
  all_goals simp

@[simp] theorem kept_startIfArrived (b : BayId) (s : State) : kept (startIfArrived b s) = kept s := by
  unfold startIfArrived; split
  · rfl
  · split <;> simp

@[simp] theorem kept_presenceOn (b : BayId) (s : State) : kept (presenceOn b s) = kept s := by
  unfold presenceOn uncalled; split <;> simp

@[simp] theorem kept_presenceOff (b : BayId) (s : State) : kept (presenceOff b s) = kept s := by
  unfold presenceOff; split <;> simp

@[simp] theorem kept_presenceFrame (b : BayId) (bs : List Byte) (s : State) :
    kept (presenceFrame b bs s) = kept s := by
  unfold presenceFrame; dsimp only; repeat' split
  all_goals simp

@[simp] theorem kept_bayTagFrame (b : BayId) (bs : List Byte) (s : State) : kept (bayTagFrame b bs s) = kept s := by
  unfold bayTagFrame calledTag wrongVehicle; dsimp only; repeat' split
  all_goals simp

@[simp] theorem kept_plantInvalid (r : Nat) (k : Byte) (n : Nat) (s : State) :
    kept (plantInvalid r k n s) = kept s := by simp [plantInvalid]

theorem kept_onTank {k : Byte} {act : TankId → QFrame → State → State} {f : QFrame} {s : State}
    (h : ∀ k, kept (act k f s) = kept s) : kept (onTank k act f s) = kept s := by
  unfold onTank; split
  · simp
  · exact h _

@[simp] theorem kept_levelFrame (k : TankId) (f : QFrame) (s : State) : kept (levelFrame k f s) = kept s := by
  unfold levelFrame setLevel; dsimp only; split <;> simp

@[simp] theorem kept_pumpDoneFrame (k : TankId) (f : QFrame) (s : State) : kept (pumpDoneFrame k f s) = kept s := by
  unfold pumpDoneFrame pumpAnswer; repeat' split
  all_goals simp

@[simp] theorem kept_overtakeDone (s : State) : kept (overtakeDone s) = kept s := by
  unfold overtakeDone; split <;> simp

@[simp] theorem kept_circulationReached (k : TankId) (s : State) : kept (circulationReached k s) = kept s := by
  unfold circulationReached; dsimp only; split <;> simp

@[simp] theorem kept_tankGoesStale (k : TankId) (s : State) : kept (tankGoesStale k s) = kept s := by
  simp [tankGoesStale]

theorem kept_or_halted_sightingRow (g : Gate) (k : Byte) (s : State) :
    kept (sightingRow g k s) = kept s ∨ (sightingRow g k s).exch.part = .halted := by
  unfold sightingRow; split
  · exact Or.inl rfl
  · exact kept_or_halted_conclude (by simp)

theorem kept_or_halted_bayFrameRow {b : BayId} {k : Byte} {act : List Byte → State → State} {s : State}
    (h : ∀ bs u, kept (act bs u) = kept u) :
    kept (bayFrameRow b k act s) = kept s ∨ (bayFrameRow b k act s).exch.part = .halted := by
  unfold bayFrameRow; split
  · exact Or.inl rfl
  · exact kept_or_halted_conclude (by rw [h, kept_takeFrame])

theorem kept_or_halted_plantRow {k : Byte} {act : TankId → QFrame → State → State} {s : State}
    (h : ∀ k f u, kept (act k f u) = kept u) :
    kept (plantRow k (onTank k act) s) = kept s ∨ (plantRow k (onTank k act) s).exch.part = .halted := by
  unfold plantRow; split
  · exact Or.inl rfl
  · exact kept_or_halted_conclude (by rw [kept_onTank fun k => h k _ _, kept_takeFrame])

/-- Settles O54: each row's own effect keeps `kept`, and its end does or the part enters HALTED. -/
theorem portAndTimerRowsKeepTheRest : Obligations.PortAndTimerRowsKeepTheRest := by
  intro p f g b k slot c s t hc h
  have next : ∀ {u : State}, Host.Outcome.next u = Host.Outcome.next (φ := Fault) (ρ := Refusal) t →
      (kept u = kept s ∨ u.exch.part = .halted) → kept t = kept s ∨ t.exch.part = .halted := by
    intro u hu; cases hu; exact id
  simp only [List.mem_cons, List.not_mem_nil, or_false] at hc
  rcases hc with rfl | rfl | rfl | rfl | rfl | rfl | rfl | rfl | rfl | rfl | rfl | rfl | rfl | rfl | rfl | rfl | rfl |
    rfl | rfl
  case inl => exact next h (kept_or_halted_conclude (by simp))
  · exact next h (kept_or_halted_conclude (by simp))
  · exact next h (kept_or_halted_conclude (by simp))
  · exact next h (Or.inl (kept_setPort ..))
  · change execLinkTimer p s = _ at h
    unfold execLinkTimer at h; split at h
    · exact next h (kept_or_halted_conclude (by simp))
    · exact next h (Or.inl rfl)
  · exact next h (kept_or_halted_sightingRow ..)
  · exact next h (kept_or_halted_sightingRow ..)
  · change execPairingTimer s = _ at h
    unfold execPairingTimer at h; split at h
    · exact next h (Or.inl rfl)
    · exact next h (kept_or_halted_conclude (by simp))
  · exact next h (Or.inl (kept_putGate rfl rfl))
  · change execCallTimer slot s = _ at h
    unfold execCallTimer at h; split at h
    · exact next h (Or.inl rfl)
    · exact next h (kept_or_halted_conclude (by simp))
  · exact next h (kept_or_halted_bayFrameRow (kept_presenceFrame b))
  · exact next h (kept_or_halted_bayFrameRow (kept_bayTagFrame b))
  · exact next h (kept_or_halted_bayFrameRow (kept_meterFrame b))
  · change execStageTimer b s = _ at h
    unfold execStageTimer at h; split at h
    · exact next h (kept_or_halted_conclude (by simp))
    · exact next h (Or.inl rfl)
  · exact next h (kept_or_halted_plantRow kept_levelFrame)
  · exact next h (kept_or_halted_plantRow kept_pumpDoneFrame)
  · change execPumpTimer s = _ at h
    unfold execPumpTimer at h; split at h
    · exact next h (kept_or_halted_conclude (by simp))
    · exact next h (Or.inl rfl)
  · change execCirculationDue k s = _ at h
    unfold execCirculationDue at h; split at h
    · exact next h (kept_or_halted_conclude (by simp))
    · exact next h (Or.inl rfl)
  · change execTankStale k s = _ at h
    unfold execTankStale at h; split at h
    · exact next h (kept_or_halted_conclude (by simp))
    · exact next h (Or.inl rfl)

end Sys2Proof.Machine

/-! PROOFS. The memory path (chapter 1): what a host transaction hands, where it is judged, what drops it. -/

namespace Sys2Proof.Machine

/-! ### An idle port takes a transaction (R1, R2, R5, R6) -/

theorem exec_hostRead_of_portIdle {span : Span} {addr : Word} {s : State} (hidle : portIdle s)
    (h : span.aligned addr = true) : exec (.hostRead span addr) s = .next { s with path := { s.path with
      host := some { op := .read span addr, hands := [], behind := behindOf (addr.toNat / 32) s.path.queue } } } := by
  rw [exec_hostRead, if_pos h, issueHost_of_portIdle hidle]
  simp only [arrive, holdHost, hidle.2.1]

/-- A write at an idle port arrives at once. -/
theorem exec_hostWrite_arrives {span : Span} {addr : Word} {bytes : List (Option Byte)} {s : State} (hidle : portIdle s)
    (h : (Instr.hostWrite span addr bytes).wellFormed = true) : exec (.hostWrite span addr bytes) s =
      .next { writeArrives span addr bytes s with path := { (writeArrives span addr bytes s).path with waiting := [] } } := by
  rw [exec_hostWrite, if_pos h, issueHost_of_portIdle hidle]
  rfl

/-- A write that the processor port keeps as it stands. -/
theorem exec_hostWrite_held {span : Span} {addr : Word} {bytes : List (Option Byte)} {hands : List Handed} {s : State}
    (hidle : portIdle s) (h : (Instr.hostWrite span addr bytes).wellFormed = true)
    (hheld : writeArrives span addr bytes s = holdHost (.write span addr bytes) addr.toNat hands s) :
    exec (.hostWrite span addr bytes) s = .next { s with path := { s.path with
      host := some { op := .write span addr bytes, hands := hands, behind := behindOf (addr.toNat / 32) s.path.queue } } } := by
  rw [exec_hostWrite_arrives hidle h, hheld]
  simp only [holdHost, hidle.2.1]

theorem supervised_eq_false {s : State} (h : s.exch.part = .dormant ∨ s.exch.part = .halted) : supervised s = false := by
  rcases h with h | h <;> simp [supervised, working, h]

theorem hostHalfHands_unsupervised {a : Nat} {bytes : List (Option Byte)} {s : State}
    (h : s.exch.part = .dormant ∨ s.exch.part = .halted) :
    hostHalfHands a bytes s = handsStart (coverage a Config.hostHalf bytes) := by
  rcases h with h | h <;> simp [hostHalfHands, h]

theorem hostHalfHands_supervised {a : Nat} {bytes : List (Option Byte)} {s : State} (h : supervised s = true) :
    hostHalfHands a bytes s = if s.exch.part = .loading then [] else controlHands a bytes := by
  unfold hostHalfHands
  split <;> simp_all [supervised, working]

/-! ### The values of the control words (R11, R25, R142, R176) -/

theorem editKeyOf_openFirst (u : TableId) : editKeyOf (0x4B3D0000 + BitVec.ofNat 32 u.code) = .openFirst u := by
  cases u <;> rfl
theorem editKeyOf_openSecond (u : TableId) : editKeyOf (0x2E910000 + BitVec.ofNat 32 u.code) = .openSecond u := by
  cases u <;> rfl

theorem editKeyOf_wrong {v : Word} (hclose : v ≠ 0x0C1A0000) (hopen : ∀ u : TableId,
    v ≠ 0x4B3D0000 + BitVec.ofNat 32 u.code ∧ v ≠ 0x2E910000 + BitVec.ofNat 32 u.code) : editKeyOf v = .wrongKey := by
  have hnone : [TableId.vehicles, .accounts, .programmes, .tariffs].find? (fun t =>
      v == Config.openFirst + BitVec.ofNat 32 t.code || v == Config.openSecond + BitVec.ofNat 32 t.code) = none :=
    List.find?_eq_none.2 fun u _ => by
      rw [Bool.or_eq_true, beq_iff_eq, beq_iff_eq, not_or]
      exact hopen u
  unfold editKeyOf
  rw [if_neg (show ¬ v = Config.closeValue from hclose), hnone]

/-- Settles O4. -/
theorem hostTransactionsAreForwarded : Obligations.HostTransactionsAreForwarded := by
  refine ⟨fun span addr s => exec_hostRead_of_portIdle, fun span addr bytes s hidle h hpart => ?_,
    fun span addr bytes s hidle h hsup hdrop hguard => ?_, fun _ _ => rfl, fun v => ⟨rfl, ?_, ?_, fun u => ⟨?_, ?_⟩,
      ?_, fun _ => rfl⟩, ⟨rfl, rfl, rfl, rfl, rfl, rfl, fun _ => ⟨rfl, rfl⟩⟩, fun addr word bytes => ⟨?_, fun hno => ?_⟩⟩
  · refine exec_hostWrite_held hidle h ?_
    unfold writeArrives
    rw [supervised_eq_false hpart, hostHalfHands_unsupervised hpart]
    rfl
  · refine exec_hostWrite_held hidle h ?_
    unfold writeArrives
    rw [if_pos hsup, hdrop]
    simp only [forwardWrite, hguard, hostHalfHands_supervised hsup]
  · rfl
  · rintro rfl; rfl
  · rintro rfl; exact congrArg (fun k => [k]) (editKeyOf_openFirst u)
  · rintro rfl; exact congrArg (fun k => [k]) (editKeyOf_openSecond u)
  · exact fun hclose hopen => congrArg (fun k => [k]) (editKeyOf_wrong hclose hopen)
  · intro x y z w hpart
    simp only [coverage, hpart]
  · simp only [coverage]

/-! ### Where writes are judged (R6) -/

theorem placeOf_full {b : Bases} {a : Nat} (hh : within a Config.hostHalf Config.halfSize = false)
    (hs : within a Config.statusHalf Config.halfSize = false) : placeOf .full b a = placeInRegions b a := by
  simp [placeOf, hh, hs]

theorem placeOf_provisional (b : Bases) {a : Nat} (hs : within a Config.statusHalf Config.halfSize = false) :
    placeOf .provisional b a = .hostHalf ∨ placeOf .provisional b a = .plain := by
  cases hh : within a Config.hostHalf Config.halfSize <;> simp [placeOf, hh, hs]

theorem within_statusHalf_not_hostHalf {a : Nat} (h : within a Config.statusHalf Config.halfSize = true) :
    within a Config.hostHalf Config.halfSize = false := by
  rw [Bool.eq_false_iff]
  intro hh
  simp only [within, Bool.and_eq_true, decide_eq_true_eq] at h hh
  have hlow : 1050624 ≤ a := h.1
  have hhigh : a < 1050624 := hh.2
  omega

theorem placeOf_statusHalf {m : RegionMap} {b : Bases} {a : Nat} (hm : m ≠ .clear)
    (h : within a Config.statusHalf Config.halfSize = true) : placeOf m b a = .statusHalf := by
  have hh := within_statusHalf_not_hostHalf h
  cases m with
  | clear => exact absurd rfl hm
  | _ => simp [placeOf, h, hh]

theorem placeOf_hostHalf {m : RegionMap} {b : Bases} {a : Nat} (hm : m ≠ .clear)
    (h : within a Config.hostHalf Config.halfSize = true) : placeOf m b a = .hostHalf := by
  cases m with
  | clear => exact absurd rfl hm
  | _ => simp [placeOf, h]

/-- Settles O6, by the place of the address. -/
theorem judgementByPlace : Obligations.JudgementByPlace := by
  intro a s
  refine ⟨fun hm hs => ?_, fun hm hs => ?_, fun hm hh => ?_, fun hm hh hs => ?_⟩
  · rcases placeOf_provisional s.path.bases hs with h | h <;> simp only [dropOf, hm, h]
  · simp only [dropOf, placeOf_statusHalf hm hs]
  · simp only [dropOf, placeOf_hostHalf hm hh]
  · have hplace : placeOf s.path.map s.path.bases a = placeInRegions s.path.bases a := hm ▸ placeOf_full hh hs
    refine ⟨fun h => ?_, fun h => ?_, fun h => ?_, fun h => ?_, fun i h => ?_, fun h => ?_, fun u e h => ?_⟩
    case refine_4.refine_4 => rcases h with h | h <;> simp only [dropOf, hplace, h]
    all_goals simp only [dropOf, hplace, h]

end Sys2Proof.Machine

/-! PROOFS. What is issued stays issued (R14, R15): requests, refreshes and notices asked for survive the rest of an event. -/

namespace Sys2Proof.Machine

/-! ### One request presented -/

/-- A request that no later one replaces in the queue. -/
def Request.lasting : Request → Bool
  | .read _ _ _ | .place _ _ => true
  | .refresh _ _ _ => false

theorem issued_iff {r : Request} {s : State} :
    issued r s = true ↔ r ∈ s.path.queue ∨ ∃ h ∈ s.path.held, h.issue.isRequest r = true := by
  simp [issued]

theorem refreshAsked_iff {r : Rec} {s : State} : refreshAsked r s = true ↔
    ((∃ q ∈ s.path.queue, q.refreshes r = true) ∨ ∃ h ∈ s.path.held, h.issue = .refresh r) ∨
      .ask (.refresh r) ∈ s.path.arrived.map Arrival.event := by
  simp [refreshAsked]

/-- What stands in a queue after a merge: the new request, and all that were not refreshes of its record. -/
theorem mem_mergeRefresh {r : Rec} {new : Request} : ∀ {l l' : List Request}, mergeRefresh r new l = some l' →
    new ∈ l' ∧ ∀ q ∈ l, q ∈ l' ∨ q.refreshes r = true
  | q :: rest, l', h => by
    unfold mergeRefresh at h
    split at h
    · next rest' hrest =>
      cases h
      obtain ⟨hnew, hold⟩ := mem_mergeRefresh hrest
      refine ⟨List.mem_cons_of_mem _ hnew, fun x hx => ?_⟩
      rcases List.mem_cons.1 hx with rfl | hx
      · exact Or.inl (List.mem_cons_self ..)
      · exact (hold x hx).imp_left (List.mem_cons_of_mem _)
    · split at h
      · next hq =>
        cases h
        refine ⟨List.mem_cons_self .., fun x hx => ?_⟩
        rcases List.mem_cons.1 hx with rfl | hx
        · exact Or.inr (by simp_all)
        · exact Or.inl (List.mem_cons_of_mem _ hx)
      · cases h

theorem mem_joinQueue {i : Issue} {s : State} {l : List Request} (h : joinQueue i s = some l) :
    asRequest i s ∈ l ∧ ∀ q ∈ s.path.queue, q ∈ l ∨ ∃ r, i = .refresh r ∧ q.refreshes r = true := by
  unfold joinQueue at h
  cases hm : mergeInPlace i s with
  | some l' =>
    rw [hm] at h
    cases h
    cases i with
    | refresh r =>
      obtain ⟨hnew, hold⟩ := mem_mergeRefresh hm
      exact ⟨hnew, fun q hq => (hold q hq).imp_right fun hr => ⟨r, rfl, hr⟩⟩
    | read _ _ _ => cases hm
    | place _ _ => cases hm
  | none =>
    rw [hm, Option.none_or] at h
    unfold appendIssue at h
    split at h
    · cases h
      simp +contextual
    · cases h

theorem mem_presented {i : Issue} {s : State} {l : List Request} (h : presented i s = some l) :
    asRequest i s ∈ l ∧ ∀ q ∈ s.path.queue, q ∈ l ∨ ∃ r, i = .refresh r ∧ q.refreshes r = true := by
  unfold presented at h
  split at h
  · exact mem_joinQueue h
  · split at h
    · cases h
    · exact mem_joinQueue (by rw [joinQueue, h]; rfl)

theorem asRequest_of_isRequest {i : Issue} {r : Request} (h : i.isRequest r = true) (s : State) :
    asRequest i s = r ∧ r.lasting = true := by
  cases i <;> simp_all [Issue.isRequest, asRequest, Request.lasting]

/-- A request presented is issued. -/
theorem issued_present {i : Issue} {r : Request} (h : i.isRequest r = true) (u : UnitId) (s : State) :
    issued r (present u i s) = true := by
  rw [issued_iff]
  unfold present
  split
  · next l hl => exact Or.inl ((asRequest_of_isRequest h s).1 ▸ (mem_presented hl).1)
  · exact Or.inr ⟨⟨u, i⟩, by simp, h⟩

theorem refreshAsked_present (u : UnitId) (r : Rec) (s : State) :
    refreshAsked r (present u (.refresh r) s) = true := by
  rw [refreshAsked_iff]
  unfold present
  split
  · next l hl => exact Or.inl (Or.inl ⟨_, (mem_presented hl).1, by simp [asRequest, Request.refreshes]⟩)
  · exact Or.inl (Or.inr ⟨⟨u, .refresh r⟩, by simp, rfl⟩)

theorem issued_present_of_issued {r : Request} {s : State} (hr : r.lasting = true) (h : issued r s = true) (u : UnitId)
    (i : Issue) : issued r (present u i s) = true := by
  rw [issued_iff] at h ⊢
  unfold present
  split
  · next l hl =>
    refine h.imp_left fun hq => ((mem_presented hl).2 r hq).elim id fun ⟨rec, _, href⟩ => ?_
    cases r <;> simp_all [Request.lasting, Request.refreshes]
  · exact h.imp_right fun ⟨x, hx, hi⟩ => ⟨x, List.mem_append_left _ hx, hi⟩

theorem refreshAsked_present_of_asked {r : Rec} {s : State} (h : refreshAsked r s = true) (u : UnitId) (i : Issue) :
    refreshAsked r (present u i s) = true := by
  rw [refreshAsked_iff] at h ⊢
  rw [arrived_present]
  refine h.imp_left fun h => ?_
  unfold present
  split
  · next l hl =>
    refine h.imp_left fun ⟨q, hq, hqr⟩ => ((mem_presented hl).2 q hq).elim (fun hq' => ⟨q, hq', hqr⟩) ?_
    rintro ⟨rec, rfl, hrec⟩
    cases q with
    | refresh r' a b =>
      simp only [Request.refreshes, beq_iff_eq] at hqr hrec
      exact ⟨_, (mem_presented hl).1, by simp [asRequest, Request.refreshes, ← hqr, ← hrec]⟩
    | _ => cases hqr
  · exact h.imp_right fun ⟨x, hx, hi⟩ => ⟨x, List.mem_append_left _ hx, hi⟩

/-! ### Through every change that takes no event -/

theorem issued_congr {r : Request} {s t : State} (hq : t.path.queue = s.path.queue) (hh : t.path.held = s.path.held) :
    issued r t = issued r s := by simp [issued, hq, hh]

theorem refreshAsked_congr {r : Rec} {s t : State} (hq : t.path.queue = s.path.queue)
    (hh : t.path.held = s.path.held) (ha : t.path.arrived = s.path.arrived) : refreshAsked r t = refreshAsked r s := by
  simp [refreshAsked, hq, hh, ha]

theorem issued_makeWay {r : Request} {s : State} (u : UnitId) (rec : Rec) :
    issued r (makeWay u rec s) = issued r s := by
  rw [Bool.eq_iff_iff, issued_iff, issued_iff]
  exact or_congr Iff.rfl (exists_congr fun h => and_congr_left' (giveWay_perm u rec s.path.held).mem_iff)

theorem refreshAsked_makeWay {r : Rec} {s : State} (u : UnitId) (rec : Rec) :
    refreshAsked r (makeWay u rec s) = refreshAsked r s := by
  rw [Bool.eq_iff_iff, refreshAsked_iff, refreshAsked_iff]
  exact or_congr (or_congr Iff.rfl
    (exists_congr fun h => and_congr_left' (giveWay_perm u rec s.path.held).mem_iff)) Iff.rfl

theorem queue_keepDropPos_held (n : Notice) (pos : Option Count) (s : State) :
    (keepDropPos n pos s).path.held = s.path.held := by
  unfold keepDropPos; split <;> rfl

theorem issued_writeNotice {r : Request} {s : State} (hr : r.lasting = true) (h : issued r s = true) (n : Notice)
    (asked : Stamp) : issued r (writeNotice n asked s) = true := by
  unfold writeNotice
  split
  · refine issued_present_of_issued hr ?_ ..
    rw [issued_congr (queue_keepDropPos ..) (queue_keepDropPos_held ..)]
    exact (issued_makeWay ..).trans (issued_present_of_issued hr h ..)
  · have hdrop : issued r (keepDropPos n none { s with exch := { s.exch with overrun := true } }) = true := by
      rw [issued_congr (queue_keepDropPos ..) (queue_keepDropPos_held ..)]; exact h
    dsimp only
    split
    · exact hdrop
    · exact issued_present_of_issued hr hdrop ..

theorem refreshAsked_writeNotice {r : Rec} {s : State} (h : refreshAsked r s = true) (n : Notice) (asked : Stamp) :
    refreshAsked r (writeNotice n asked s) = true := by
  unfold writeNotice
  split
  · refine refreshAsked_present_of_asked ?_ ..
    rw [refreshAsked_congr (queue_keepDropPos ..) (queue_keepDropPos_held ..) (arrived_keepDropPos ..)]
    exact (refreshAsked_makeWay ..).trans (refreshAsked_present_of_asked h ..)
  · have hdrop : refreshAsked r (keepDropPos n none { s with exch := { s.exch with overrun := true } }) = true := by
      rw [refreshAsked_congr (queue_keepDropPos ..) (queue_keepDropPos_held ..) (arrived_keepDropPos ..)]; exact h
    dsimp only
    split
    · exact hdrop
    · exact refreshAsked_present_of_asked hdrop ..

theorem event_mem_reach {e : Event} {s : State} (h : e ∈ s.path.arrived.map Arrival.event) (e' : Event) :
    e ∈ (reach e' s).path.arrived.map Arrival.event := by
  have hpassed : ∀ us, (s.path.arrived.map (Arrival.passed us)).map Arrival.event = s.path.arrived.map Arrival.event :=
    fun us => by simp [Function.comp_def]
  unfold reach
  dsimp only
  split <;> simp only [List.map_append, hpassed] <;> exact List.mem_append_left _ h

/-- A read or a placement that is issued stays issued while no request is granted. -/
theorem Change.issued {L : Scope} {r : Request} {s t : State} (c : Change L s t) (hhost : L.host = false)
    (hr : r.lasting = true) (h : issued r s = true) : issued r t = true := by
  cases c with
  | present u i => exact issued_present_of_issued hr h ..
  | makeWay u rec => exact (issued_makeWay ..).trans h
  | notice n asked _ => exact issued_writeNotice hr h ..
  | takeNotice n asked _ _ => exact issued_writeNotice (s := dropArrival _ s) hr h ..
  | halt _ => exact (issued_present_of_issued (s := { s with exch := { s.exch with part := .halted } }) hr h .. :)
  | path x hL _ _ _ _ _ => exact absurd hL (Bool.eq_false_iff.1 hhost)
  | _ => exact h

/-- A refresh that is asked for stays asked for while no event is taken and no request granted. -/
theorem Change.refreshAsked {L : Scope} {r : Rec} {s t : State} (c : Change L s t) (hhost : L.host = false)
    (htakes : L.takes = false) (hrows : L.rows = false) (h : refreshAsked r s = true) : refreshAsked r t = true := by
  have takes : L.takes ≠ true := Bool.eq_false_iff.1 htakes
  have rows : L.rows ≠ true := Bool.eq_false_iff.1 hrows
  cases c with
  | present u i => exact refreshAsked_present_of_asked h ..
  | makeWay u rec => exact (refreshAsked_makeWay ..).trans h
  | notice n asked _ => exact refreshAsked_writeNotice h ..
  | reach e _ _ =>
    rw [refreshAsked_iff] at h ⊢
    exact h.imp_right fun ha => event_mem_reach ha e
  | halt _ => exact (refreshAsked_present_of_asked (s := { s with exch := { s.exch with part := .halted } }) h .. :)
  | path x hL _ _ _ _ _ => exact absurd hL (Bool.eq_false_iff.1 hhost)
  | takeNotice n asked _ hL => exact absurd hL takes
  | drop e hL => exact absurd hL (by simp [takes, rows])
  | loading _ _ _ _ hL => exact absurd hL rows
  | refuse e n _ hL => exact absurd (by rw [hL]) rows
  | accept x _ hL => exact absurd (by rw [hL]) rows
  | _ => exact h

/-- OVERRUN once set stays set while no row takes its event. -/
theorem Change.overrun {L : Scope} {s t : State} (c : Change L s t) (hrows : L.rows = false)
    (h : s.exch.overrun = true) : t.exch.overrun = true := by
  have rows : L.rows ≠ true := Bool.eq_false_iff.1 hrows
  cases c with
  | present u i => rw [exch_present]; exact h
  | notice n asked _ => rw [exch_writeNotice]; split; exacts [h, rfl]
  | exch e _ _ hL => exact absurd hL rows
  | halt _ =>
    exact (congrArg ExchangeUnit.overrun (exch_present ..) :).trans h
  | takeNotice n asked _ _ => rw [exch_writeNotice]; split; exacts [h, rfl]
  | loading _ _ _ _ hL => exact absurd hL rows
  | refuse e n _ hL => exact absurd (by rw [hL]) rows
  | accept x _ hL => exact absurd (by rw [hL]) rows
  | _ => exact h

namespace Run

variable {L : Scope} {s t : State} {r : Request} {rec : Rec}

theorem issued (h : Run L s t) (hhost : L.host = false) (hr : r.lasting = true) (hs : issued r s = true) :
    issued r t = true := h.keeps (fun c => c.issued hhost hr) hs

theorem refreshAsked (h : Run L s t) (hhost : L.host = false) (htakes : L.takes = false) (hrows : L.rows = false)
    (hs : refreshAsked rec s = true) : refreshAsked rec t = true :=
  h.keeps (fun c => c.refreshAsked hhost htakes hrows) hs

theorem overrun (h : Run L s t) (hrows : L.rows = false) (hs : s.exch.overrun = true) : t.exch.overrun = true :=
  h.keeps (fun c => c.overrun hrows) hs

theorem asked {a : Nat} {bytes : List Byte} (h : Run L s t) (hhost : L.host = false) (hs : asked a bytes s = true) :
    asked a bytes t = true := h.issued hhost rfl hs

end Run

/-! ### Notices and posts -/

theorem refreshAsked_post (r : Rec) (s : State) : refreshAsked r (post r s) = true := by
  unfold post
  split
  · rw [refreshAsked_iff]
    exact Or.inr (by simp [reach])
  · exact refreshAsked_present ..

theorem asked_placeTold (u : UnitId) (r : Rec) (a : Nat) (bytes : List Byte) (s : State) :
    asked a bytes (placeTold u r a bytes s) = true :=
  (issued_makeWay u r).trans (issued_present (by simp [Issue.isRequest]) u s)

/-- A notice written stands in the ring's placements, or OVERRUN is set (R33). -/
theorem noticeGiven_writeNotice (n : Notice) (s : State) : noticeGiven n s (writeNotice n s.clock.now s) := by
  unfold noticeGiven
  split
  · next hroom =>
    rw [exch_writeNotice, if_pos hroom]
    refine ⟨?_, rfl⟩
    unfold writeNotice
    rw [if_pos hroom]
    refine issued_present_of_issued rfl ?_ ..
    rw [issued_congr (queue_keepDropPos ..) (queue_keepDropPos_held ..)]
    exact asked_placeTold ..
  · next hfull =>
    rw [exch_writeNotice, if_neg hfull]
    exact ⟨rfl, rfl⟩

theorem notify_of_unaccepted {s : State} (h : accepted s = false) (n : Notice) : notify n s = s := by simp [notify, h]
theorem notify_of_free {s : State} (h : accepted s = true) (hb : busy .exchange s = false) (n : Notice) :
    notify n s = writeNotice n s.clock.now s := by simp [notify, askNotice, h, hb]
theorem notify_of_busy {s : State} (h : accepted s = true) (hb : busy .exchange s = true) (n : Notice) :
    notify n s = reach (.ask (.notice n s.clock.now)) s := by simp [notify, askNotice, h, hb]

theorem noticeGiven_notify {s : State} (h : accepted s = true) (hb : busy .exchange s = false) (n : Notice) :
    noticeGiven n s (notify n s) := by
  rw [notify_of_free h hb]; exact noticeGiven_writeNotice n s

/-- The arrivals behind a busy unit, with a new one at the end. -/
theorem events_reach (e : Event) (s : State) :
    (reach e s).path.arrived.map Arrival.event = s.path.arrived.map Arrival.event ++ [e] := by
  unfold reach
  dsimp only
  split <;> simp [Function.comp_def]

theorem waits_reach_of_busy {e : Event} {u : UnitId} {s : State} (hu : u ∈ e.units) (hb : busy u s = true) :
    waits u (reach e s) = true := by
  rw [waits, reach_of_busy hu hb, List.any_append, Bool.or_eq_true]
  exact Or.inr (by simp [Event.isFor, hu])

end Sys2Proof.Machine

/-! PROOFS. Dropped writes (R12, R13). -/

namespace Sys2Proof.Machine

/-! ### What a request presented leaves of the Path Unit, and of who waits -/

@[simp] theorem dropPos_present (u : UnitId) (i : Issue) (s : State) :
    (present u i s).path.dropPos = s.path.dropPos := by
  unfold present; split <;> rfl
@[simp] theorem bases_present (u : UnitId) (i : Issue) (s : State) : (present u i s).path.bases = s.path.bases :=
  (congrArg PathUnit.bases (registers_present u i s) :)
@[simp] theorem map_present (u : UnitId) (i : Issue) (s : State) : (present u i s).path.map = s.path.map :=
  map_of_registers (registers_present u i s)

@[simp] theorem waits_present (u v : UnitId) (i : Issue) (s : State) : waits u (present v i s) = waits u s := by
  simp [waits]

/-- Another unit's request is not one that this unit holds. -/
theorem holds_present {u v : UnitId} (h : v ≠ u) (i : Issue) (s : State) : holds u (present v i s) = holds u s := by
  unfold present holds
  split
  · rfl
  · simp [h]

theorem busy_present {u v : UnitId} (h : v ≠ u) (i : Issue) (s : State) : busy u (present v i s) = busy u s := by
  simp [busy, holds_present h]

@[simp] theorem accepted_present (u : UnitId) (i : Issue) (s : State) : accepted (present u i s) = accepted s :=
  accepted_congr (by simp) (by simp)

/-- The position kept of a WRITE_DROPPED moves with that notice alone (R13). -/
theorem dropPos_writeNotice (n : Notice) (asked : Stamp) (s : State) : (writeNotice n asked s).path.dropPos =
    if n.kind = .writeDropped then
      if dist s.exch.taken s.exch.producer < Config.noticeEntries then some s.exch.producer else none
    else s.path.dropPos := by
  have hplace : ∀ r a bytes, (placeTold .exchange r a bytes s).path.dropPos = s.path.dropPos := fun r a bytes =>
    dropPos_present ..
  unfold writeNotice keepDropPos driveAttention
  split
  · dsimp only
    rw [dropPos_present]
    by_cases hk : n.kind = .writeDropped <;> simp [hk, hplace]
  · dsimp only
    by_cases hk : n.kind = .writeDropped <;> by_cases ho : s.exch.overrun = true <;> simp [hk, ho]

theorem noticeGiven_congr {n : Notice} {s s' t : State} (hx : s'.exch = s.exch) (hb : s'.path.bases = s.path.bases)
    (hc : s'.clock = s.clock) (h : noticeGiven n s' t) : noticeGiven n s t := by
  unfold noticeGiven at h ⊢
  rwa [hx, hb, hc] at h

/-! ### The drop (R12, R13) -/

/-- The state in which a drop is counted and its line's refresh issued. -/
def dropCounted (addr : Word) (c : DropClass) (s : State) : State :=
  present .path (.refresh (.line 1))
    { s with path := { s.path with dropped := s.path.dropped + 1, dropAddr := addr, dropClass := some c } }

theorem dropWrite_eq (addr : Word) (c : DropClass) (s : State) :
    dropWrite addr c s = dropNotice c (dropCounted addr c s) := rfl

theorem run_dropNotice {L : Scope} {c : DropClass} {s t : State} (h : Run L s t) : Run L s (dropNotice c t) := by
  unfold dropNotice
  split
  · exact h
  · exact h.notify

section Counted

variable (addr : Word) (c : DropClass) (s : State)

@[simp] theorem exch_dropCounted : (dropCounted addr c s).exch = s.exch := exch_present ..
@[simp] theorem arrived_dropCounted : (dropCounted addr c s).path.arrived = s.path.arrived := arrived_present ..
@[simp] theorem dropPos_dropCounted : (dropCounted addr c s).path.dropPos = s.path.dropPos := dropPos_present ..
@[simp] theorem bases_dropCounted : (dropCounted addr c s).path.bases = s.path.bases := bases_present ..
@[simp] theorem clock_dropCounted : (dropCounted addr c s).clock = s.clock := clock_present ..
@[simp] theorem accepted_dropCounted : accepted (dropCounted addr c s) = accepted s := accepted_present ..
@[simp] theorem busy_dropCounted : busy .exchange (dropCounted addr c s) = busy .exchange s := busy_present (by decide) ..
theorem dropOutstanding_dropCounted : dropOutstanding (dropCounted addr c s) = dropOutstanding s := by
  simp [dropOutstanding]

/-- The notice of the drop as it is asked for. -/
theorem dropNotice_dropCounted : dropNotice c (dropCounted addr c s) =
    if dropOutstanding s then dropCounted addr c s
    else notify { kind := .writeDropped, subject := c.code, first := addr.toNat, second := (s.path.dropped + 1).toNat }
      (dropCounted addr c s) := by
  unfold dropNotice
  rw [dropOutstanding_dropCounted]
  have hp : registers (dropCounted addr c s).path = registers { s.path with
    dropped := s.path.dropped + 1, dropAddr := addr, dropClass := some c } := registers_present ..
  have hd : (dropCounted addr c s).path.dropped = s.path.dropped + 1 := (congrArg PathUnit.dropped hp :)
  have ha : (dropCounted addr c s).path.dropAddr = addr := (congrArg PathUnit.dropAddr hp :)
  rw [hd, ha]

end Counted

/-- A write that is dropped at an idle port. -/
theorem exec_hostWrite_dropped {span : Span} {addr : Word} {bytes : List (Option Byte)} {c : DropClass} {s : State}
    (hidle : portIdle s) (h : (Instr.hostWrite span addr bytes).wellFormed = true) (hsup : supervised s = true)
    (hdrop : dropOf addr.toNat s = some c) : exec (.hostWrite span addr bytes) s =
      .next { dropWrite addr c (refusalNotice addr.toNat s) with
              path := { (dropWrite addr c (refusalNotice addr.toNat s)).path with waiting := [] } } := by
  rw [exec_hostWrite_arrives hidle h]
  unfold writeArrives
  rw [if_pos hsup, hdrop]

theorem refusalNotice_eq_self {a : Nat} {s : State} (h : ∀ u e, guardedEntry a s = some (u, e) → s.table.window ≠ .opened u) :
    refusalNotice a s = s := by
  unfold refusalNotice
  split
  · rfl
  · next u e hentry => exact if_neg (h u e hentry)

/-- In DORMANT and HALTED the transactions taken leave the drop fields (R12). -/
theorem drops_acceptOps {s : State} (h : supervised s = false) (ops : List HostOp) :
    (acceptOps ops s).path.dropped = s.path.dropped ∧ (acceptOps ops s).path.dropAddr = s.path.dropAddr ∧
      (acceptOps ops s).path.dropClass = s.path.dropClass := by
  induction ops generalizing s with
  | nil => exact ⟨rfl, rfl, rfl⟩
  | cons op ops ih =>
    unfold acceptOps
    split
    · cases op with
      | read span addr => exact ih (s := holdHost (.read span addr) addr.toNat [] s) h
      | write span addr bytes =>
        have harr : arrive (.write span addr bytes) s =
            holdHost (.write span addr bytes) addr.toNat (hostHalfHands addr.toNat bytes s) s := by
          unfold arrive writeArrives
          simp [h]
        rw [harr]
        exact ih h
    · exact ⟨rfl, rfl, rfl⟩

theorem dropOutstanding_iff {s : State} : dropOutstanding s = true ↔ ∃ p, s.path.dropPos = some p ∧
    dist p s.exch.producer ≤ dist s.exch.taken s.exch.producer := by
  unfold dropOutstanding
  split <;> simp_all

/-- Settles O5. -/
theorem droppedWriteIsCounted : Obligations.DroppedWriteIsCounted := by
  refine ⟨fun span addr bytes c s hidle h hsup hdrop => ⟨_, exec_hostWrite_dropped hidle h hsup hdrop, ?_⟩,
    fun _ => rfl, fun span addr bytes s t hpart h => ?_, fun s => ⟨_, rfl, ?_⟩, fun _ => dropOutstanding_iff,
    fun span addr bytes c s hidle h hsup hdrop hwindow => ⟨_, exec_hostWrite_dropped hidle h hsup hdrop, ?_⟩⟩
  · have hkept := pathKept_writeArrives_of_dropped (addr := addr) (s := s) (c := c) (by simp [verdict, hsup, hdrop]) span bytes
    have hw : writeArrives span addr bytes s = dropWrite addr c (refusalNotice addr.toNat s) := by
      unfold writeArrives; rw [if_pos hsup, hdrop]
    rw [hw] at hkept
    have ⟨hhost, _, hhanded⟩ := hidle
    refine ⟨(congrArg PathKept.dropped hkept :), (congrArg PathKept.dropAddr hkept :), (congrArg PathKept.dropClass hkept :),
      ?_, (congrArg PathKept.host hkept :).trans hhost, rfl, (congrArg PathKept.handed hkept :).trans hhanded, ?_⟩
    · refine (refreshAsked_congr rfl rfl rfl).trans ?_
      rw [dropWrite_eq]
      exact (run_dropNotice (L := {}) .refl).refreshAsked rfl rfl rfl (refreshAsked_present ..)
    · exact (ends_exec _ (by simp) s _ (exec_hostWrite_dropped hidle h hsup hdrop)).within.mem rfl
  · have hsup := supervised_eq_false hpart
    rw [exec_hostWrite] at h
    split at h
    · cases h
      exact drops_acceptOps hsup _
    · cases h
  · obtain ⟨-, haddr, hclass⟩ := drops_acceptOps (s := resetUnits (cutPort s)) rfl (resetUnits (cutPort s)).path.waiting
    exact ⟨hclass, haddr⟩
  · rw [refusalNotice_eq_self hwindow, dropWrite_eq, dropNotice_dropCounted]
    refine ⟨fun hno => ?_, fun hacc hout hfree => ?_, fun hacc hout hbusy => ?_⟩
    · cases hout : dropOutstanding s with
      | true => exact ⟨exch_dropCounted addr c s, dropPos_dropCounted addr c s⟩
      | false =>
        have hacc : accepted (dropCounted addr c s) = false :=
          (accepted_dropCounted addr c s).trans (hno.resolve_right (by simp [hout]))
        simp only [Bool.false_eq_true, if_false, notify_of_unaccepted hacc]
        exact ⟨exch_dropCounted addr c s, dropPos_dropCounted addr c s⟩
    · simp only [hout, Bool.false_eq_true, if_false]
      refine ⟨?_, ?_⟩
      · exact noticeGiven_congr (exch_dropCounted addr c s) (bases_dropCounted addr c s) (clock_dropCounted addr c s)
          (noticeGiven_notify (by simpa using hacc) (by simpa using hfree) _)
      · rw [notify_of_free (by simpa using hacc) (by simpa using hfree)]
        refine (dropPos_writeNotice ..).trans ?_
        simp
    · simp only [hout, Bool.false_eq_true, if_false]
      have hbusy' : busy .exchange (dropCounted addr c s) = true := by simpa using hbusy
      rw [notify_of_busy (by simpa using hacc) hbusy']
      refine ⟨?_, waits_reach_of_busy (by simp [Event.units]) hbusy', dropPos_dropCounted addr c s⟩
      refine (events_reach ..).trans ?_
      simp

end Sys2Proof.Machine

/-! PROOFS. What the yard's and the gates' operations leave of the Water Unit and the Tally Unit (chapters 4 and 5). -/

namespace Sys2Proof.Machine

/-- The Water Unit and the Tally Unit. -/
def stores (s : State) : WaterUnit × TallyUnit := (s.water, s.tally)

theorem water_of_stores {s t : State} (h : stores s = stores t) : s.water = t.water := (Prod.ext_iff.1 h).1
theorem tally_of_stores {s t : State} (h : stores s = stores t) : s.tally = t.tally := (Prod.ext_iff.1 h).2

theorem water_of_besidesPorts {a b : State} (h : besidesPorts a = besidesPorts b) : a.water = b.water :=
  show (besidesPorts a).water = (besidesPorts b).water from congrArg State.water h
theorem gate_of_besidesPorts {a b : State} (h : besidesPorts a = besidesPorts b) : a.gate = b.gate :=
  show (besidesPorts a).gate = (besidesPorts b).gate from congrArg State.gate h
theorem table_of_besidesPorts {a b : State} (h : besidesPorts a = besidesPorts b) : a.table = b.table :=
  show (besidesPorts a).table = (besidesPorts b).table from congrArg State.table h
theorem clock_of_besidesPorts {a b : State} (h : besidesPorts a = besidesPorts b) : a.clock = b.clock :=
  show (besidesPorts a).clock = (besidesPorts b).clock from congrArg State.clock h
theorem latched_of_besidesPorts {a b : State} (h : besidesPorts a = besidesPorts b) : a.latched = b.latched :=
  show (besidesPorts a).latched = (besidesPorts b).latched from congrArg State.latched h
theorem mem_of_besidesPorts {a b : State} (h : besidesPorts a = besidesPorts b) : a.mem = b.mem :=
  show (besidesPorts a).mem = (besidesPorts b).mem from congrArg State.mem h

theorem stores_of_besides {a b : State} (h : besides a = besides b) : stores a = stores b :=
  Prod.ext (water_of_besides h) (tally_of_besides h)
theorem stores_of_besidesPorts {a b : State} (h : besidesPorts a = besidesPorts b) : stores a = stores b :=
  Prod.ext (water_of_besidesPorts h) (tally_of_besidesPorts h)

@[simp] theorem stores_notify (n : Notice) (s : State) : stores (notify n s) = stores s :=
  stores_of_besides (besides_notify n s)
@[simp] theorem stores_postVisit (slot : Slot) (s : State) : stores (postVisit slot s) = stores s :=
  stores_of_besides (besides_postVisit slot s)
@[simp] theorem stores_setVisit (slot : Slot) (v : Option Visit) (s : State) : stores (setVisit slot v s) = stores s :=
  (stores_of_besides (besides_setVisit slot v s) :)
@[simp] theorem stores_setBayWith (b : BayId) (f : Bay → Bay) (s : State) : stores (setBayWith b f s) = stores s :=
  (stores_of_besides (besides_setBay b (f s.bays[b]) s) :)
@[simp] theorem stores_offer (p : PortId) (f : QFrame) (s : State) : stores (offer p f s) = stores s :=
  stores_of_besidesPorts (besidesPorts_offer p f s)
@[simp] theorem stores_takeFrame (p : PortId) (s : State) : stores (takeFrame p s) = stores s :=
  stores_of_besidesPorts (besidesPorts_takeFrame p s)
@[simp] theorem stores_putGate (g : GateUnit) (s : State) : stores (putGate g s) = stores s := rfl
@[simp] theorem stores_putVisit (slot : Slot) (v : Option Visit) (s : State) : stores (putVisit slot v s) = stores s := rfl
@[simp] theorem stores_withYard (y : YardUnit) (s : State) : stores { s with yard := y } = stores s := rfl

/-! ### The yard -/

@[simp] theorem stores_enqueue (slot : Slot) (v : Visit) (s : State) : stores (enqueue slot v s) = stores s := rfl
@[simp] theorem stores_callVisit (slot : Slot) (v : Visit) (b : BayId) (s : State) :
    stores (callVisit slot v b s) = stores s := by
  simp only [callVisit, stores_offer, stores_setBayWith, stores_setVisit]; rfl
@[simp] theorem stores_arbiterCalls (n : Nat) (s : State) : stores (arbiterCalls n s) = stores s := by
  induction n generalizing s with
  | zero => rfl
  | succ n ih =>
    unfold arbiterCalls; split
    · rfl
    · rw [ih, stores_callVisit]
@[simp] theorem stores_arbiter (s : State) : stores (arbiter s) = stores s := by
  unfold arbiter; split
  · rfl
  · exact stores_arbiterCalls 8 s
@[simp] theorem stores_unservableCheck (slot : Slot) (v : Visit) (s : State) :
    stores (unservableCheck slot v s) = stores s := by
  unfold unservableCheck; split
  · rfl
  · exact stores_notify _ s
@[simp] theorem stores_queueVisit (slot : Slot) (v : Visit) (s : State) : stores (queueVisit slot v s) = stores s := by
  simp [queueVisit]
@[simp] theorem stores_endCallAtBay (b : BayId) (s : State) : stores (endCallAtBay b s) = stores s := by
  unfold endCallAtBay; dsimp only; split <;> simp
@[simp] theorem stores_requeue (slot : Slot) (v : Visit) (s : State) : stores (requeue slot v s) = stores s := by
  simp [requeue]
@[simp] theorem stores_release (slot : Slot) (v : Visit) (r : VisitReason) (s : State) :
    stores (release slot v r s) = stores s := by simp [release]
@[simp] theorem stores_withdrawCall (slot : Slot) (v : Visit) (c : Nat) (s : State) :
    stores (withdrawCall slot v c s) = stores s := by simp [withdrawCall]
@[simp] theorem stores_expireCall (slot : Slot) (v : Visit) (b : BayId) (s : State) :
    stores (expireCall slot v b s) = stores s := by
  unfold expireCall; dsimp only; split <;> simp

/-! ### The gates -/

@[simp] theorem stores_gateWith (e : EntryState) (s : State) : stores (gateWith e s) = stores s := rfl
@[simp] theorem stores_raiseBarrier (g : Gate) (n : Count) (s : State) : stores (raiseBarrier g n s) = stores s := by
  unfold raiseBarrier; split <;> simp
@[simp] theorem stores_holdVisit (slot : Slot) (v : Visit) (r : VisitReason) (s : State) :
    stores (holdVisit slot v r s) = stores s := by simp [holdVisit]
@[simp] theorem stores_admitVisit (slot : Slot) (v : Visit) (s : State) : stores (admitVisit slot v s) = stores s := by
  simp [admitVisit]
@[simp] theorem stores_settleAdmission (slot : Slot) (v : Visit) (s : State) :
    stores (settleAdmission slot v s) = stores s := by
  unfold settleAdmission; split <;> simp
@[simp] theorem stores_createVisit (p : Pair) (o : Ident) (slot : Slot) (s : State) :
    stores (createVisit p o slot s) = stores s := by
  unfold createVisit; dsimp only; split <;> simp
@[simp] theorem stores_reevaluate (l : List Slot) (s : State) : stores (reevaluate l s) = stores s := by
  induction l generalizing s with
  | nil => rfl
  | cons a l ih => unfold reevaluate; split <;> simp [ih]
@[simp] theorem stores_pauseLifted (s : State) : stores (pauseLifted s) = stores s := stores_reevaluate _ s
@[simp] theorem stores_creditEased (a : AccountId) (s : State) : stores (creditEased a s) = stores s :=
  stores_reevaluate _ s
@[simp] theorem stores_decidePair (p : Pair) (s : State) : stores (decidePair p s) = stores s := by
  unfold decidePair; dsimp only; split
  · simp
  · split <;> simp
@[simp] theorem stores_offerSlot (slot : Slot) (s : State) : stores (offerSlot slot s) = stores s := by
  unfold offerSlot; split
  · dsimp only; split <;> simp
  · rfl
@[simp] theorem stores_openPair (x : Sighting) (s : State) : stores (openPair x s) = stores s := rfl
@[simp] theorem stores_sameKind (b : Bool) (p : Pair) (x : Sighting) (s : State) :
    stores (sameKind b p x s) = stores s := by
  unfold sameKind; split
  · rfl
  · dsimp only; split <;> simp
@[simp] theorem stores_pairSighting (x : Sighting) (s : State) : stores (pairSighting x s) = stores s := by
  unfold pairSighting; split
  · simp
  · split <;> split <;> simp
@[simp] theorem stores_discardPair (e : EntryState) (r : Nat) (s : State) : stores (discardPair e r s) = stores s := by
  unfold discardPair pairDiscarded; split <;> simp

/-! ### The pause (R168) -/

@[simp] theorem tally_setTally (t : TallyUnit) (s : State) : (setTally t s).tally = t :=
  (tally_of_besides (besides_setTally t s) :)
@[simp] theorem table_setTable (t : TableUnit) (s : State) : (setTable t s).table = t :=
  (table_of_besides (besides_setTable t s) :)
@[simp] theorem table_setTally (t : TallyUnit) (s : State) : (setTally t s).table = s.table :=
  (table_of_besides (besides_setTally t s) :)
@[simp] theorem tally_setTable (t : TableUnit) (s : State) : (setTable t s).tally = s.tally :=
  (tally_of_besides (besides_setTable t s) :)

/-- The pause check moves the pause flag and nothing else of the Tally Unit (R168). -/
theorem tally_pauseCheck (s : State) : ∃ flag, (pauseCheck s).tally = { s.tally with pause := flag } := by
  unfold pauseCheck
  dsimp only
  split
  · split
    · exact ⟨_, rfl⟩
    · exact ⟨true, by simp⟩
  · split
    · split
      · exact ⟨false, by simp⟩
      · exact ⟨false, by rw [tally_of_stores (stores_pauseLifted _)]; simp⟩
    · exact ⟨_, rfl⟩

end Sys2Proof.Machine

/-! PROOFS. Writes into the guarded tables (R8, R144, R145). -/

namespace Sys2Proof.Machine

/-! ### The verdict -/

theorem guardedEntry_of_placeOf {a e : Nat} {u : TableId} {s : State}
    (h : placeOf s.path.map s.path.bases a = .guarded u e) : guardedEntry a s = some (u, e) := by
  simp only [guardedEntry, h]

theorem dropOf_guarded {a e : Nat} {u : TableId} {s : State} (h : placeOf s.path.map s.path.bases a = .guarded u e) :
    dropOf a s = if guardedForward u e s then none else some (.guarded u) := by simp only [dropOf, h]

theorem guardedForward_of_shut {u : TableId} {e : Nat} {s : State} (h : s.table.window ≠ .opened u) :
    guardedForward u e s = false := by simp [guardedForward, h]

@[simp] theorem besides_dropWrite (addr : Word) (c : DropClass) (s : State) :
    besides (dropWrite addr c s) = besides s := by
  rw [dropWrite_eq]
  unfold dropNotice
  split
  · exact besides_present ..
  · exact (besides_notify ..).trans (besides_present ..)

/-! ### A write that is forwarded (R144) -/

theorem table_guardedTouch (e : Nat) (commit : Bool) (s : State) : (guardedTouch e commit s).table =
    { s.table with touched :=
        if commit then s.table.touched.erase e
        else if e ∈ s.table.touched then s.table.touched else s.table.touched ++ [e] } := by
  unfold guardedTouch
  cases commit
  · by_cases he : e ∈ s.table.touched <;> simp [he]
  · simp

theorem tally_guardedTouch (e : Nat) (commit : Bool) (s : State) : (guardedTouch e commit s).tally =
    { s.tally with reservations := s.tally.reservations + if commit then 1 else 0 } := by
  unfold guardedTouch
  cases commit
  · by_cases he : e ∈ s.table.touched <;> simp [he]
  · simp

theorem coverage_of_commitValue {u : TableId} {e a : Nat} {bytes : List (Option Byte)} {s : State} {v : Word}
    (h : commitValue u e a bytes s = some v) :
    coverage a (s.path.bases.table u + u.entrySize * e + (u.entrySize - 4)) bytes = .whole v := by
  unfold commitValue at h
  split at h
  · next hc => rw [hc, Option.some.inj h]
  · cases h
  · cases h

/-- A guarded write that is forwarded: what stands at the port, the touched list and the reservations. -/
theorem forwardWrite_guarded {span : Span} {addr : Word} {bytes : List (Option Byte)} {u : TableId} {e : Nat} {s : State}
    (h : guardedEntry addr.toNat s = some (u, e)) :
    let commit := commitValue u e addr.toNat bytes s
    (∃ n, (forwardWrite span addr bytes s).path.host =
        some { op := .write span addr bytes, hands := (commit.map (.commit u e)).toList, behind := n }) ∧
      (forwardWrite span addr bytes s).table = (guardedTouch e commit.isSome s).table ∧
      (forwardWrite span addr bytes s).tally.reservations = (guardedTouch e commit.isSome s).tally.reservations := by
  intro commit
  unfold forwardWrite
  rw [h]
  dsimp only
  obtain ⟨flag, htally⟩ := tally_pauseCheck (holdHost (.write span addr bytes) addr.toNat
    ((commit.map (.commit u e)).toList) (guardedTouch e commit.isSome s))
  have hkept := kept_pauseCheck (holdHost (.write span addr bytes) addr.toNat
    ((commit.map (.commit u e)).toList) (guardedTouch e commit.isSome s))
  exact ⟨⟨_, (congrArg PathKept.host (pathKept_of_kept hkept) :)⟩, (table_of_kept hkept :),
    (congrArg TallyUnit.reservations htally :)⟩

theorem exec_hostWrite_forwarded {span : Span} {addr : Word} {bytes : List (Option Byte)} {s : State}
    (hidle : portIdle s) (h : (Instr.hostWrite span addr bytes).wellFormed = true) (hsup : supervised s = true)
    (hdrop : dropOf addr.toNat s = none) : exec (.hostWrite span addr bytes) s =
      .next { forwardWrite span addr bytes s with
              path := { (forwardWrite span addr bytes s).path with waiting := [] } } := by
  rw [exec_hostWrite_arrives hidle h]
  unfold writeArrives
  rw [if_pos hsup, hdrop]

/-! ### A write that the open window refuses (R145) -/

/-- The notice of a refusal, and whether it has been given in this opening. -/
def refusal (u : TableId) (e : Nat) (s : State) : Notice :=
  { kind := .editRefused, reason := if touchedRoom e s then 2 else 1, subject := u.code, first := e,
    second := s.table.touched.length }
def refusalGiven (e : Nat) (s : State) : Bool := if touchedRoom e s then s.table.refusedTally else s.table.refusedTouched

/-- The Table Unit's record with the refusal noted. -/
def refusalNoted (e : Nat) (s : State) : TableUnit :=
  if touchedRoom e s then { s.table with refusedTally := true } else { s.table with refusedTouched := true }

theorem editRefused_opened {u : TableId} {e : Nat} {s : State} (h : s.table.window = .opened u) : editRefused u e s =
    if refusalGiven e s then s else notify (refusal u e s) { s with table := refusalNoted e s } := by
  unfold editRefused refusalGiven refusal refusalNoted
  rw [if_pos h]
  cases touchedRoom e s <;> rfl

theorem refusalNoted_of_given {e : Nat} {s : State} (h : refusalGiven e s = true) : refusalNoted e s = s.table := by
  unfold refusalGiven at h
  unfold refusalNoted
  cases hr : touchedRoom e s
  · have hgiven : s.table.refusedTouched = true := by simpa [hr] using h
    show ({ s.table with refusedTouched := true } : TableUnit) = s.table
    rw [← hgiven]
  · have hgiven : s.table.refusedTally = true := by simpa [hr] using h
    show ({ s.table with refusedTally := true } : TableUnit) = s.table
    rw [← hgiven]

theorem table_editRefused {u : TableId} {e : Nat} {s : State} (h : s.table.window = .opened u) :
    (editRefused u e s).table = refusalNoted e s := by
  rw [editRefused_opened h]
  split
  · next hg => exact (refusalNoted_of_given hg).symm
  · exact table_notify ..

theorem tally_editRefused {u : TableId} {e : Nat} {s : State} (h : s.table.window = .opened u) :
    (editRefused u e s).tally = s.tally := by
  rw [editRefused_opened h]
  split
  · rfl
  · exact tally_notify ..

theorem refusalNotice_of_placeOf {a e : Nat} {u : TableId} {s : State}
    (h : placeOf s.path.map s.path.bases a = .guarded u e) : refusalNotice a s = editRefused u e s := by
  unfold refusalNotice
  rw [guardedEntry_of_placeOf h]

/-- A WRITE_DROPPED that is outstanding stays so behind a notice of another kind (R13). -/
theorem dropOutstanding_writeNotice {n : Notice} {asked : Stamp} {s : State} (hk : n.kind ≠ .writeDropped)
    (h : dropOutstanding s = true) : dropOutstanding (writeNotice n asked s) = true := by
  rw [dropOutstanding_iff] at h ⊢
  obtain ⟨p, hp, hle⟩ := h
  refine ⟨p, by rw [dropPos_writeNotice, if_neg hk, hp], ?_⟩
  rw [exch_writeNotice]
  split
  · next hroom =>
    have hsmall : dist s.exch.taken s.exch.producer < 256 := hroom
    show dist p (s.exch.producer + 1) ≤ dist s.exch.taken (s.exch.producer + 1)
    simp only [dist] at hle hsmall ⊢
    bv_omega
  · exact hle

theorem dropWrite_exch_of_outstanding {addr : Word} {c : DropClass} {s : State} (h : dropOutstanding s = true) :
    (dropWrite addr c s).exch = s.exch := by
  rw [dropWrite_eq, dropNotice_dropCounted, if_pos h, exch_dropCounted]

/-- A write that the open window refuses, as it is dropped. -/
theorem exec_hostWrite_refused {span : Span} {addr : Word} {bytes : List (Option Byte)} {u : TableId} {e : Nat} {s : State}
    (hidle : portIdle s) (h : (Instr.hostWrite span addr bytes).wellFormed = true) (hsup : supervised s = true)
    (hplace : placeOf s.path.map s.path.bases addr.toNat = .guarded u e) (hno : guardedForward u e s = false) :
    exec (.hostWrite span addr bytes) s = .next { dropWrite addr (.guarded u) (editRefused u e s) with
      path := { (dropWrite addr (.guarded u) (editRefused u e s)).path with waiting := [] } } := by
  rw [exec_hostWrite_dropped hidle h hsup (by rw [dropOf_guarded hplace, hno]; rfl), refusalNotice_of_placeOf hplace]

/-- Dropping is a run of changes that takes no event. -/
theorem run_dropWrite {addr : Word} {c : DropClass} {s : State} :
    ∃ u, Run {} u (dropWrite addr c s) ∧ u.path.queue = s.path.queue ∧ u.path.held = s.path.held ∧
      u.path.arrived = s.path.arrived ∧ u.exch = s.exch :=
  ⟨{ s with path := { s.path with dropped := s.path.dropped + 1, dropAddr := addr, dropClass := some c } },
    run_dropNotice (Run.refl.present), rfl, rfl, rfl, rfl⟩

theorem waits_reach_of_waits {u : UnitId} {s : State} (h : waits u s = true) (e : Event) :
    waits u (reach e s) = true := by
  obtain ⟨a, ha, hl⟩ := List.any_eq_true.1 h
  simp only [Bool.and_eq_true] at hl
  refine List.any_eq_true.2 ?_
  unfold reach
  dsimp only
  split
  · exact ⟨a.passed e.units, List.mem_append_left _ (List.mem_map_of_mem ha), by simp [Arrival.passed, hl.1, hl.2]⟩
  · exact ⟨a, List.mem_append_left _ ha, by simp [hl.1, hl.2]⟩

/-- What arrived before a dropped write stands before what it adds. -/
theorem events_dropWrite (addr : Word) (c : DropClass) (s : State) :
    ∃ more, (dropWrite addr c s).path.arrived.map Arrival.event = s.path.arrived.map Arrival.event ++ more := by
  rw [dropWrite_eq, dropNotice_dropCounted]
  split
  · exact ⟨[], by simp⟩
  · unfold notify askNotice
    split
    · split
      · exact ⟨_, (events_reach ..).trans (by rw [arrived_dropCounted])⟩
      · exact ⟨[], by simp⟩
    · exact ⟨[], by simp⟩

theorem waits_dropWrite {u : UnitId} {addr : Word} {c : DropClass} {s : State} (h : waits u s = true) :
    waits u (dropWrite addr c s) = true := by
  have hcounted : waits u (dropCounted addr c s) = true := by simpa [waits] using h
  rw [dropWrite_eq]
  unfold dropNotice
  split
  · exact hcounted
  · unfold notify askNotice
    split
    · split
      · exact waits_reach_of_waits hcounted _
      · simpa [waits] using hcounted
    · exact hcounted

/-- Settles O8. -/
theorem guardedWriteByItsWindow : Obligations.GuardedWriteByItsWindow := by
  refine ⟨fun span addr bytes u e s hidle h hsup hplace hshut => ?_,
    fun span addr bytes u e s hidle h hsup hplace hforward => ?_,
    fun span addr bytes u e s hidle h hsup hplace hopen => ?_⟩
  · have hno := guardedForward_of_shut (e := e) hshut
    have hdrop : dropOf addr.toNat s = some (.guarded u) := by rw [dropOf_guarded hplace, hno]; rfl
    have hexec := exec_hostWrite_refused hidle h hsup hplace hno
    obtain ⟨hhost, -, hclass⟩ := exec_hostWrite_registers hidle hexec
    refine ⟨_, hexec, hhost.2 (by simp [verdict, hsup, hdrop]), hclass.trans (by simp [verdict, hsup, hdrop]),
      (ends_exec _ (by simp) s _ hexec).within.mem rfl, ?_⟩
    have hself : editRefused u e s = s := if_neg hshut
    rw [hself]
    exact table_of_besides (besides_dropWrite ..)
  · have hdrop : dropOf addr.toNat s = none := by rw [dropOf_guarded hplace, hforward]; rfl
    have hexec := exec_hostWrite_forwarded hidle h hsup hdrop
    obtain ⟨-, hdropped, -⟩ := exec_hostWrite_registers hidle hexec
    obtain ⟨hhost, htable, htally⟩ := forwardWrite_guarded (span := span) (bytes := bytes) (guardedEntry_of_placeOf hplace)
    refine ⟨_, hexec, hdropped.trans (by simp [verdict, hsup, hdrop]),
      (ends_exec _ (by simp) s _ hexec).within.mem rfl, fun hcommit => ?_, fun v hcommit => ?_⟩
    · rw [hcommit] at hhost htable htally
      rw [table_guardedTouch] at htable
      rw [tally_guardedTouch] at htally
      exact ⟨hhost, congrArg TableUnit.touched htable, htally⟩
    · rw [hcommit] at hhost htable htally
      rw [table_guardedTouch] at htable
      rw [tally_guardedTouch] at htally
      exact ⟨coverage_of_commitValue hcommit, hhost, congrArg TableUnit.touched htable, htally⟩
  · intro room hroom given n
    have hroom' : touchedRoom e s = room := rfl
    have hno : guardedForward u e s = false := by
      rcases hroom with hr | hfull
      · simp [guardedForward, hroom', hr]
      · simp [guardedForward, tallyFull, Config.pendingPlaces, hfull]
    have hdrop : dropOf addr.toNat s = some (.guarded u) := by rw [dropOf_guarded hplace, hno]; rfl
    have hexec := exec_hostWrite_refused hidle h hsup hplace hno
    obtain ⟨hhost, hdropped, hclass⟩ := exec_hostWrite_registers hidle hexec
    have hn : refusal u e s = n := rfl
    have hgiven : refusalGiven e s = given := rfl
    have htable : (dropWrite addr (.guarded u) (editRefused u e s)).table = refusalNoted e s :=
      (table_of_besides (besides_dropWrite ..)).trans (table_editRefused hopen)
    obtain ⟨w, hrun, hq, hh, ha, hx⟩ := run_dropWrite (addr := addr) (c := .guarded u) (s := editRefused u e s)
    refine ⟨_, hexec, hhost.2 (by simp [verdict, hsup, hdrop]), (ends_exec _ (by simp) s _ hexec).within.mem rfl,
      hdropped.trans (by simp [verdict, hsup, hdrop]), hclass.trans (by simp [verdict, hsup, hdrop]),
      (tally_of_besides (besides_dropWrite ..)).trans (tally_editRefused hopen), fun hr => ?_, fun hr => ?_,
      fun hg hacc hfree => ?_, fun hg hacc hbusy => ?_, fun hg hout => ?_⟩
    · exact htable.trans (by rw [refusalNoted, hroom', hr]; rfl)
    · exact htable.trans (by rw [refusalNoted, hroom', hr]; rfl)
    · have hedit : editRefused u e s = writeNotice n s.clock.now { s with table := refusalNoted e s } := by
        rw [editRefused_opened hopen, hgiven, hg, hn]
        exact notify_of_free (s := { s with table := refusalNoted e s }) hacc hfree n
      have hnotice : noticeGiven n s (editRefused u e s) :=
        hedit ▸ noticeGiven_writeNotice n { s with table := refusalNoted e s }
      refine ⟨fun hplaces => ?_, fun hfull => ?_, fun hout => ?_⟩
      · unfold noticeGiven at hnotice
        rw [if_pos (show _ < Config.noticeEntries from hplaces)] at hnotice
        exact hrun.asked rfl ((issued_congr hq hh).trans hnotice.1)
      · unfold noticeGiven at hnotice
        rw [if_neg (show ¬ _ < Config.noticeEntries from Nat.not_lt.2 hfull)] at hnotice
        exact hrun.overrun rfl (by rw [hx]; exact hnotice.1)
      · have hstill : dropOutstanding (editRefused u e s) = true := by
          rw [hedit]
          exact dropOutstanding_writeNotice (s := { s with table := refusalNoted e s }) (by simp [n]) hout
        have hexch := dropWrite_exch_of_outstanding (addr := addr) (c := .guarded u) hstill
        unfold noticeGiven at hnotice ⊢
        split
        · next hplaces =>
          rw [if_pos hplaces] at hnotice
          exact ⟨hrun.asked rfl ((issued_congr hq hh).trans hnotice.1), by rw [← hnotice.2, ← hexch]⟩
        · next hfull =>
          rw [if_neg hfull] at hnotice
          exact ⟨by rw [← hnotice.1, ← hexch], by rw [← hnotice.2, ← hexch]⟩
    · have hedit : editRefused u e s = reach (.ask (.notice n s.clock.now)) { s with table := refusalNoted e s } := by
        rw [editRefused_opened hopen, hgiven, hg, hn]
        exact notify_of_busy (s := { s with table := refusalNoted e s }) hacc hbusy n
      obtain ⟨more, hmore⟩ := events_dropWrite addr (.guarded u) (editRefused u e s)
      refine ⟨waits_dropWrite ?_, more, ?_⟩
      · rw [hedit]
        exact waits_reach_of_busy (by simp [Event.units]) hbusy
      · refine hmore.trans ?_
        rw [hedit, events_reach, List.append_assoc]
        rfl
    · have hself : editRefused u e s = s := by rw [editRefused_opened hopen, hgiven, hg]; rfl
      rw [hself]
      exact dropWrite_exch_of_outstanding hout

end Sys2Proof.Machine

/-! PROOFS. The memory port (chapter 1): what it performs, whom the arbiter grants (R1, R2, R14, R18, R19). -/

namespace Sys2Proof.Machine

/-! ### Bytes written and read -/

theorem Memory.read_writeBytes {m : Memory} (h : Memory.wf m = true) (a : Nat) (bs : List Byte) (c : Nat) :
    Memory.read (Memory.writeBytes m a bs) c =
      if a ≤ c then (bs[c - a]?).getD (Memory.read m c) else Memory.read m c := by
  induction bs generalizing m a with
  | nil => simp [Memory.writeBytes]
  | cons b bs ih =>
    rw [Memory.writeBytes, ih (Memory.wf_write a b h)]
    rcases Nat.lt_trichotomy c a with hlt | rfl | hgt
    · rw [if_neg (by omega), if_neg (by omega), Memory.read_write_other b (by omega)]
    · simp [Memory.read_write_same c b h]
    · obtain ⟨k, rfl⟩ : ∃ k, c = a + 1 + k := ⟨c - (a + 1), by omega⟩
      rw [if_pos (by omega), if_pos (by omega), Memory.read_write_other b (by omega),
        show a + 1 + k - (a + 1) = k by omega, show a + 1 + k - a = k + 1 by omega, List.getElem?_cons_succ]

theorem Memory.read_writeMasked {m : Memory} (h : Memory.wf m = true) (a : Nat) (bs : List (Option Byte)) (c : Nat) :
    Memory.read (Memory.writeMasked m a bs) c =
      if a ≤ c then (bs[c - a]?).join.getD (Memory.read m c) else Memory.read m c := by
  induction bs generalizing m a with
  | nil => simp [Memory.writeMasked]
  | cons b bs ih =>
    have hstep : Memory.writeMasked m a (b :: bs) = Memory.writeMasked (b.elim m (Memory.write m a)) (a + 1) bs := by
      cases b <;> rfl
    have hwf : Memory.wf (b.elim m (Memory.write m a)) = true := by
      cases b with
      | none => exact h
      | some x => exact Memory.wf_write a x h
    have hother : c ≠ a → Memory.read (b.elim m (Memory.write m a)) c = Memory.read m c := fun hne => by
      cases b with
      | none => rfl
      | some x => exact Memory.read_write_other x hne
    rw [hstep, ih hwf]
    rcases Nat.lt_trichotomy c a with hlt | rfl | hgt
    · rw [if_neg (by omega), if_neg (by omega), hother (by omega)]
    · cases b with
      | none => simp
      | some x => simp [Memory.read_write_same c x h]
    · obtain ⟨k, rfl⟩ : ∃ k, c = a + 1 + k := ⟨c - (a + 1), by omega⟩
      rw [if_pos (by omega), if_pos (by omega), hother (by omega),
        show a + 1 + k - (a + 1) = k by omega, show a + 1 + k - a = k + 1 by omega, List.getElem?_cons_succ]

/-! ### MEMORY_PORT_FREE: what follows the transaction performed -/

/-- What the processor port's acceptance leaves alone in the Path Unit. -/
def portSide (p : PathUnit) : List Handed × List (ReadTag × List Byte) × List Byte × Option PortTxn × Nat :=
  (p.handed, p.returned, p.readData, p.port, p.hostRun)

/-- It is read off `pathKept`. -/
def PathKept.portSide (p : PathKept) : List Handed × List (ReadTag × List Byte) × List Byte × Option PortTxn × Nat :=
  (p.handed, p.returned, p.readData, p.port, p.hostRun)
theorem portSide_eq (p : PathUnit) : portSide p = (pathKept p).portSide := rfl

theorem portSide_arrive (op : HostOp) (s : State) : portSide (arrive op s).path = portSide s.path := by
  cases op with
  | read span addr => rfl
  | write span addr bytes =>
    show portSide (writeArrives span addr bytes s).path = _
    rw [portSide_eq]
    cases hv : verdict addr s with
    | some c => rw [pathKept_writeArrives_of_dropped hv]; rfl
    | none =>
      obtain ⟨x, hx⟩ := pathKept_writeArrives_of_forwarded hv span bytes
      rw [hx]; rfl

theorem portSide_acceptOps (ops : List HostOp) (s : State) : portSide (acceptOps ops s).path = portSide s.path := by
  induction ops generalizing s with
  | nil => rfl
  | cons op ops ih =>
    unfold acceptOps
    split
    · rw [ih, portSide_arrive]
    · rfl

/-- The values handed, the reads returned and what the host has read. -/
def arrivedSide (p : PathUnit) : List Handed × List (ReadTag × List Byte) × List Byte := (p.handed, p.returned, p.readData)

theorem arrivedSide_drainQueue (s : State) : arrivedSide (drainQueue s).path = arrivedSide s.path :=
  (congrArg (fun p : PathKept => (p.handed, p.returned, p.readData)) (pathKept_of_kept (kept_drainQueue s)) :)

theorem arrivedSide_grant (s : State) : arrivedSide (grant s).path = arrivedSide s.path := by
  unfold grant
  split
  · split <;> rfl
  · split
    · rfl
    · exact arrivedSide_drainQueue _

/-- After the transaction is performed, the port's acceptance, the grant and the turns leave memory, the values handed, the
reads returned and what the host has read. -/
theorem memoryPortFree_after (s : State) : (serveWaiting (portFree s)).mem = (finishPort s).mem ∧
    arrivedSide (serveWaiting (portFree s)).path = arrivedSide (finishPort s).path := by
  have hserve := (Run.refl (L := { takes := true }) (s := portFree s)).serveWaiting rfl |>.within
  have haccept : arrivedSide (acceptOps (finishPort s).path.waiting (finishPort s)).path = arrivedSide (finishPort s).path :=
    (congrArg (fun x => (x.1, x.2.1, x.2.2.1)) (portSide_acceptOps (finishPort s).path.waiting (finishPort s)) :)
  have hrun : Run { host := true } (finishPort s) (portFree s) := (Run.refl.acceptOps rfl).grant rfl
  refine ⟨(hserve.mem rfl).trans (hrun.within.mem rfl), ?_⟩
  have harr := hserve.arrivals rfl rfl
  have hread := hserve.host rfl
  simp only [Prod.mk.injEq] at harr hread
  obtain ⟨-, -, -, -, -, -, hdata, -⟩ := hread
  refine Eq.trans ?_ ((arrivedSide_grant _).trans haccept)
  show (_, _, _) = (_, _, _)
  rw [harr.1, harr.2, hdata]
  rfl

theorem mem_handAll (hs : List Handed) (s : State) : (handAll hs s).mem = s.mem := by
  induction hs generalizing s with
  | nil => rfl
  | cons x hs ih => exact ih (reach (.value x) s)

/-- Settles O9, by the transaction at the port. -/
theorem portPerformsItsTransaction : Obligations.PortPerformsItsTransaction := by
  refine ⟨fun span addr bytes hands n s hport hhost hwf => ⟨_, rfl, ?_⟩,
    fun span addr hands n s hport hhost => ⟨_, rfl, ?_⟩,
    fun addr bytes s hwf hport => ⟨_, rfl, ?_⟩, fun tag addr lines s hport => ⟨_, rfl, ?_⟩⟩
  all_goals
    obtain ⟨hmem, harr⟩ := memoryPortFree_after s
    simp only [arrivedSide, Prod.mk.injEq] at harr
    obtain ⟨hhanded, hreturned, hdata⟩ := harr
  · have hfin : finishPort s = handAll (hands.filter (Handed.heeded s.exch.part))
        { s with mem := Memory.writeMasked s.mem addr.toNat bytes
                 path := { s.path with host := none, port := none } } := by
      simp only [finishPort, hport, hhost, performHost]
    refine ⟨hhanded.trans (by rw [hfin, handed_handAll]; rfl), fun a => ?_⟩
    rw [hmem, hfin, mem_handAll, Memory.read_writeMasked hwf]
    cases bytes[a - addr.toNat]? with
    | none => rfl
    | some b => cases b <;> rfl
  · have hfin : finishPort s = { s with path := { s.path with
        host := none, port := none, readData := Memory.readBytes s.mem addr.toNat span.size } } := by
      simp only [finishPort, hport, hhost, performHost]
    exact ⟨hdata.trans (by rw [hfin]), hmem.trans (by rw [hfin]), hhanded.trans (by rw [hfin]; rfl)⟩
  · have hfin : finishPort s = { s with mem := Memory.writeBytes s.mem addr bytes
                                        path := { s.path with port := none } } := by
      rcases hport with hport | ⟨r, hport⟩ <;> simp only [finishPort, hport, performRequest]
    refine ⟨hreturned.trans (by rw [hfin]; rfl), fun a => ?_⟩
    rw [hmem, hfin, Memory.read_writeBytes hwf]
  · have hfin : finishPort s = reach (.read tag (Memory.readBytes s.mem addr (32 * lines)))
        { s with path := { s.path with port := none } } := by
      simp only [finishPort, hport, performRequest]
    exact ⟨hmem.trans (by rw [hfin]; rfl), hreturned.trans (by rw [hfin, returned_reach]; rfl)⟩

/-! ### The arbiter (R18) -/

theorem hostWaits_iff {s : State} : hostWaits s = true ↔ ∃ x, s.path.host = some x ∧ x.behind = 0 := by
  unfold hostWaits
  split <;> simp_all

/-- What the transaction performed leaves of the Path Unit: its place at the memory port is free, a host transaction is
gone from the processor port, and the queue, the run count and the waiting transactions stand. -/
theorem finishPort_path (s : State) :
    (finishPort s).path.port = none ∧ (finishPort s).path.queue = s.path.queue ∧
      (finishPort s).path.waiting = s.path.waiting ∧ (finishPort s).path.hostRun = s.path.hostRun ∧
      (finishPort s).path.host = if s.path.port = some .host then none else s.path.host := by
  have hand : ∀ (hs : List Handed) (u : State), (handAll hs u).path.port = u.path.port ∧
      (handAll hs u).path.queue = u.path.queue ∧ (handAll hs u).path.waiting = u.path.waiting ∧
      (handAll hs u).path.hostRun = u.path.hostRun ∧ (handAll hs u).path.host = u.path.host := by
    intro hs
    induction hs with
    | nil => exact fun _ => ⟨rfl, rfl, rfl, rfl, rfl⟩
    | cons x hs ih => exact fun u => ih (reach (.value x) u)
  unfold finishPort
  split
  · next hport => simp [hport]
  · next r hport =>
    cases r <;> simp [performRequest, reach, hport]
  · next hport =>
    split
    · next hhost => simp [hport, hhost]
    · next t hhost =>
      unfold performHost
      split
      · simp [hport]
      · dsimp only
        obtain ⟨h1, h2, h3, h4, h5⟩ := hand (t.hands.filter (Handed.heeded s.exch.part)) { s with
          mem := Memory.writeMasked s.mem _ _, path := { s.path with host := none, port := none } }
        exact ⟨h1, h2, h3, h4, by rw [h5, if_pos hport]⟩

theorem grantHead_path (r : Request) (rest : List Request) (s : State) :
    (grantHead r rest s).path.port = some (.internal r) ∧ (grantHead r rest s).path.hostRun = 0 := by
  have h := pathKept_of_kept (kept_drainQueue { s with path := { s.path with
    port := some (.internal r), queue := rest, hostRun := 0, host := s.path.host.map stepHost } })
  exact ⟨(congrArg PathKept.port h :), (congrArg PathKept.hostRun h :)⟩

/-- The arbiter's table (R18), by who waits, the queue's head and the run count. -/
theorem grant_path (s : State) :
    (hostWaits s = true → s.path.queue = [] → (grant s).path.port = some .host ∧ (grant s).path.hostRun = 0) ∧
    (∀ r rest, hostWaits s = false → s.path.queue = r :: rest →
      (grant s).path.port = some (.internal r) ∧ (grant s).path.hostRun = 0) ∧
    (∀ r rest, hostWaits s = true → s.path.queue = r :: rest → s.path.hostRun < 4 →
      (grant s).path.port = some .host ∧ (grant s).path.hostRun = s.path.hostRun + 1) ∧
    (∀ r rest, hostWaits s = true → s.path.queue = r :: rest → s.path.hostRun = 4 →
      (grant s).path.port = some (.internal r) ∧ (grant s).path.hostRun = 0) ∧
    (hostWaits s = false → s.path.queue = [] →
      (grant s).path.port = s.path.port ∧ (grant s).path.hostRun = s.path.hostRun) := by
  refine ⟨fun hw hq => ?_, fun r rest hw hq => ?_, fun r rest hw hq hrun => ?_, fun r rest hw hq hrun => ?_,
    fun hw hq => ?_⟩ <;> unfold grant <;> rw [hq] <;> dsimp only
  · rw [if_pos hw]; exact ⟨rfl, rfl⟩
  · rw [if_neg (by simp [hw])]; exact grantHead_path r rest s
  · rw [if_pos (by simp [hw, hrun])]; exact ⟨rfl, rfl⟩
  · rw [if_neg (by simp [hrun])]; exact grantHead_path r rest s
  · rw [if_neg (by simp [hw])]; exact ⟨rfl, rfl⟩

/-- Settles O10. -/
theorem arbiterGrantsByTable : Obligations.ArbiterGrantsByTable := by
  refine ⟨fun s => hostWaits_iff, fun s hwaiting => ?_⟩
  intro waits
  obtain ⟨hport, hqueue, hwait, hrun, hhost⟩ := finishPort_path s
  have hfree : portFree s = grant { finishPort s with path := { (finishPort s).path with waiting := [] } } := by
    show grant (acceptOps (finishPort s).path.waiting (finishPort s)) = _
    rw [hwait, hwaiting]
    rfl
  have hwaits : hostWaits { finishPort s with path := { (finishPort s).path with waiting := [] } } = true ↔ waits := by
    rw [hostWaits_iff]
    show (∃ x, (finishPort s).path.host = some x ∧ x.behind = 0) ↔ s.path.port ≠ some .host ∧ hostWaits s = true
    rw [hhost, hostWaits_iff]
    split <;> simp_all
  have hserve := ((Run.refl (L := { takes := true }) (s := portFree s)).serveWaiting rfl).within.host rfl
  simp only [Prod.mk.injEq] at hserve
  obtain ⟨-, -, -, -, -, hp, -, hr⟩ := hserve
  obtain ⟨g1, g2, g3, g4, g5⟩ := grant_path { finishPort s with path := { (finishPort s).path with waiting := [] } }
  rw [← hfree] at g1 g2 g3 g4 g5
  refine ⟨_, rfl, ?_⟩
  rw [hp, hr]
  refine ⟨fun hw hq => g1 (hwaits.2 hw) (hqueue.trans hq),
    fun r rest hw hq => g2 r rest (Bool.eq_false_iff.2 fun h => hw (hwaits.1 h)) (hqueue.trans hq),
    fun r rest hw hq h4 => ?_, fun r rest hw hq h4 => g4 r rest (hwaits.2 hw) (hqueue.trans hq) (hrun.trans h4),
    fun hw hq => ?_⟩
  · obtain ⟨h1, h2⟩ := g3 r rest (hwaits.2 hw) (hqueue.trans hq) (hrun.trans_lt h4)
    exact ⟨h1, h2.trans (congrArg (· + 1) hrun)⟩
  · obtain ⟨h1, h2⟩ := g5 (Bool.eq_false_iff.2 fun h => hw (hwaits.1 h)) (hqueue.trans hq)
    exact ⟨h1.trans hport, h2.trans hrun⟩

end Sys2Proof.Machine

/-! PROOFS. The internal request queue (chapter 1): what holds the host, what merges, what is held and gives way
(R14, R15, R16). -/

namespace Sys2Proof.Machine

/-! ### How many requests stand ahead of a line (R16) -/

theorem behindOf_eq_zero_iff {line : Nat} {q : List Request} :
    behindOf line q = 0 ↔ ∀ r ∈ q, r.writesLine line = false := by
  induction q with
  | nil => simp [behindOf]
  | cons x q ih =>
    unfold behindOf
    cases hq : behindOf line q with
    | zero =>
      have hall := ih.1 hq
      cases hx : x.writesLine line <;> simp_all
    | succ n =>
      have hnot : ¬ ∀ r ∈ q, r.writesLine line = false := fun h => by simp [ih.2 h] at hq
      simp only [List.forall_mem_cons]
      exact ⟨fun h => absurd h (by omega), fun h => absurd h.2 hnot⟩

theorem behindOf_eq_succ {line n : Nat} {q : List Request} (h : behindOf line q = n + 1) :
    (∃ r, q[n]? = some r ∧ r.writesLine line = true) ∧ ∀ m r, n < m → q[m]? = some r → r.writesLine line = false := by
  induction q generalizing n with
  | nil => cases h
  | cons x q ih =>
    unfold behindOf at h
    split at h
    · next hq =>
      split at h
      · next hx =>
        obtain rfl : n = 0 := by omega
        refine ⟨⟨x, rfl, hx⟩, fun m r hm hr => ?_⟩
        obtain ⟨k, rfl⟩ := Nat.exists_eq_add_of_lt hm
        exact behindOf_eq_zero_iff.1 hq r (List.mem_of_getElem? (by simpa using hr))
      · cases h
    · next k hq =>
      obtain rfl : n = k + 1 := by omega
      obtain ⟨hlast, hafter⟩ := ih hq
      refine ⟨by simpa using hlast, fun m r hm hr => ?_⟩
      obtain ⟨j, rfl⟩ : ∃ j, m = j + 1 := ⟨m - 1, by omega⟩
      exact hafter j r (by omega) (by simpa using hr)

/-! ### Merging (R15) -/

section Merge

variable {r : Rec} {new : Request}

theorem mergeRefresh_none {l : List Request} (h : ∀ q ∈ l, q.refreshes r = false) : mergeRefresh r new l = none := by
  induction l with
  | nil => rfl
  | cons q l ih =>
    obtain ⟨hq, hl⟩ := List.forall_mem_cons.1 h
    simp [mergeRefresh, ih hl, hq]

theorem mergeRefresh_append {l l' : List Request} (h : mergeRefresh r new l = some l') (pre : List Request) :
    mergeRefresh r new (pre ++ l) = some (pre ++ l') := by
  induction pre with
  | nil => exact h
  | cons q pre ih => simp [mergeRefresh, ih]

theorem mergeRefresh_append_none {l : List Request} (h : mergeRefresh r new l = none)
    (hplace : l.any Request.isPlacement = true) (pre : List Request) : mergeRefresh r new (pre ++ l) = none := by
  induction pre with
  | nil => exact h
  | cons q pre ih => simp [mergeRefresh, ih, List.any_append, hplace]

/-- A refresh takes the place of the last queued one when no placement stands behind that one. -/
theorem mergeRefresh_last {pre post : List Request} {a : Nat} {bytes : List Byte}
    (hlast : ∀ q ∈ post, q.refreshes r = false) (hplace : ∀ q ∈ post, q.isPlacement = false) :
    mergeRefresh r new (pre ++ .refresh r a bytes :: post) = some (pre ++ new :: post) := by
  refine mergeRefresh_append ?_ pre
  have hany : post.any Request.isPlacement = false := List.any_eq_false.2 fun q hq => by simp [hplace q hq]
  simp [mergeRefresh, mergeRefresh_none hlast, Request.refreshes, hany]

theorem mergeRefresh_behind_placement {pre post : List Request} {a : Nat} {bytes : List Byte}
    (hlast : ∀ q ∈ post, q.refreshes r = false) (hplace : ∃ q ∈ post, q.isPlacement = true) :
    mergeRefresh r new (pre ++ .refresh r a bytes :: post) = none := by
  have hany : post.any Request.isPlacement = true := List.any_eq_true.2 hplace
  refine mergeRefresh_append_none ?_ (by simp [hany]) pre
  simp [mergeRefresh, mergeRefresh_none hlast, hany]

end Merge

theorem placementHeld_eq_false {s : State} (h : ∀ x ∈ s.path.held, x.issue.isPlacement = false) :
    placementHeld s = false := List.any_eq_false.2 fun x hx => by simp [h x hx]

theorem presented_of_merge {i : Issue} {s : State} {q : List Request} (hm : mergeInPlace i s = some q)
    (hh : ∀ x ∈ s.path.held, x.issue.isPlacement = false) : presented i s = some q := by
  simp [presented, joinQueue, hm, placementHeld_eq_false hh]

theorem presented_of_append {i : Issue} {s : State} (hm : mergeInPlace i s = none) (hh : s.path.held = [])
    (hroom : s.path.queue.length < Config.queuePlaces) : presented i s = some (s.path.queue ++ [asRequest i s]) := by
  simp [presented, joinQueue, hm, hh, appendIssue, hroom]

theorem presented_of_placementHeld {i : Issue} {s : State} (hh : ∃ x ∈ s.path.held, x.issue.isPlacement = true) :
    presented i s = none := by
  have hheld : placementHeld s = true := List.any_eq_true.2 hh
  have hne : s.path.held.isEmpty = false := by
    obtain ⟨x, hx, -⟩ := hh
    cases hs : s.path.held <;> simp_all
  simp [presented, hne, hheld]

/-! ### No placement behind a held refresh (R15; log 53) -/

theorem noneBehind_congr {u : UnitId} {r : Rec} {s t : State} (h : t.path.held = s.path.held)
    (hs : noneBehind u r s) : noneBehind u r t := by
  unfold noneBehind; rwa [h]

theorem noneBehind_makeWay (u : UnitId) (r : Rec) (s : State) : noneBehind u r (makeWay u r s) :=
  giveWay_behind u r s.path.held

/-- A request that is no placement of the unit's, joining what is held. -/
theorem noneBehind_present {u v : UnitId} {r : Rec} {i : Issue} {s : State} (h : Held.placedBy u ⟨v, i⟩ = false)
    (hs : noneBehind u r s) : noneBehind u r (present v i s) := by
  unfold present
  split
  · exact hs
  · refine List.pairwise_append.2 ⟨hs, List.pairwise_singleton _ _, fun a _ b hb _ => ?_⟩
    rw [List.mem_singleton.1 hb, h]

/-- Another record's refreshes making way leave the others where they stand. -/
theorem noneBehind_makeWay_of_ne {u v : UnitId} {r r' : Rec} {s : State} (hr : r' ≠ r) (hs : noneBehind u r s) :
    noneBehind u r (makeWay v r' s) := by
  have others : ∀ l : List Held, l.Pairwise (fun a b => a.issue = .refresh r → Held.placedBy u b = false) ↔
      (l.filter fun h => h.issue != .refresh r').Pairwise (fun a b => a.issue = .refresh r → Held.placedBy u b = false) := by
    intro l
    rw [List.pairwise_filter]
    refine ⟨fun h => h.imp fun hab _ _ => hab, fun h => h.imp fun {a b} hab ha => ?_⟩
    by_cases hb : b.issue = .refresh r'
    · simp [Held.placedBy, hb, Issue.isPlacement]
    · exact hab (by simp [ha, Ne.symm hr]) (by simp [hb]) ha
  have same : (giveWay v r' s.path.held).filter (fun h => h.issue != .refresh r') =
      s.path.held.filter (fun h => h.issue != .refresh r') := by
    rw [← List.filterMap_eq_filter]
    exact filterMap_giveWay (fun h hh => by simp [Option.guard, hh]) s.path.held
  exact (others (giveWay v r' s.path.held)).2 (by rw [same]; exact (others _).1 hs)

section Tally

variable {r : Rec} {s : State} (hr : r ≠ .line 0)
include hr

theorem noneBehind_writeNotice_tally (n : Notice) (asked : Stamp) (hs : noneBehind .tally r s) :
    noneBehind .tally r (writeNotice n asked s) := by
  unfold writeNotice
  split
  · refine noneBehind_present rfl (noneBehind_congr (queue_keepDropPos_held ..) ?_)
    exact noneBehind_makeWay_of_ne (Ne.symm hr) (noneBehind_present rfl hs)
  · have hdrop : noneBehind .tally r (keepDropPos n none { s with exch := { s.exch with overrun := true } }) :=
      noneBehind_congr (queue_keepDropPos_held ..) hs
    dsimp only
    split
    · exact hdrop
    · exact noneBehind_present rfl hdrop

theorem noneBehind_notify_tally (n : Notice) (hs : noneBehind .tally r s) : noneBehind .tally r (notify n s) := by
  unfold notify askNotice
  split
  · split
    · exact hs
    · exact noneBehind_writeNotice_tally hr n _ hs
  · exact hs

omit hr in
theorem noneBehind_post_tally (rec : Rec) (hs : noneBehind .tally r s) : noneBehind .tally r (post rec s) := by
  unfold post
  split
  · exact hs
  · exact noneBehind_present rfl hs

omit hr in
theorem noneBehind_setTally (t : TallyUnit) (hs : noneBehind .tally r s) : noneBehind .tally r (setTally t s) := by
  unfold setTally postChanged
  split
  · exact hs
  · exact noneBehind_post_tally (s := { s with tally := t }) _ hs

theorem noneBehind_chargeAccount (a : AccountId) (total : Nat) (hs : noneBehind .tally r s) :
    noneBehind .tally r (chargeAccount a total s) := by
  unfold chargeAccount
  refine noneBehind_post_tally _ ?_
  unfold creditTest
  split
  · exact hs
  · refine noneBehind_post_tally _ ?_
    unfold creditChange
    dsimp only
    split
    · exact hs
    · exact noneBehind_notify_tally hr _ hs

end Tally

theorem noneBehind_closePage (n : Nat) {s : State} (hs : noneBehind .tally (.line 4) s) :
    noneBehind .tally (.line 4) (closePage n s) := by
  unfold closePage
  split
  · exact hs
  · exact noneBehind_setTally _ (noneBehind_notify_tally (by decide) _ (noneBehind_makeWay ..))

theorem noneBehind_pageSearch {r : Rec} {s : State} (hs : noneBehind .tally r s) :
    noneBehind .tally r (pageSearch s) := by
  unfold pageSearch
  split
  · exact noneBehind_present (s := { s with tally := { s.tally with poolRead := true } }) rfl hs
  · exact hs

theorem noneBehind_placeLine (l : TallyLine) (t : TallyUnit) {s : State} (h : s.tally.page ≠ none) :
    noneBehind .tally (.line 4) (placeLine l t s) := by
  unfold placeLine
  split
  · next hp => exact absurd hp h
  · dsimp only
    split
    · exact noneBehind_pageSearch (noneBehind_closePage 1 (noneBehind_setTally _ (noneBehind_makeWay ..)))
    · exact noneBehind_setTally _ (noneBehind_makeWay ..)

theorem noneBehind_finishOrder (r : Result) (s : State) : noneBehind .exchange (.line 0) (finishOrder r s) :=
  noneBehind_present rfl (noneBehind_congr rfl (noneBehind_makeWay ..))

theorem noneBehind_writeNotice (n : Notice) (asked : Stamp) {s : State}
    (h : dist s.exch.taken s.exch.producer < Config.noticeEntries) :
    noneBehind .exchange (.line 0) (writeNotice n asked s) := by
  unfold writeNotice
  rw [if_pos h]
  exact noneBehind_present rfl (noneBehind_congr (queue_keepDropPos_held ..) (noneBehind_makeWay ..))

theorem noneBehind_composeVisitLine {v : Visit} {a : AccountId} (t : TallyUnit) {s : State} (hv : v.account = some a)
    (hs : placesAtOnce s = true) : noneBehind .tally (.balance a) (composeVisitLine v t s) := by
  unfold composeVisitLine
  dsimp only
  rw [hv]
  refine noneBehind_chargeAccount (by simp) a _ ?_
  unfold tellOfLine
  rw [if_pos hs]
  exact noneBehind_makeWay ..

theorem placesAtOnce_iff {s : State} : placesAtOnce s = true ↔ s.tally.lines = [] ∧ s.tally.page ≠ none := by
  simp [placesAtOnce, Option.isSome_iff_ne_none]

/-! ### Held requests join (R14) -/

theorem drainHeld_of_joins {h : Held} {q : List Request} {s : State} (hq : joinQueue h.issue s = some q) (hs : List Held) :
    drainHeld (h :: hs) s = drainHeld hs { s with path := { s.path with queue := q } } := by
  rw [drainHeld, hq]

theorem joinQueue_append {i : Issue} {s : State} (hm : mergeInPlace i s = none)
    (hroom : s.path.queue.length < Config.queuePlaces) : joinQueue i s = some (s.path.queue ++ [asRequest i s]) := by
  simp [joinQueue, hm, appendIssue, hroom]

theorem mergeInPlace_of_not_refresh {i : Issue} {s : State} (h : ∀ r, i ≠ .refresh r) : mergeInPlace i s = none := by
  cases i with
  | refresh r => exact absurd rfl (h r)
  | read _ _ _ => rfl
  | place _ _ => rfl

theorem late_of_mem_reach {u : UnitId} {e : Event} {s : State} (hu : u ∈ e.units) (hb : busy u s = true) {a : Arrival}
    (ha : a ∈ (reach e s).path.arrived) (hau : u ∈ a.event.units) : a.late = true := by
  rw [reach_of_busy hu hb, List.mem_append, List.mem_singleton] at ha
  rcases ha with ha | rfl
  · obtain ⟨b, -, rfl⟩ := List.mem_map.1 ha
    have : e.units.any (fun v => b.event.isFor v) = true :=
      List.any_eq_true.2 ⟨u, hu, by simpa [Event.isFor] using hau⟩
    simp [Arrival.passed, this]
  · rfl

/-- Settles O11. -/
theorem queuedPostsHoldTheHostAndMerge : Obligations.QueuedPostsHoldTheHostAndMerge := by
  refine ⟨fun line q => ⟨behindOf_eq_zero_iff, fun n => behindOf_eq_succ⟩,
    fun u r pre post addr bytes s hq hlast => ⟨fun hpost hheld => ?_, fun hpost hheld hroom => ?_, fun hheld => ?_⟩,
    fun r s hb => ?_,
    ⟨fun u r s => ⟨noneBehind_makeWay u r s, giveWay_perm u r s.path.held, ?_, fun hnone => ?_⟩,
      noneBehind_finishOrder, fun n at_ s h => noneBehind_writeNotice n at_ h, fun l t s h => noneBehind_placeLine l t h,
      fun r before s => ⟨fun hl hp => ?_, fun hno => ?_⟩,
      fun v a t s hv hl hp => noneBehind_composeVisitLine t hv (placesAtOnce_iff.2 ⟨hl, hp⟩)⟩,
    fun u r hs s hnone hroom => ?_,
    fun h hs s hno => ⟨fun hroom => ?_, fun hfull => ?_⟩,
    fun u h s hholds howner => nextHanded_ne_of_holds hholds howner,
    fun u e s hu hb => ⟨events_reach e s, fun a => late_of_mem_reach hu hb⟩,
    fun u e s hw hc => ?_⟩
  · have hp : presented (.refresh r) s = _ := presented_of_merge (by
      show mergeRefresh r _ s.path.queue = _
      rw [hq]
      exact mergeRefresh_last hlast hpost) hheld
    simp only [present, hp]
    exact ⟨trivial, rfl⟩
  · have hp : presented (.refresh r) s = _ := presented_of_append (by
      show mergeRefresh r _ s.path.queue = _
      rw [hq]
      exact mergeRefresh_behind_placement hlast hpost) hheld hroom
    simp only [present, hp]
    rfl
  · have hp : presented (.refresh r) s = none := presented_of_placementHeld hheld
    simp only [present, hp]
    exact ⟨trivial, trivial⟩
  · unfold post
    rw [if_pos hb]
    exact ⟨rfl, rfl, events_reach ..⟩
  · rw [← List.filterMap_eq_filter]
    exact filterMap_giveWay (fun h hh => by simp [Option.guard, hh]) s.path.held
  · have hheld : giveWay u r s.path.held = s.path.held := giveWay_of_none hnone
    unfold makeWay
    rw [hheld]
  · unfold tellOfLine
    rw [if_pos (placesAtOnce_iff.2 ⟨hl, hp⟩)]
    exact noneBehind_makeWay ..
  · unfold tellOfLine
    rw [if_neg fun h => ?_]
    obtain ⟨h1, h2⟩ := placesAtOnce_iff.1 h
    exact hno.elim (absurd h1) h2
  · exact drainHeld_of_joins (h := ⟨u, .refresh r⟩)
      (joinQueue_append (show mergeInPlace (.refresh r) s = none from mergeRefresh_none hnone) hroom) hs
  · exact drainHeld_of_joins (joinQueue_append (mergeInPlace_of_not_refresh hno) hroom) hs
  · have hjoin : joinQueue h.issue s = none := by
      simp [joinQueue, mergeInPlace_of_not_refresh hno, appendIssue, Nat.not_lt.2 hfull]
    rw [drainHeld, hjoin]
  · simp only [canTake, hw, Bool.not_true, Bool.false_or, Bool.and_eq_true, Bool.not_eq_true', beq_iff_eq] at hc
    exact hc

end Sys2Proof.Machine

/-! PROOFS. The reset input (R20). -/

namespace Sys2Proof.Machine

/-! ### The transaction that a dormant part's port takes -/

/-- What a transaction that arrives in DORMANT will hand (R5). -/
def HostOp.dormantHands : HostOp → List Handed
  | .read _ _ => []
  | .write _ addr bytes => handsStart (coverage addr.toNat Config.hostHalf bytes)

/-- At a dormant part a transaction is held as it stands (R1, R5). -/
theorem arrive_dormant (op : HostOp) {s : State} (h : s.exch.part = .dormant) (hqueue : s.path.queue = []) :
    arrive op s =
      { s with path := { s.path with host := some { op := op, hands := op.dormantHands, behind := 0 } } } := by
  cases op with
  | read span addr => simp only [arrive, holdHost, hqueue, behindOf, HostOp.dormantHands]
  | write span addr bytes =>
    show writeArrives span addr bytes s = _
    unfold writeArrives
    rw [if_neg (by simp [supervised_eq_false (Or.inl h)]), hostHalfHands_unsupervised (Or.inl h)]
    simp only [holdHost, hqueue, behindOf, HostOp.dormantHands]

theorem acceptOps_of_occupied {s : State} (h : s.path.host ≠ none) (ops : List HostOp) :
    acceptOps ops s = { s with path := { s.path with waiting := ops } } := by
  cases ops with
  | nil => rfl
  | cons op ops =>
    unfold acceptOps
    rw [if_neg (by simp [canAccept, h])]

/-- The port takes the first transaction, and the others wait behind it. -/
theorem acceptOps_dormant {s : State} (h : s.exch.part = .dormant) (hqueue : s.path.queue = [])
    (hhanded : s.path.handed = []) (hhost : s.path.host = none) (op : HostOp) (ops : List HostOp) :
    acceptOps (op :: ops) s = { s with path := { s.path with
      waiting := ops, host := some { op := op, hands := op.dormantHands, behind := 0 } } } := by
  unfold acceptOps
  rw [if_pos (by simp [canAccept, hhost, nextHanded, hhanded]), arrive_dormant op h hqueue,
    acceptOps_of_occupied (by simp)]

/-- The port after the reset input, whatever waits there: only the transaction it holds and those that wait differ. -/
theorem acceptOps_after_reset {s : State} (h : s.exch.part = .dormant) (hqueue : s.path.queue = [])
    (hhanded : s.path.handed = []) (ops : List HostOp) :
    ∃ host waiting, acceptOps ops s = { s with path := { s.path with host := host, waiting := waiting } } := by
  by_cases hhost : s.path.host = none
  · cases ops with
    | nil => exact ⟨_, _, rfl⟩
    | cons op ops => exact ⟨_, _, acceptOps_dormant h hqueue hhanded hhost op ops⟩
  · exact ⟨_, _, acceptOps_of_occupied hhost ops⟩

/-! ### The post in progress (R20; log 11) -/

/-- A post of one line or none is written whole. -/
theorem firstLines_one {addr : Nat} {bytes : List Byte} (h : linesOf addr bytes ≤ 1) : firstLines addr 1 bytes = bytes := by
  unfold linesOf at h
  unfold firstLines
  exact List.take_of_length_le (by omega)

theorem cutPost_mem (addr : Nat) (bytes : List Byte) (s : State) :
    ∃ n, 1 ≤ n ∧ (1 ≤ linesOf addr bytes → n ≤ linesOf addr bytes) ∧
      (cutPost addr bytes s).mem = Memory.writeBytes s.mem addr (firstLines addr n bytes) := by
  unfold cutPost
  split
  · next hone => exact ⟨1, le_rfl, id, by rw [firstLines_one hone]⟩
  · next hmore =>
    have hlt : freeValue s % linesOf addr bytes < linesOf addr bytes := Nat.mod_lt _ (by omega)
    exact ⟨1 + freeValue s % linesOf addr bytes, by omega, fun _ => by omega, rfl⟩

theorem path_cutPort (s : State) : (cutPort s).path = s.path := by
  unfold cutPort
  split
  · unfold cutPost; split <;> rfl
  · unfold cutPost; split <;> rfl
  all_goals rfl

theorem cutPort_eq_self {s : State} (h : ∀ addr bytes, s.path.port ≠ some (.internal (.place addr bytes)))
    (h' : ∀ r addr bytes, s.path.port ≠ some (.internal (.refresh r addr bytes))) : cutPort s = s := by
  unfold cutPort
  split
  · next addr bytes hp => exact absurd hp (h addr bytes)
  · next r addr bytes hp => exact absurd hp (h' r addr bytes)
  all_goals rfl

/-- Settles O12. -/
theorem resetInputResetsEveryUnit : Obligations.ResetInputResetsEveryUnit := by
  intro s
  have hreset : resetInput s = acceptOps s.path.waiting (resetUnits (cutPort s)) := by
    show acceptOps (pathAfterReset (cutPort s).path).waiting _ = _
    rw [path_cutPort]
    rfl
  have hpath : (resetUnits (cutPort s)).path = pathAfterReset s.path := by
    show pathAfterReset (cutPort s).path = _
    rw [path_cutPort]
  have hmem : (resetUnits (cutPort s)).mem = (cutPort s).mem := rfl
  obtain ⟨host, waiting, hop⟩ := acceptOps_after_reset (s := resetUnits (cutPort s)) rfl rfl rfl s.path.waiting
  refine ⟨resetInput s, rfl, ?_⟩
  rw [hreset]
  have hhostCases : (∀ x, s.path.host = some x → host = some (keptTxn x) ∧ waiting = s.path.waiting) ∧
      (s.path.host = none → s.path.waiting = [] → host = none ∧ waiting = []) ∧
      ∀ op ops, s.path.host = none → s.path.waiting = op :: ops →
        waiting = ops ∧ host = some { op := op, hands := op.dormantHands, behind := 0 } := by
    have hfield : (acceptOps s.path.waiting (resetUnits (cutPort s))).path.host = host ∧
        (acceptOps s.path.waiting (resetUnits (cutPort s))).path.waiting = waiting := by rw [hop]; exact ⟨rfl, rfl⟩
    have hkept : (resetUnits (cutPort s)).path.host = s.path.host.map keptTxn := by rw [hpath]; rfl
    refine ⟨fun x hx => ?_, fun hx hw => ?_, fun op ops hx hw => ?_⟩
    · rw [acceptOps_of_occupied (by simp [hkept, hx])] at hfield
      exact ⟨hfield.1.symm.trans (by rw [hkept, hx]; rfl), hfield.2.symm⟩
    · rw [hw] at hfield
      exact ⟨hfield.1.symm.trans (by show (resetUnits (cutPort s)).path.host = none; rw [hkept, hx]; rfl), hfield.2.symm⟩
    · rw [hw, acceptOps_dormant rfl rfl rfl (by rw [hkept, hx]; rfl)] at hfield
      exact ⟨hfield.2.symm, hfield.1.symm⟩
  obtain ⟨hheld, hnone, hfirst⟩ := hhostCases
  rw [hop]
  refine ⟨rfl, rfl, rfl, rfl, rfl, rfl, rfl, rfl, rfl, rfl, rfl, rfl, rfl, rfl, rfl, rfl, rfl, rfl, rfl, rfl, rfl,
    by show (resetUnits (cutPort s)).path.readData = _; rw [hpath]; rfl, fun x hx => (hheld x hx).symm, hnone,
    fun op ops hx hw => ?_, fun hp => ?_, fun addr bytes hp => ?_, fun r addr bytes hp => ?_,
    fun tag addr lines hp => ?_, fun q hp => ?_⟩
  · obtain ⟨hwaiting, hhost⟩ := hfirst op ops hx hw
    refine ⟨hwaiting, hhost.trans ?_⟩
    cases op <;> rfl
  · refine ⟨by rw [hmem, cutPort_eq_self (fun _ _ => hp _) fun _ _ _ => hp _], ?_⟩
    show (resetUnits (cutPort s)).path.port = _
    rw [hpath]
    show keptPort s.path.port = _
    match hport : s.path.port with
    | none => rfl
    | some .host => rfl
    | some (.internal q) => exact absurd hport (hp q)
  · have hcut : cutPort s = cutPost addr bytes s := by simp only [cutPort, hp]
    rw [hmem, hcut]
    exact cutPost_mem addr bytes s
  · have hcut : cutPort s = cutPost addr bytes s := by simp only [cutPort, hp]
    rw [hmem, hcut]
    exact cutPost_mem addr bytes s
  · rw [hmem, cutPort_eq_self (by simp [hp]) (by simp [hp])]
  · show (resetUnits (cutPort s)).path.port = _
    rw [hpath]
    show keptPort s.path.port = _
    rw [hp]
    rfl

end Sys2Proof.Machine

/-! PROOFS. Start-up (chapter 2): START_VALUE. -/

namespace Sys2Proof.Machine

/-! ### Turns taken while the notice ring is not accepted (R14, R33; log 44) -/

/-- Everything but the request path, the Table Unit and the Tally Unit. -/
def besidesEdits (s : State) : State :=
  { s with path := { s.path with queue := [], held := [], arrived := [] }, table := .reset, tally := .reset }

/-- Every event that stands for a unit outlives the run of the part. -/
def allOutlive (s : State) : Prop := ∀ a ∈ s.path.arrived, a.outlivesRun = true

/-- While the ring is not accepted: a change of the request path, the Table Unit and the Tally Unit alone, with nothing
arriving that does not outlive the run. -/
structure Aside (s t : State) : Prop where
  besides : besidesEdits t = besidesEdits s
  outlive : allOutlive s → allOutlive t

namespace Aside

variable {s t u : State}

theorem refl : Aside s s := ⟨rfl, id⟩
theorem trans (h : Aside s t) (h' : Aside t u) : Aside s u := ⟨h'.besides.trans h.besides, h'.outlive ∘ h.outlive⟩

theorem accepted (h : Aside s t) : accepted t = accepted s :=
  accepted_congr (congrArg (fun x => x.exch.part) h.besides :) (congrArg (fun x => x.path.map) h.besides :)

theorem present (x : UnitId) (i : Issue) : Aside s (present x i s) := by
  refine ⟨?_, fun h a ha => h a (by rwa [arrived_present] at ha)⟩
  unfold Machine.present
  split <;> rfl

theorem placeTold (x : UnitId) (r : Rec) (a : Nat) (bytes : List Byte) : Aside s (placeTold x r a bytes s) :=
  (present x (.place a bytes)).trans ⟨rfl, id⟩

theorem notify (h : Machine.accepted s = false) (n : Notice) : Aside s (notify n s) := by
  rw [notify_of_unaccepted h]; exact refl

theorem reach {e : Event} (he : e.outlivesRun = true) : Aside s (reach e s) := by
  refine ⟨rfl, fun h a ha => ?_⟩
  unfold Machine.reach at ha
  dsimp only at ha
  rcases List.mem_append.1 ha with ha | ha
  · split at ha
    · obtain ⟨b, hb, rfl⟩ := List.mem_map.1 ha
      exact h b hb
    · exact h a ha
  · rw [List.mem_singleton] at ha
    subst ha
    exact he

theorem post (r : Rec) : Aside s (post r s) := by
  unfold Machine.post
  split
  · exact reach rfl
  · exact present ..

theorem setTable (x : TableUnit) : Aside s (setTable x s) := by
  have hset : Aside s { s with table := x } := ⟨rfl, id⟩
  unfold Machine.setTable postChanged
  split
  · exact hset
  · exact hset.trans (post _)

theorem setTally (x : TallyUnit) : Aside s (setTally x s) := by
  have hset : Aside s { s with tally := x } := ⟨rfl, id⟩
  unfold Machine.setTally postChanged
  split
  · exact hset
  · exact hset.trans (post _)

theorem drop (e : Event) : Aside s (dropArrival e s) :=
  ⟨rfl, fun h a ha => h a (List.mem_of_mem_eraseP ha)⟩

theorem leaveOpen (h : Machine.accepted s = false) (v : TableId) (w : Window) (l : Option Nat) (r : Nat) :
    Aside s (leaveOpen v w l r s) := by
  unfold Machine.leaveOpen editWindow
  dsimp only
  generalize { s.table with window := w, lifetime := none, lockout := l, touched := [] } = x
  have hset : Aside s (Machine.setTable x s) := setTable x
  have hnotice := hset.trans (notify (hset.accepted.trans h) { kind := .editWindow, reason := r, subject := v.code })
  split
  · exact hnotice
  · exact hnotice.trans (notify (hnotice.accepted.trans h) _)

theorem tableTold (h : Machine.accepted s = false) (e : Told) : Aside s (tableTold e s) := by
  unfold Machine.tableTold tableExpired tableFallback tableStopping shutWindow
  repeat' split
  all_goals first | exact refl | exact setTable _ | exact leaveOpen h ..

theorem closePage (h : Machine.accepted s = false) (r : Nat) : Aside s (closePage r s) := by
  unfold Machine.closePage
  split
  · exact refl
  · next p _ =>
    dsimp only
    have hplace : Aside s (Machine.placeTold .tally (.line 4) p.addr (p.header true) s) := placeTold ..
    exact (hplace.trans (notify (hplace.accepted.trans h) _)).trans (setTally _)

/-- An event that outlives the run is acted on aside. -/
theorem act (h : Machine.accepted s = false) {e : Event} (he : e.outlivesRun = true) : Aside s (act e s) := by
  match e with
  | .value _ => exact refl
  | .ask (.refresh r) => exact present ..
  | .told k =>
    show Aside s (actTold k s)
    unfold actTold
    split
    · exact closePage h 0
    all_goals exact tableTold h _

theorem serveUpTo (h : Machine.accepted s = false) (hs : allOutlive s) (n : Nat) : Aside s (serveUpTo n s) := by
  induction n generalizing s with
  | zero => exact refl
  | succ n ih =>
    unfold Machine.serveUpTo
    split
    · exact refl
    · next e hdue =>
      obtain ⟨a, ha, rfl⟩ := List.mem_map.1 (List.mem_of_find?_eq_some hdue)
      have hact : Aside s (Machine.act a.event (dropArrival a.event s)) :=
        (drop _).trans (act ((drop (s := s) a.event).accepted.trans h) (hs a ha))
      exact hact.trans (ih (hact.accepted.trans h) (hact.outlive hs))

theorem afterTurn (h : Machine.accepted s = false) (hs : allOutlive s) (us : List UnitId) (b : State) :
    Aside s (afterTurn us b s) := by
  unfold Machine.afterTurn
  split
  · exact serveUpTo h hs _
  · exact refl

end Aside

/-! ### LOADING begins (R25, R26) -/

theorem exec_startValue {s : State} (h : nextHanded s = some .start) :
    exec .startValue s = .next (afterTurn [.exchange] s (startHanded (dropHanded .start s))) := by
  show execStartValue s = _
  rw [execStartValue, if_pos h]
  rfl

theorem refreshAll_aside (rs : List Rec) (s : State) : Aside s (refreshAll rs s) := by
  induction rs generalizing s with
  | nil => exact .refl
  | cons r rs ih => exact (Aside.present ..).trans (ih _)

/-- Entering LOADING, then requests alone. -/
theorem beginLoading_aside (s : State) : Aside (loadingEntered s) (beginLoading s) :=
  ((Aside.present ..).trans (refreshAll_aside ..)).trans (.present ..)

theorem allOutlive_loadingEntered (s : State) : allOutlive (loadingEntered s) := fun _ ha => (List.mem_filter.1 ha).2

theorem handed_loadingEntered (s : State) : (loadingEntered s).path.handed = s.path.handed := by
  show (s.path.arrived.filter Arrival.outlivesRun).filterMap (fun a => a.event.asValue) = _
  rw [List.filterMap_filter]
  congr 1
  funext a
  obtain ⟨e, late, taken⟩ := a
  cases e with
  | value _ => rfl
  | ask i => cases i <;> rfl
  | _ => rfl

theorem startHanded_dropHanded {s : State} (hpart : s.exch.part = .dormant ∨ s.exch.part = .halted)
    (hm : s.clock.monitor ≠ .lapsed) : startHanded (dropHanded .start s) = beginLoading (dropHanded .start s) := by
  simp [startHanded, hpart, hm]

/-- LOADING begun, and the turns of what waited: a state aside from the one in which LOADING is entered, with the same
values handed and the host half read. -/
theorem begun_spec (s b : State) : ∃ t, afterTurn [.exchange] b (beginLoading s) = t ∧ Aside (loadingEntered s) t ∧
    t.path.handed = s.path.handed ∧ issued (.read .hostHalf 0x00100000 64) t = true := by
  have hasked : Run {} (loadingEntered s) (beginLoading s) := Run.refl.refreshNow.refreshAll.present
  have hserved : Run { takes := true } (beginLoading s) (afterTurn [.exchange] b (beginLoading s)) :=
    Run.refl.afterTurn rfl
  have haside := beginLoading_aside s
  have hhanded : (afterTurn [.exchange] b (beginLoading s)).path.handed = s.path.handed :=
    (congrArg Prod.fst (hserved.within.arrivals rfl rfl) :).trans
      ((congrArg Prod.fst (hasked.within.arrivals rfl rfl) :).trans (handed_loadingEntered s))
  refine ⟨_, rfl, haside.trans (.afterTurn (haside.accepted.trans rfl) (haside.outlive (allOutlive_loadingEntered s)) ..),
    hhanded, hserved.issued rfl rfl ?_⟩
  exact issued_present (by simp [Issue.isRequest, Config.hostHalf]) ..

/-- Settles O13: LOADING entered, then changes aside alone; the refusal shown; nothing. -/
theorem startValueByPartState : Obligations.StartValueByPartState := by
  refine ⟨fun s hnext hpart hm => ?_, fun s hnext hpart hm => ?_, fun s hnext hd hh => ?_⟩
  · obtain ⟨t, ht, haside, hhanded, hissued⟩ := begun_spec (dropHanded .start s) s
    have hports : t.ports = mapVec loadingPort s.ports := (congrArg State.ports haside.besides :)
    refine ⟨t, by rw [exec_startValue hnext, startHanded_dropHanded hpart hm, ht],
      (congrArg (fun x => x.exch.part) haside.besides :), (congrArg (fun x => x.path.map) haside.besides :),
      (congrArg (fun x => x.path.dropPos) haside.besides :), (congrArg (fun x => x.path.dropped) haside.besides :),
      (congrArg (fun x => x.exch.attention) haside.besides :), (congrArg (fun x => x.exch.loadError) haside.besides :),
      (congrArg (fun x => x.exch.loadErrorField) haside.besides :), (congrArg State.gate haside.besides :),
      (congrArg State.yard haside.besides :), fun p => ?_, hissued, (congrArg State.mem haside.besides :),
      hhanded.trans (handed_dropHanded ..)⟩
    have hp : t.ports[p] = loadingPort s.ports[p] := by
      rw [hports, Fin.getElem_fin, getElem_mapVec]; rfl
    rw [hp]
    exact ⟨rfl, rfl, rfl, rfl, rfl, rfl, rfl, rfl⟩
  · refine ⟨startHanded (dropHanded .start s), exec_startValue hnext, ?_⟩
    have hshown : startHanded (dropHanded .start s) = refreshNow (.line 0) { dropHanded .start s with
        exch := { s.exch with loadError := some .monitorLapsed, loadErrorField := 0 } } := by
      simp [startHanded, hpart, hm]
    have hb := besides_refreshNow (.line 0) { dropHanded .start s with
      exch := { s.exch with loadError := some .monitorLapsed, loadErrorField := 0 } }
    rw [← hshown] at hb
    exact ⟨by rw [hshown]; simp [refreshNow], by rw [hshown]; simp [refreshNow], by rw [hshown]; simp [refreshNow],
      by rw [hshown]; simp [refreshNow], mem_of_besides hb, latched_of_besides hb, ports_of_besides hb,
      gate_of_besides hb, yard_of_besides hb, bays_of_besides hb, water_of_besides hb, table_of_besides hb,
      tally_of_besides hb, clock_of_besides hb⟩
  · rw [exec_startValue hnext]
    simp [startHanded, hd, hh]

end Sys2Proof.Machine

/-! PROOFS. The stop value (chapter 2): a page that stays current in HALTED. -/

namespace Sys2Proof.Machine

/-- A quiet part in RUNNING with a stop value handed, nothing to wind down, a page current and the window primed. The request
queue is full, so the Exchange Unit holds its notice and the window's line is asked for in its turn; that turn makes the
CUT_PAGE entry that stands late, and the entry is one of the Tally Unit's events: the page's closing waits behind it (R14). -/
def stopBehindCutPage : State :=
  { State.reset with
    path := { PathUnit.reset with
      map := .full
      queue := List.replicate Config.queuePlaces (.place 0 [])
      arrived := [{ event := .value .stop, late := false }, { event := .read .order [13], late := false }] }
    exch := { ExchangeUnit.reset with part := .running }
    table := { TableUnit.reset with window := .primed .vehicles }
    tally := { TallyUnit.reset with page := some {
      addr := 0, seq := 0, used := 32, lines := 0, hostRef := 0, firstTime := none, lastTime := none } }
    clock := { ClockUnit.reset with running := true } }

/-- The next state still has a current page. -/
def endsWithPage : Host.Outcome State Fault Refusal → Bool
  | .next t => t.tally.page.isSome
  | .fault _ | .refused _ => false

theorem quiet_stopBehindCutPage : quiet stopBehindCutPage ∧ nextHanded stopBehindCutPage = some .stop ∧
    openVisits stopBehindCutPage = 0 ∧ pendingCount stopBehindCutPage = 0 := by decide +kernel

theorem endsWithPage_stopBehindCutPage : endsWithPage (exec .stopValue stopBehindCutPage) = true := by decide +kernel

/-- Refutes O14: its last part claims that no page is current, whatever waits for the Tally Unit. -/
theorem not_stopValueByPartState : ¬ Obligations.StopValueByPartState := by
  rintro ⟨_, hdown⟩
  obtain ⟨hquiet, hnext, hvisits, hpending⟩ := quiet_stopBehindCutPage
  obtain ⟨t, ht, _, _, _, _, hpage, _⟩ := hdown stopBehindCutPage hquiet hnext hvisits hpending rfl rfl
  have hstill := endsWithPage_stopBehindCutPage
  rw [ht] at hstill
  simp [endsWithPage, hpage] at hstill

end Sys2Proof.Machine

/-! PROOFS. Start-up (chapter 2): the host half read, validated, and refused or accepted. -/

namespace Sys2Proof.Machine

/-! ### A read that its units take at once (R14) -/

/-- The units of the event take it at once: none holds a request, and nothing late waits for one. -/
theorem takeRead_of_free {tag : ReadTag} {data : List Byte} {s : State}
    (h : ∀ u ∈ (Event.read tag data).units, busy u s = false) (f : State → State) :
    takeRead tag data f s = f (dropReturned (tag, data) s) := by
  have hfree : ∀ u ∈ (Event.read tag data).units, holds u s = false ∧ waits u s = false := fun u hu => by
    simpa [busy] using h u hu
  have hready : ready (.read tag data) s = true :=
    List.all_eq_true.2 fun u hu => by simp [canTake, hfree u hu]
  unfold takeRead
  rw [if_pos hready]
  exact afterTurn_of_free (fun u hu => (hfree u hu).2) _

/-- A read found by its tag carries a tag that is looked for. -/
theorem tag_of_findReturned {want : ReadTag → Bool} {s : State} {r : ReadTag × List Byte}
    (h : findReturned want s = some r) : want r.1 = true := List.find?_some (p := fun x : ReadTag × List Byte => want x.1) h

theorem exec_hostHalfRead {tag : ReadTag} {c : List Byte} {s : State} (h : findReturned isHostHalf s = some (tag, c))
    (hfree : busy .exchange s = false) (hpart : s.exch.part = .loading) :
    exec .hostHalfRead s = .next (hostHalfReturned c (dropReturned (tag, c) s)) := by
  have htag := tag_of_findReturned h
  show execHostHalfRead s = _
  unfold execHostHalfRead
  rw [h]
  cases tag with
  | hostHalf => exact congrArg _ ((takeRead_of_free (by simpa [Event.units] using hfree) _).trans (if_pos hpart))
  | _ => cases htag

/-! ### Requests, and nothing else -/

/-- The state without the requests: what asking for a read, a placement or a refresh leaves as it was. -/
def unasked (s : State) : State := { s with path := { s.path with queue := [], held := [] } }

theorem unasked_present (u : UnitId) (i : Issue) (s : State) : unasked (present u i s) = unasked s := by
  unfold present; split <;> rfl
theorem unasked_refreshNow (r : Rec) (s : State) : unasked (refreshNow r s) = unasked s := unasked_present ..
theorem unasked_refreshAll (rs : List Rec) (s : State) : unasked (refreshAll rs s) = unasked s := by
  induction rs generalizing s with
  | nil => rfl
  | cons r rs ih => exact (ih _).trans (unasked_refreshNow r s)

/-! ### The copy refused (R27), and accepted (R22, R26) -/

theorem unasked_refuseCopy (e : LoadError) (n : Nat) (s : State) :
    unasked (refuseCopy e n s) = unasked (refusedState e n s) := unasked_refreshNow ..

theorem unasked_acceptCopy (c : List Byte) (s : State) : unasked (acceptCopy c s) = unasked (acceptedState c s) :=
  (unasked_present ..).trans ((unasked_refreshNow ..).trans (unasked_refreshAll ..))

/-- A field of the state that asking leaves. -/
theorem same_of_unasked {α : Type} {s t : State} (h : unasked t = unasked s) (f : State → α)
    (hf : ∀ x, f (unasked x) = f x := by exact fun _ => rfl) : f t = f s := by rw [← hf t, h, hf]

theorem issued_acceptCopy (c : List Byte) (s : State) :
    issued (.read (.table .tariffs 0) (hostField 64 c) 32) (acceptCopy c s) = true := by
  have hbases : (refreshNow (.line 2) (refreshAll (changedLines allLines s (acceptedState c s))
      (acceptedState c s))).path.bases = basesOf c :=
    same_of_unasked ((unasked_refreshNow ..).trans (unasked_refreshAll ..)) (fun x => x.path.bases)
  unfold acceptCopy readTable
  dsimp only
  rw [hbases]
  exact issued_present (by simp [Issue.isRequest, basesOf, Bases.table, tableReadLines]) ..

/-- The ports held after an acceptance: those of bays not fitted, and those held before. -/
theorem link_acceptedPort_held (c : List Byte) (b : BayId) (x : Port) :
    (acceptedPort (latchedOf c) (bayPort b) x).link = .held ↔ hostField 1 c ≤ b.val ∨ x.link = .held := by
  have hb := b.isLt
  have hport : (bayPort b).val = b.val + 2 := rfl
  have hfit : (latchedOf c).baysFitted = hostField 1 c := rfl
  unfold acceptedPort
  rw [hport, hfit]
  split
  · next hun => exact ⟨fun _ => Or.inl (by omega), fun _ => rfl⟩
  · next hun =>
    have hlt : ¬ hostField 1 c ≤ b.val := by omega
    split <;> simp [hlt]

section Vectors

variable (c : List Byte)

theorem tankCapacity_latchedOf (k : TankId) : (latchedOf c).tankCapacity[k] =
    if k.val < hostField 2 c then hostField (3 + k.val) c else 0 := getElem_vecOf ..
theorem tanks_acceptedWater (l : Latched) (k : TankId) :
    (acceptedWater l c).tanks[k] = { Tank.reset with capacity := l.tankCapacity[k] } := getElem_vecOf ..
theorem bays_latchedOf {b : BayId} (hb : b.val < hostField 1 c) : (latchedOf c).bays[b] = {
    axleLimit := hostField (33 + 3 * b.val) c, mask := BitVec.ofNat 16 (hostField (34 + 3 * b.val) c),
    pulses := hostField (35 + 3 * b.val) c } := (getElem_vecOf ..).trans (if_pos hb)
theorem bays_acceptedState (s : State) (b : BayId) : (acceptedState c s).bays[b] = acceptedBay (latchedOf c) b :=
  getElem_vecOf ..
theorem ports_acceptedState (s : State) (p : PortId) :
    (acceptedState c s).ports[p] = acceptedPort (latchedOf c) p s.ports[p] := getElem_vecOf ..

end Vectors

/-- Settles O15: the state refused or accepted, then requests alone. -/
theorem hostHalfReadByValidation : Obligations.HostHalfReadByValidation := by
  refine ⟨fun tag c e n s hfind hfree hpart hv => ⟨_, exec_hostHalfRead hfind hfree hpart, ?_⟩,
    fun tag c s hfind hfree hpart hv => ⟨_, exec_hostHalfRead hfind hfree hpart, ?_⟩⟩
  · unfold hostHalfReturned
    rw [hv]
    dsimp only
    have hasked : refreshAsked (.line 0) (refuseCopy e n (dropReturned (tag, c) s)) = true := refreshAsked_present ..
    have hu := unasked_refuseCopy e n (dropReturned (tag, c) s)
    generalize refuseCopy e n (dropReturned (tag, c) s) = t at hasked hu ⊢
    have field := fun {α : Type} (f : State → α) hf => same_of_unasked hu f hf
    have hexch : t.exch = _ := field State.exch fun _ => rfl
    refine ⟨congrArg ExchangeUnit.part hexch, congrArg ExchangeUnit.loadError hexch,
      congrArg ExchangeUnit.loadErrorField hexch, field (fun x => x.path.map) fun _ => rfl,
      field (fun x => x.path.dropPos) fun _ => rfl, hexch, hasked, field State.latched fun _ => rfl,
      field (fun x => x.path.dropped) fun _ => rfl, field (fun x => x.path.dropAddr) fun _ => rfl,
      field (fun x => x.path.dropClass) fun _ => rfl, field (fun x => x.path.hostRun) fun _ => rfl,
      field State.ports fun _ => rfl, field State.gate fun _ => rfl, field State.yard fun _ => rfl,
      field State.bays fun _ => rfl, field State.water fun _ => rfl, field State.table fun _ => rfl,
      field State.tally fun _ => rfl, field State.clock fun _ => rfl, field State.mem fun _ => rfl⟩
  · unfold hostHalfReturned
    rw [hv]
    dsimp only
    have hissued := issued_acceptCopy c (dropReturned (tag, c) s)
    have hu := unasked_acceptCopy c (dropReturned (tag, c) s)
    generalize acceptCopy c (dropReturned (tag, c) s) = t at hissued hu ⊢
    have field := fun {α : Type} (f : State → α) hf => same_of_unasked hu f hf
    have hexch : t.exch = _ := field State.exch fun _ => rfl
    have hbases : t.path.bases = basesOf c := field (fun x => x.path.bases) fun _ => rfl
    have hlatched : t.latched = latchedOf c := field State.latched fun _ => rfl
    have hwater : t.water = acceptedWater (latchedOf c) c := field State.water fun _ => rfl
    have htally : t.tally = acceptedTally c := field State.tally fun _ => rfl
    have hclock : t.clock = { acceptedClock c with faultLine := s.clock.faultLine } := field State.clock fun _ => rfl
    have hbays : t.bays = (acceptedState c (dropReturned (tag, c) s)).bays := field State.bays fun _ => rfl
    have hports : t.ports = (acceptedState c (dropReturned (tag, c) s)).ports := field State.ports fun _ => rfl
    rw [hbases, hlatched, hwater, htally, hclock, hexch, hbays, hports]
    refine ⟨hpart, field (fun x => x.path.map) fun _ => rfl, rfl, rfl, rfl, rfl, rfl, rfl, rfl, rfl,
      fun k => ⟨tankCapacity_latchedOf c k, tanks_acceptedWater c _ k⟩, fun b => bays_latchedOf c, rfl, rfl, rfl, rfl,
      rfl, rfl, rfl, rfl, rfl, rfl, rfl, rfl, rfl, rfl, rfl, fun b => ?_, fun b => ?_, field State.table fun _ => rfl,
      hissued, field State.mem fun _ => rfl⟩
    · rw [bays_acceptedState]
      rfl
    · rw [ports_acceptedState]
      exact link_acceptedPort_held ..

end Sys2Proof.Machine

/-! PROOFS. Start-up (chapter 2): what an accepted copy's fields keep to (R23, R24). -/

namespace Sys2Proof.Machine

/-! ### The checks of a field, each as the condition it passes under -/

theorem inRange_eq_none_iff {lo hi v : Nat} : inRange lo hi v = none ↔ lo ≤ v ∧ v ≤ hi := by simp [inRange]

theorem withRelation_eq_none_iff {r : Option LoadError} {holds : Bool} :
    withRelation r holds = none ↔ r = none ∧ holds = true := by
  cases r <;> simp [withRelation]

/-- Fields 3 to 6 are a tank's capacity, checked for a fitted tank. -/
theorem checkField_tank (c : List Byte) {k : Nat} (hk : k < 4) :
    checkField c (3 + k) = if k < hostField 2 c then inRange 1000 200000 (hostField (3 + k) c) else none := by
  interval_cases k <;> rfl

/-- Fields 33 to 56 are the bays' descriptors, three to a bay. -/
theorem checkField_bay (c : List Byte) {b j : Nat} (hb : b < 8) (hj : j < 3) :
    checkField c (33 + 3 * b + j) = checkBayField (33 + 3 * b + j) c := by
  interval_cases b <;> interval_cases j <;> rfl

section Accepted

variable {c : List Byte}

/-- A field that is checked for its range alone lies in it. -/
theorem range_of_validate (hc : validate c = none) {n lo hi : Nat} (hn : 1 ≤ n ∧ n ≤ 67)
    (hcheck : checkField c n = inRange lo hi (hostField n c)) : lo ≤ hostField n c ∧ hostField n c ≤ hi :=
  inRange_eq_none_iff.1 (hcheck.symm.trans (checkField_of_validate hc hn))

/-- A field that is checked for its range and a relation keeps both. -/
theorem relation_of_validate (hc : validate c = none) {n lo hi : Nat} {holds : Bool} (hn : 1 ≤ n ∧ n ≤ 67)
    (hcheck : checkField c n = withRelation (inRange lo hi (hostField n c)) holds) :
    (lo ≤ hostField n c ∧ hostField n c ≤ hi) ∧ holds = true := by
  obtain ⟨hrange, hholds⟩ := withRelation_eq_none_iff.1 (hcheck.symm.trans (checkField_of_validate hc hn))
  exact ⟨inRange_eq_none_iff.1 hrange, hholds⟩

theorem tankCapacity_of_validate (hc : validate c = none) {k : Nat} (hk : k < hostField 2 c) :
    1000 ≤ hostField (3 + k) c ∧ hostField (3 + k) c ≤ 200000 := by
  have htanks := range_of_validate hc (n := 2) (by omega) rfl
  exact range_of_validate hc (by omega) ((checkField_tank c (by omega)).trans (if_pos hk))

theorem calTemp_of_validate (hc : validate c = none) (hcal : hostField 23 c = 2) :
    -20 ≤ signed 32 (hostField 25 c) ∧ signed 32 (hostField 25 c) ≤ 60 := by
  have hcheck := checkField_of_validate hc (n := 25) (by omega)
  have hcond : checkField c 25 =
      if hostField 23 c = 2 ∧ calTempValid (signed 32 (hostField 25 c)) = false then some .fieldRange else none := rfl
  rw [hcond] at hcheck
  simpa [hcal, calTempValid] using hcheck

/-- A fitted bay's axle limit and its pulses. -/
theorem bayDesc_of_validate (hc : validate c = none) {b : Nat} (hb : b < hostField 1 c) :
    (2 ≤ hostField (33 + 3 * b) c ∧ hostField (33 + 3 * b) c ≤ 9) ∧
      1 ≤ hostField (35 + 3 * b) c ∧ hostField (35 + 3 * b) c ≤ 1000 := by
  have hbays := range_of_validate hc (n := 1) (by omega) rfl
  have hlimit : checkBayField (33 + 3 * b + 0) c = inRange 2 9 (hostField (33 + 3 * b) c) := by
    unfold checkBayField
    rw [if_pos (by omega), if_pos (by omega)]
    rfl
  have hpulses : checkBayField (33 + 3 * b + 2) c = inRange 1 1000 (hostField (33 + 3 * b + 2) c) := by
    unfold checkBayField
    rw [if_pos (by omega), if_neg (by omega), if_neg (by omega)]
  have hlast := range_of_validate hc (n := 33 + 3 * b + 2) (by omega) ((checkField_bay c (by omega) (by omega)).trans hpulses)
  rw [show 33 + 3 * b + 2 = 35 + 3 * b by omega] at hlast
  exact ⟨range_of_validate hc (by omega) ((checkField_bay c (by omega) (by omega)).trans hlimit), hlast⟩

end Accepted

/-- Regions placed without a failure lie in memory, beside the layout page. -/
theorem inside_of_placeRegions {placed : List (Nat × Nat)} {l : List (Nat × Nat × Nat)}
    (h : placeRegions placed l = none) : ∀ r ∈ l, r.2.1 + r.2.2 ≤ 2 ^ 32 ∧
      overlaps r.2.1 r.2.2 Config.hostHalf (2 * Config.halfSize) = false := by
  induction l generalizing placed with
  | nil => simp
  | cons x l ih =>
    obtain ⟨n, base, size⟩ := x
    unfold placeRegions at h
    split at h
    · cases h
    next hbounds =>
      split at h
      · cases h
      next hlayout =>
        split at h
        · cases h
        · refine List.forall_mem_cons.2 ⟨⟨Nat.le_of_not_lt hbounds, Bool.eq_false_iff.2 hlayout⟩, ih h⟩

/-- Settles O16. -/
theorem acceptedCopyIsInRange : Obligations.AcceptedCopyIsInRange := by
  intro c hc
  have range := fun {n lo hi : Nat} => range_of_validate hc (n := n) (lo := lo) (hi := hi)
  have ⟨hgo, hmargin⟩ := relation_of_validate hc (n := 12) (by omega) rfl
  have ⟨hceiling, hbase⟩ := relation_of_validate hc (n := 22) (by omega) rfl
  have haction : 1 ≤ hostField 15 c ∧ hostField 15 c ≤ 2 := range (by omega) rfl
  have hcal : 1 ≤ hostField 23 c ∧ hostField 23 c ≤ 2 := range (by omega) rfl
  have hregions := placeRegions_of_validate hc
  have hinside := inside_of_placeRegions hregions
  refine ⟨range (by omega) rfl, (range (n := 2) (by omega) rfl).2, fun k => tankCapacity_of_validate hc,
    range (by omega) rfl, (range (n := 8) (by omega) rfl).2, range (by omega) rfl, range (by omega) rfl,
    range (by omega) rfl, hgo.2, of_decide_eq_true hmargin, range (by omega) rfl, (range (n := 14) (by omega) rfl).2,
    by omega, range (by omega) rfl, range (by omega) rfl, range (by omega) rfl, (range (n := 19) (by omega) rfl).2,
    (range (n := 20) (by omega) rfl).2, (range (n := 21) (by omega) rfl).2, hceiling, of_decide_eq_true hbase,
    by omega, calTemp_of_validate hc, (range (n := 26) (by omega) rfl).2, (range (n := 27) (by omega) rfl).2,
    range (by omega) rfl, (range (n := 30) (by omega) rfl).2, fun b hb => ?_,
    aligned_eq_none_iff.1 (checkField_of_validate hc (n := 66) (by omega)), range (by omega) rfl, fun r hr => ?_,
    (apart_of_placeRegions hregions).2⟩
  · obtain ⟨⟨hlo, hhi⟩, hpulses⟩ := bayDesc_of_validate hc hb
    exact ⟨hlo, hhi, hpulses⟩
  · obtain ⟨hmem, hlayout⟩ := hinside r hr
    exact ⟨hmem, fun _ => regionsOf_aligned hc hr, hlayout⟩

end Sys2Proof.Machine

/-! PROOFS. Start-up (chapter 2): the loading reads of the guarded tables (R139 to R141). -/

namespace Sys2Proof.Machine

/-! ### An entry at loading (R141) -/

theorem presentTest_vehicle {i : Nat} {v : Vehicle} {s : State} : presentTest i (.vehicle v) s = none ↔
    (∀ e ∈ s.table.vehicles, e.1 ≠ i → (v.tag ≠ 0 → e.2.tag ≠ v.tag) ∧ (v.plate ≠ none → e.2.plate ≠ v.plate)) ∧
      (lookup s.table.accounts v.account.val).isSome = true ∧ (lookup s.table.programmes v.programme).isSome = true := by
  have hdup : duplicate i v s = false ↔ ∀ e ∈ s.table.vehicles, e.1 ≠ i →
      (v.tag ≠ 0 → e.2.tag ≠ v.tag) ∧ (v.plate ≠ none → e.2.plate ≠ v.plate) := by
    unfold duplicate
    rw [List.any_eq_false]
    refine forall₂_congr fun e _ => ?_
    cases v.plate <;> simp [imp_and]
  rw [← hdup]
  simp only [presentTest]
  cases hd : duplicate i v s
  · cases ha : lookup s.table.accounts v.account.val <;> cases hp : lookup s.table.programmes v.programme <;> simp
  · simp

theorem loadEntry_absent {u : TableId} {i : Nat} {bytes : List Byte} {s : State} (h : judgeLoad u i bytes s = .ok none) :
    loadEntry u i bytes s = s := by
  unfold loadEntry; rw [h]
theorem loadEntry_present {u : TableId} {i : Nat} {bytes : List Byte} {s : State} {e : Entry}
    (h : judgeLoad u i bytes s = .ok (some e)) :
    loadEntry u i bytes s = addLoadCount u 1 0 (storeEntry u i (some e) s) := by
  unfold loadEntry; rw [h]
theorem table_loadEntry_rejected {u : TableId} {i : Nat} {bytes : List Byte} {s : State} {r : EntryReason}
    (h : judgeLoad u i bytes s = .error r) : (loadEntry u i bytes s).table = (addLoadCount u 0 1 s).table := by
  unfold loadEntry; rw [h]; exact table_notify ..

/-! ### A table's copy as it is loaded -/

/-- An index above every listed one has no entry. -/
theorem lookup_of_above {α : Type} {i j : Nat} {m : List (Nat × α)} (h : ∀ e ∈ m, e.1 < i) (hj : i ≤ j) :
    lookup m j = none := by
  induction m with
  | nil => rfl
  | cons e m ih =>
    obtain ⟨hhead, htail⟩ := List.forall_mem_cons.1 h
    exact (if_neg (by omega)).trans (ih htail)

/-- What an entry's bytes put into its table's copy. -/
def loaded {α : Type} (u : TableId) (own : Entry → Option α) (bytes : List Byte) (s : State) : Option α :=
  match judgeLoad u 0 bytes s with
  | .ok (some e) => own e
  | .ok none | .error _ => none

/-- A table whose copy is `copy`, whose entries hold `own`, and whose judgement reads neither its index nor its own copy. -/
structure LoadsAlone {α : Type} (u : TableId) (copy : TableUnit → List (Nat × α)) (own : Entry → Option α) : Prop where
  stored : ∀ i e s, copy (storeEntry u i (some e) s).table = store (copy s.table) i (own e)
  counted : ∀ p r s, copy (addLoadCount u p r s).table = copy s.table
  index : ∀ i bytes s, judgeLoad u i bytes s = judgeLoad u 0 bytes s
  step : ∀ i bytes data s, judgeLoad u 0 data (loadEntry u i bytes s) = judgeLoad u 0 data s

section LoadsAlone

variable {α : Type} {u : TableId} {copy : TableUnit → List (Nat × α)} {own : Entry → Option α}

/-- One entry: stored when it is accepted. -/
theorem LoadsAlone.copy_loadEntry (h : LoadsAlone u copy own) (i : Nat) (bytes : List Byte) (s : State) :
    copy (loadEntry u i bytes s).table =
      match judgeLoad u 0 bytes s with
      | .ok (some e) => store (copy s.table) i (own e)
      | .ok none | .error _ => copy s.table := by
  have hindex := h.index i bytes s
  rcases hj : judgeLoad u 0 bytes s with r | (_ | e) <;> rw [hj] at hindex <;> dsimp only
  · rw [table_loadEntry_rejected hindex, h.counted]
  · rw [loadEntry_absent hindex]
  · rw [loadEntry_present hindex, h.counted, h.stored]

theorem LoadsAlone.sorted_loadEntry (h : LoadsAlone u copy own) {i : Nat} {bytes : List Byte} {s : State}
    (hs : copySorted (copy s.table)) : copySorted (copy (loadEntry u i bytes s).table) := by
  rw [h.copy_loadEntry]
  split
  · exact copySorted_store hs
  all_goals exact hs

theorem LoadsAlone.lookup_loadEntry (h : LoadsAlone u copy own) {i : Nat} {s : State} (hs : copySorted (copy s.table))
    (hfree : lookup (copy s.table) i = none) (bytes : List Byte) (j : Nat) :
    lookup (copy (loadEntry u i bytes s).table) j = if i = j then loaded u own bytes s else lookup (copy s.table) j := by
  rw [h.copy_loadEntry]
  unfold loaded
  split
  · exact lookup_store hs ..
  all_goals
    split
    · next hij => exact hij ▸ hfree
    · rfl

/-- The entries of a read, from an index on which the copy holds nothing: each its bytes' own, those below unchanged. -/
theorem LoadsAlone.lookup_loadEntries (h : LoadsAlone u copy own) (n i : Nat) (data : List Byte) (s : State)
    (hs : copySorted (copy s.table)) (hfree : ∀ j, i ≤ j → lookup (copy s.table) j = none) :
    (∀ j < i, lookup (copy (loadEntries u n i data s).table) j = lookup (copy s.table) j) ∧
      ∀ j < n, lookup (copy (loadEntries u n i data s).table) (i + j) =
        loaded u own ((data.drop (u.entrySize * j)).take u.entrySize) s := by
  induction n generalizing i data s with
  | zero => exact ⟨fun _ _ => rfl, fun j hj => absurd hj (Nat.not_lt_zero j)⟩
  | succ n ih =>
    have hstep := h.lookup_loadEntry hs (hfree i le_rfl) (data.take u.entrySize)
    obtain ⟨hbelow, hentries⟩ := ih (i + 1) (data.drop u.entrySize) (loadEntry u i (data.take u.entrySize) s)
      (h.sorted_loadEntry hs) fun j hj => by rw [hstep, if_neg (by omega)]; exact hfree j (by omega)
    rw [loadEntries]
    refine ⟨fun j hj => ?_, fun j hj => ?_⟩
    · rw [hbelow j (by omega), hstep, if_neg (by omega)]
    · cases j with
      | zero =>
        rw [hbelow (i + 0) (by omega), hstep, if_pos (by omega)]
        rfl
      | succ j =>
        have hj := hentries j (by omega)
        rw [show i + 1 + j = i + (j + 1) by omega, List.drop_drop] at hj
        rw [hj, show u.entrySize * (j + 1) = u.entrySize + u.entrySize * j by rw [Nat.mul_succ, Nat.add_comm]]
        unfold loaded
        rw [h.step]

end LoadsAlone

/-! ### The tariffs, the programmes and the accounts -/

/-- An entry of a table is one of its own kind (R139). -/
theorem tariff_of_judgeEntry {bytes : List Byte} {e : Entry} (h : judgeEntry .tariffs bytes = .ok (some e)) :
    ∃ x, e = .tariff x := by
  unfold judgeEntry entryOf at h
  dsimp only at h
  split at h
  · cases h
  split at h
  · rcases hx : tariffOf bytes with r | x <;> rw [hx] at h <;> cases h
    exact ⟨x, rfl⟩
  · cases h

theorem programme_of_judgeEntry {bytes : List Byte} {e : Entry} (h : judgeEntry .programmes bytes = .ok (some e)) :
    ∃ x, e = .programme x := by
  unfold judgeEntry entryOf at h
  dsimp only at h
  split at h
  · cases h
  split at h
  · rcases hx : programmeOf bytes with r | x <;> rw [hx] at h <;> cases h
    exact ⟨x, rfl⟩
  · cases h

theorem account_of_judgeEntry {bytes : List Byte} {e : Entry} (h : judgeEntry .accounts bytes = .ok (some e)) :
    ∃ x, e = .account x := by
  unfold judgeEntry entryOf at h
  dsimp only at h
  split at h
  · cases h
  split at h
  · rcases hx : accountEntryOf bytes with r | x <;> rw [hx] at h <;> cases h
    exact ⟨x, rfl⟩
  · cases h

/-- A tariff and a programme pass by their fields alone. -/
theorem judgeLoad_tariffs (i : Nat) (bytes : List Byte) (s : State) :
    judgeLoad .tariffs i bytes s = judgeEntry .tariffs bytes := by
  unfold judgeLoad
  rcases hj : judgeEntry .tariffs bytes with r | (_ | e)
  · rfl
  · rfl
  · obtain ⟨x, rfl⟩ := tariff_of_judgeEntry hj
    rfl

theorem judgeLoad_programmes (i : Nat) (bytes : List Byte) (s : State) :
    judgeLoad .programmes i bytes s = judgeEntry .programmes bytes := by
  unfold judgeLoad
  rcases hj : judgeEntry .programmes bytes with r | (_ | e)
  · rfl
  · rfl
  · obtain ⟨x, rfl⟩ := programme_of_judgeEntry hj
    rfl

/-- An account passes when its tariff is committed besides. -/
theorem judgeLoad_accounts_congr {i j : Nat} {bytes : List Byte} {s t : State} (h : s.table.tariffs = t.table.tariffs) :
    judgeLoad .accounts i bytes s = judgeLoad .accounts j bytes t := by
  unfold judgeLoad
  rcases hj : judgeEntry .accounts bytes with r | (_ | e)
  · rfl
  · rfl
  · obtain ⟨x, rfl⟩ := account_of_judgeEntry hj
    simp only [presentTest, h]

theorem tariffs_loadEntry_accounts (i : Nat) (bytes : List Byte) (s : State) :
    (loadEntry .accounts i bytes s).table.tariffs = s.table.tariffs := by
  rcases hj : judgeLoad .accounts i bytes s with r | (_ | e)
  · rw [table_loadEntry_rejected hj]; rfl
  · rw [loadEntry_absent hj]
  · rw [loadEntry_present hj]; rfl

theorem tariffs_loadEntries_accounts (n i : Nat) (data : List Byte) (s : State) :
    (loadEntries .accounts n i data s).table.tariffs = s.table.tariffs := by
  induction n generalizing i data s with
  | zero => rfl
  | succ n ih => rw [loadEntries, ih, tariffs_loadEntry_accounts]

theorem loadsAlone_tariffs : LoadsAlone .tariffs TableUnit.tariffs Entry.toTariff where
  stored _ _ _ := rfl
  counted _ _ _ := rfl
  index i bytes s := by simp only [judgeLoad_tariffs]
  step i bytes data s := by simp only [judgeLoad_tariffs]

theorem loadsAlone_programmes : LoadsAlone .programmes TableUnit.programmes Entry.toProgramme where
  stored _ _ _ := rfl
  counted _ _ _ := rfl
  index i bytes s := by simp only [judgeLoad_programmes]
  step i bytes data s := by simp only [judgeLoad_programmes]

theorem loadsAlone_accounts : LoadsAlone .accounts TableUnit.accounts Entry.toAccount where
  stored _ _ _ := rfl
  counted _ _ _ := rfl
  index _ _ _ := judgeLoad_accounts_congr rfl
  step _ _ _ _ := judgeLoad_accounts_congr (tariffs_loadEntry_accounts ..)

theorem loaded_tariffs (bytes : List Byte) (s : State) : loaded .tariffs Entry.toTariff bytes s =
    match judgeEntry .tariffs bytes with
    | .ok (some (.tariff x)) => some x
    | _ => none := by
  unfold loaded
  rw [judgeLoad_tariffs]
  rcases judgeEntry .tariffs bytes with r | (_ | (_ | _ | _ | _)) <;> rfl

theorem loaded_programmes (bytes : List Byte) (s : State) : loaded .programmes Entry.toProgramme bytes s =
    match judgeEntry .programmes bytes with
    | .ok (some (.programme x)) => some x
    | _ => none := by
  unfold loaded
  rw [judgeLoad_programmes]
  rcases judgeEntry .programmes bytes with r | (_ | (_ | _ | _ | _)) <;> rfl

theorem loaded_accounts (bytes : List Byte) (s : State) : loaded .accounts Entry.toAccount bytes s =
    match judgeEntry .accounts bytes with
    | .ok (some (.account x)) => if (lookup s.table.tariffs x.tariff).isSome then some x else none
    | _ => none := by
  unfold loaded judgeLoad
  rcases hj : judgeEntry .accounts bytes with r | (_ | e)
  · rfl
  · rfl
  · obtain ⟨x, rfl⟩ := account_of_judgeEntry hj
    dsimp only [presentTest]
    cases lookup s.table.tariffs x.tariff <;> rfl

/-! ### The read taken, and the next issued (R141) -/

theorem exec_tableRead {u : TableId} {k : Nat} {data : List Byte} {s : State} (h : findTableRead s = some (u, k, data))
    (hfree : busy .table s = false) (hpart : s.exch.part = .loading) (hmap : s.path.map = .full) :
    exec .tableRead s = .next (tableReturned u k data (dropReturned (.table u k, data) s)) := by
  show execTableRead s = _
  unfold execTableRead
  rw [h]
  exact congrArg _ ((takeRead_of_free (by simpa [Event.units] using hfree) _).trans (if_pos ⟨hpart, hmap⟩))

theorem kept_loadEntries_path (u : TableId) (n i : Nat) (data : List Byte) (s : State) :
    pathKept (loadEntries u n i data s).path = pathKept s.path ∧
      exchangeKept (loadEntries u n i data s).exch = exchangeKept s.exch := by
  induction n generalizing i data s with
  | zero => exact ⟨rfl, rfl⟩
  | succ n ih =>
    have hentry : pathKept (loadEntry u i (data.take u.entrySize) s).path = pathKept s.path ∧
        exchangeKept (loadEntry u i (data.take u.entrySize) s).exch = exchangeKept s.exch := by
      unfold loadEntry
      split
      · exact ⟨rfl, rfl⟩
      · cases u <;> exact ⟨rfl, rfl⟩
      · next r _ =>
        have hkept := kept_notify
          { kind := .loadEntryRejected, reason := r.code, subject := u.code, first := i,
            second := checksum (data.take u.entrySize) } (addLoadCount u 0 1 s)
        exact ⟨(congrArg Kept.path hkept :), (congrArg Kept.exch hkept :)⟩
    obtain ⟨hpath, hexch⟩ := ih (i + 1) (data.drop u.entrySize) (loadEntry u i (data.take u.entrySize) s)
    exact ⟨hpath.trans hentry.1, hexch.trans hentry.2⟩

theorem issued_readTable (u : TableId) (k : Nat) (s : State) :
    issued (.read (.table u k) (s.path.bases.table u + 2048 * k) (tableReadLines u)) (readTable u k s) = true :=
  issued_present (by simp [Issue.isRequest]) ..
theorem issued_readBalances (k : Nat) (s : State) :
    issued (.read (.balances k) (s.path.bases.balanceArea + 2048 * k) 64) (readBalances k s) = true :=
  issued_present (by simp [Issue.isRequest]) ..

theorem part_nextTableRead (u : TableId) (k : Nat) (s : State) : (nextTableRead u k s).exch.part = s.exch.part := by
  have hposts : (postLoadCounts s).exch.part = s.exch.part :=
    (part_of_kept (kept_postLine 3 (takeLoadCounts s)) :)
  unfold nextTableRead readTable readBalances
  repeat' split
  all_goals simp only [exch_present, hposts]

section Returned

variable {α : Type} {u : TableId} {copy : TableUnit → List (Nat × α)} {own : Entry → Option α}

/-- The entries of a read from an index on which the copy holds nothing, as the whole event leaves them. -/
theorem LoadsAlone.lookup_tableReturned (h : LoadsAlone u copy own) (hu : u ≠ .vehicles) (k : Nat) (data : List Byte)
    {s : State} (hs : copySorted (copy s.table)) (hbelow : ∀ e ∈ copy s.table, e.1 < 2048 / u.entrySize * k) :
    (∀ j < 2048 / u.entrySize * k, lookup (copy (tableReturned u k data s).table) j = lookup (copy s.table) j) ∧
      ∀ j < 32 * tableReadLines u / u.entrySize,
        lookup (copy (tableReturned u k data s).table) (2048 / u.entrySize * k + j) =
          loaded u own ((data.drop (u.entrySize * j)).take u.entrySize) s := by
  unfold tableReturned
  rw [nextTableRead_table, if_neg fun hv => hu hv.1]
  exact h.lookup_loadEntries _ _ data s hs fun j hj => lookup_of_above hbelow hj

end Returned

theorem tariffs_tableReturned_accounts (k : Nat) (data : List Byte) (s : State) :
    (tableReturned .accounts k data s).table.tariffs = s.table.tariffs := by
  unfold tableReturned
  rw [nextTableRead_table, if_neg (by simp), tariffs_loadEntries_accounts]

/-- The next read in order, and after the vehicle register's last the load counts posted and the balances. -/
theorem issued_tableReturned (u : TableId) (k : Nat) (data : List Byte) (s : State) :
    (u = .tariffs → issued (.read (.table .programmes 0) s.path.bases.programmes 64) (tableReturned u k data s) = true) ∧
    (u = .programmes → issued (.read (.table .accounts 0) s.path.bases.accounts 64) (tableReturned u k data s) = true) ∧
    (u = .accounts → k < 3 → issued (.read (.table .accounts (k + 1)) (s.path.bases.accounts + 2048 * (k + 1)) 64)
      (tableReturned u k data s) = true) ∧
    (u = .accounts → k = 3 → issued (.read (.table .vehicles 0) s.path.bases.vehicles 64)
      (tableReturned u k data s) = true) ∧
    (u = .vehicles → k < 63 → issued (.read (.table .vehicles (k + 1)) (s.path.bases.vehicles + 2048 * (k + 1)) 64)
      (tableReturned u k data s) = true) ∧
    (u = .vehicles → k = 63 → issued (.read (.balances 0) s.path.bases.balanceArea 64) (tableReturned u k data s) = true ∧
      refreshAsked (.line 3) (tableReturned u k data s) = true) := by
  unfold tableReturned
  generalize hx : loadEntries u (32 * tableReadLines u / u.entrySize) (2048 / u.entrySize * k) data s = x
  have hbases : x.path.bases = s.path.bases := by
    subst hx
    exact (congrArg PathKept.bases (kept_loadEntries_path ..).1 :)
  have hposted : (postLoadCounts x).path.bases = s.path.bases :=
    (congrArg (fun y : Kept => y.path.bases) (kept_postLine 3 (takeLoadCounts x)) :).trans hbases
  rw [← hbases]
  refine ⟨?_, ?_, ?_, ?_, ?_, ?_⟩
  · rintro rfl
    exact issued_readTable .programmes 0 x
  · rintro rfl
    exact issued_readTable .accounts 0 x
  · rintro rfl hk
    simp only [nextTableRead, if_pos hk]
    exact issued_readTable .accounts (k + 1) x
  · rintro rfl rfl
    exact issued_readTable .vehicles 0 x
  · rintro rfl hk
    simp only [nextTableRead, if_pos hk]
    exact issued_readTable .vehicles (k + 1) x
  · rintro rfl rfl
    have hbalances := issued_readBalances 0 (postLoadCounts x)
    rw [hposted, ← hbases] at hbalances
    exact ⟨hbalances, refreshAsked_present_of_asked (refreshAsked_post (.line 3) (takeLoadCounts x)) ..⟩

/-- Settles O17: three copies loaded entry by entry, the vehicle's test, one entry's effect, and what is read next. -/
theorem loadingReadsTheTables : Obligations.LoadingReadsTheTables := by
  refine ⟨fun data s hfind hfree hpart hmap hempty => ⟨_, exec_tableRead hfind hfree hpart hmap, ?_, fun i hi => ?_⟩,
    fun data s hfind hfree hpart hmap hempty => ⟨_, exec_tableRead hfind hfree hpart hmap, fun i hi => ?_⟩,
    fun k data s hfind hfree hpart hmap hsorted hbelow =>
      ⟨_, exec_tableRead hfind hfree hpart hmap, ?_, fun i hi => ?_, fun i hi => ?_⟩,
    fun i v s => presentTest_vehicle,
    fun u i bytes s => ⟨loadEntry_absent, fun e => loadEntry_present, fun r => table_loadEntry_rejected⟩,
    fun u k data s hfind hfree hpart hmap => ⟨_, exec_tableRead hfind hfree hpart hmap, ?_⟩⟩
  · exact (issued_tableReturned .tariffs 0 data (dropReturned _ s)).1 rfl
  · have hentries := (loadsAlone_tariffs.lookup_tableReturned (s := dropReturned (.table .tariffs 0, data) s) (by simp) 0 data
      (by simp [hempty, copySorted]) (by simp [hempty])).2 i hi
    rw [loaded_tariffs, Nat.mul_zero, Nat.zero_add] at hentries
    exact hentries
  · have hentries := (loadsAlone_programmes.lookup_tableReturned (s := dropReturned (.table .programmes 0, data) s)
      (by simp) 0 data (by simp [hempty, copySorted]) (by simp [hempty])).2 i hi
    rw [loaded_programmes, Nat.mul_zero, Nat.zero_add] at hentries
    exact hentries
  · exact tariffs_tableReturned_accounts ..
  · exact (loadsAlone_accounts.lookup_tableReturned (s := dropReturned (.table .accounts k, data) s) (by simp) k data
      hsorted hbelow).1 i hi
  · have hentries := (loadsAlone_accounts.lookup_tableReturned (s := dropReturned (.table .accounts k, data) s) (by simp) k
      data hsorted hbelow).2 i hi
    rw [loaded_accounts] at hentries
    exact hentries
  · obtain ⟨-, hprogrammes, haccounts, hlast, hvehicles, hall⟩ :=
      issued_tableReturned u k data (dropReturned (.table u k, data) s)
    have hcounts := tableReturned_loadCounts u k data (dropReturned (.table u k, data) s)
    have hpart' : (tableReturned u k data (dropReturned (.table u k, data) s)).exch.part = .loading :=
      (part_nextTableRead ..).trans ((congrArg ExchangeKept.part (kept_loadEntries_path ..).2 :).trans hpart)
    have hrun : Run { copies := true, counts := true } (dropReturned (.table u k, data) s)
      (tableReturned u k data (dropReturned (.table u k, data) s)) := Run.refl.tableReturned rfl rfl
    refine ⟨hpart', hrun.within.mem rfl, hprogrammes, haccounts, hlast, hvehicles, fun hu hk => ?_, fun hk => ?_⟩
    · obtain ⟨hbalances, hposted⟩ := hall hu hk
      rw [if_pos ⟨hu, hk.ge⟩] at hcounts
      exact ⟨hbalances, hcounts, hposted⟩
    · rw [if_neg (by rintro ⟨hu, hge⟩; exact absurd (hk hu) (by omega))] at hcounts
      exact hcounts

end Sys2Proof.Machine

/-! PROOFS. Start-up (chapter 2): the balances (R151) and the completion of LOADING (R26). -/

namespace Sys2Proof.Machine

/-! ### Completion, at once or in its turn (R26; log 47) -/

theorem part_completeLoading (s : State) : (completeLoading s).exch.part = .running := by
  unfold completeLoading
  rw [part_of_kept (kept_pageSearch _), part_of_kept (kept_refreshAll ..), part_of_kept (kept_notifyNow ..)]

theorem askCompletion_of_free {s : State} (h : busy .exchange s = false) : askCompletion s = completeLoading s := by
  simp [askCompletion, h]
theorem askCompletion_of_busy {s : State} (h : busy .exchange s = true) :
    askCompletion s = reach (.ask .complete) s := by
  simp [askCompletion, h]

theorem part_leaveOpen (u : TableId) (w : Window) (l : Option Nat) (r : Nat) (s : State) :
    (leaveOpen u w l r s).exch.part = s.exch.part := by
  unfold leaveOpen editWindow
  dsimp only
  split
  · exact (part_of_kept (kept_notify ..)).trans (part_setTable ..)
  · exact (part_of_kept (kept_notify ..)).trans ((part_of_kept (kept_notify ..)).trans (part_setTable ..))

theorem part_tableTold (e : Told) (s : State) : (tableTold e s).exch.part = s.exch.part := by
  unfold tableTold tableExpired tableFallback tableStopping shutWindow
  repeat' split
  all_goals simp only [part_setTable, part_leaveOpen]

/-- A part in RUNNING stays there while events without a row have their turn. -/
theorem running_act {e : Event} {s : State} (h : s.exch.part = .running) : (act e s).exch.part = .running := by
  match e with
  | .ask (.notice n asked) => exact (part_of_kept (kept_writeNotice n asked s)).trans h
  | .ask (.refresh r) => exact (part_of_kept (kept_refreshNow r s)).trans h
  | .ask .complete =>
    show (if s.exch.part = .loading then completeLoading s else s).exch.part = .running
    rw [if_neg (by simp [h])]
    exact h
  | .ask .windDown =>
    show (windDownOwn s).exch.part = .running
    rw [windDownOwn_eq_self (windDownMet_eq_false (by simp [h]))]
    exact h
  | .told .pageHalted => exact (part_of_kept (kept_closePage 0 s)).trans h
  | .told .lifetime | .told .lockout | .told .fallback | .told .stopping | .told .windowHalted =>
    exact (part_tableTold _ s).trans h
  | .closing slot =>
    have hpart : (takeClosing slot s).exch.part = .running := (part_of_kept (kept_takeClosing slot s)).trans h
    exact (part_of_kept (kept_conclude (by simp [hpart]))).trans hpart
  | .value _ | .read _ _ => exact h

theorem running_serveUpTo {s : State} (h : s.exch.part = .running) (n : Nat) : (serveUpTo n s).exch.part = .running := by
  induction n generalizing s with
  | zero => exact h
  | succ n ih =>
    unfold serveUpTo
    split
    · exact h
    · exact ih (running_act h)

/-- The completion that stands first, its unit holding nothing: its turn takes the part to RUNNING. -/
theorem running_serveWaiting {a : Arrival} {xs : List Arrival} {s : State} (harr : s.path.arrived = a :: xs)
    (hevent : a.event = .ask .complete) (hheld : s.path.held = []) (hpart : s.exch.part = .loading) :
    (serveWaiting s).exch.part = .running := by
  have hfirst : firstFor .exchange s = some (.ask .complete) := by
    simp [firstFor, harr, hevent, Event.isFor, Event.units]
  have hready : ready (.ask .complete) s = true := by
    simp [ready, Event.units, canTake, holds, hheld, hfirst]
  have hdue : nextDue s = some (.ask .complete) := by
    simp only [nextDue, harr, List.map_cons, hevent]
    exact List.find?_cons_of_pos (by simp [Event.unattended, hready])
  have hact : (act (.ask .complete) (dropArrival (.ask .complete) s)).exch.part = .running := by
    show (if s.exch.part = .loading then completeLoading (dropArrival _ s) else dropArrival _ s).exch.part = .running
    rw [if_pos hpart]
    exact part_completeLoading _
  unfold serveWaiting
  obtain ⟨n, hn⟩ : ∃ n, 256 * (s.path.arrived.length + 1) = n + 1 := ⟨256 * s.path.arrived.length + 255, by omega⟩
  rw [hn, serveUpTo, hdue]
  exact running_serveUpTo hact n

/-! ### The grant that lets the held request join (R14, R18) -/

/-- What the port's end leaves when no host transaction is under way: who stands first, the queue and what is held. -/
theorem finishPort_of_hostIdle {a : Arrival} {xs : List Arrival} {s : State} (hhost : s.path.host = none)
    (harr : s.path.arrived = a :: xs) :
    (finishPort s).path.queue = s.path.queue ∧ (finishPort s).path.held = s.path.held ∧
      (finishPort s).path.host = none ∧ (finishPort s).path.waiting = s.path.waiting ∧
      (finishPort s).exch = s.exch ∧ ∃ b ys, (finishPort s).path.arrived = b :: ys ∧ b.event = a.event := by
  unfold finishPort
  split
  · exact ⟨rfl, rfl, hhost, rfl, rfl, a, xs, harr, rfl⟩
  · next r _ =>
    cases r with
    | read tag addr lines =>
      refine ⟨rfl, rfl, hhost, rfl, rfl, ?_⟩
      unfold performRequest reach
      dsimp only
      split
      · exact ⟨a.passed _, xs.map _ ++ [_], by rw [harr]; rfl, rfl⟩
      · exact ⟨a, xs ++ [_], by rw [harr]; rfl, rfl⟩
    | place addr bytes => exact ⟨rfl, rfl, hhost, rfl, rfl, a, xs, harr, rfl⟩
    | refresh r addr bytes => exact ⟨rfl, rfl, hhost, rfl, rfl, a, xs, harr, rfl⟩
  · rw [hhost]
    exact ⟨rfl, rfl, hhost, rfl, rfl, a, xs, harr, rfl⟩

theorem grant_of_hostIdle {r : Request} {rest : List Request} {s : State} (hhost : s.path.host = none)
    (hqueue : s.path.queue = r :: rest) : grant s = grantHead r rest s := by
  have hwaits : hostWaits s = false := by simp [hostWaits, hhost]
  unfold grant
  rw [hqueue]
  simp [hwaits]

theorem arrived_drainHeld (hs : List Held) (s : State) : (drainHeld hs s).path.arrived = s.path.arrived := by
  induction hs generalizing s with
  | nil => rfl
  | cons h hs ih =>
    unfold drainHeld
    split
    · exact ih _
    · rfl

/-- One request held, and room: it joins. -/
theorem held_drainQueue {h : Held} {s : State} (hheld : s.path.held = [h])
    (hroom : s.path.queue.length < Config.queuePlaces) : (drainQueue s).path.held = [] := by
  unfold drainQueue
  rw [hheld]
  cases hm : mergeInPlace h.issue s with
  | some q => rw [drainHeld_of_joins (by simp only [joinQueue, hm]; rfl)]; rfl
  | none => rw [drainHeld_of_joins (joinQueue_append hm hroom)]; rfl

theorem running_memoryPortFree {a : Arrival} {xs : List Arrival} {h : Held} {r : Request} {rest : List Request} {s : State}
    (harr : s.path.arrived = a :: xs) (hevent : a.event = .ask .complete) (hheld : s.path.held = [h])
    (hqueue : s.path.queue = r :: rest) (hroom : rest.length < Config.queuePlaces) (hhost : s.path.host = none)
    (hwaiting : s.path.waiting = []) (hpart : s.exch.part = .loading) :
    (serveWaiting (portFree s)).exch.part = .running := by
  obtain ⟨hq, hh, hn, hw, hx, b, ys, hb, hbe⟩ := finishPort_of_hostIdle hhost harr
  unfold portFree
  dsimp only
  generalize finishPort s = u at *
  rw [hw, hwaiting, acceptOps, grant_of_hostIdle (s := { u with path := { u.path with waiting := [] } }) hn
    (hq.trans hqueue)]
  unfold grantHead
  refine running_serveWaiting (a := b) (xs := ys) ?_ (hbe.trans hevent) (held_drainQueue (h := h) (hh.trans hheld) hroom) ?_
  · exact (arrived_drainHeld ..).trans hb
  · exact (part_of_kept (kept_drainQueue _)).trans ((congrArg ExchangeUnit.part hx).trans hpart)

/-! ### The balances (R151) -/

/-- An account as a loading leaves it: its record's, with CREDIT_STOP by its condition. -/
def accountAfter (a : AccountId) (rec : List Byte) (s : State) : AccountState :=
  { accountLoaded rec with
    creditStop := match lookup s.table.accounts a.val with
      | none => false
      | some e => decide (e.limit ≤ (accountLoaded rec).balance) }

theorem accounts_creditChange (a : AccountId) (s : State) : (creditChange a s).tally.accounts =
    s.tally.accounts.set a { s.tally.accounts[a] with creditStop := creditStopNow a s } := by
  unfold creditChange
  dsimp only
  split
  · next h =>
    rw [← h]
    exact (Vector.set_getElem_self ..).symm
  · rw [tally_notify]
    rfl

theorem accounts_loadAccount (a : AccountId) (rec : List Byte) (s : State) :
    (loadAccount a rec s).tally.accounts = s.tally.accounts.set a (accountAfter a rec s) := by
  have hput : ∀ u, u.tally = (putAccount a (accountLoaded rec) s).tally → u.table = s.table →
      (creditChange a u).tally.accounts = s.tally.accounts.set a (accountAfter a rec s) := fun u htally htable => by
    have ha : u.tally.accounts = s.tally.accounts.set a (accountLoaded rec) := congrArg TallyUnit.accounts htally
    rw [accounts_creditChange, ha]
    simp only [accountAfter, creditStopNow, accountEntry, htable, ha, Fin.getElem_fin, Vector.getElem_set_self,
      Vector.set_set] <;> rfl
  unfold loadAccount
  dsimp only
  split
  · split
    · exact hput _ rfl rfl
    · rw [tally_post]
      exact hput _ rfl rfl
  · split
    · exact hput _ (tally_notify ..) (table_notify ..)
    · rw [tally_post]
      exact hput _ (tally_notify ..) (table_notify ..)

theorem accountAfter_congr {a : AccountId} {rec : List Byte} {s t : State} (h : t.table = s.table) :
    accountAfter a rec t = accountAfter a rec s := by simp [accountAfter, h]

/-- The accounts of a read, from an index on: each from its record, the others unchanged. -/
theorem accounts_loadAccounts (n i : Nat) (data : List Byte) (s : State) (a : AccountId) :
    (loadAccounts n i data s).tally.accounts[a] =
      if i ≤ a.val ∧ a.val < i + n then accountAfter a ((data.drop (16 * (a.val - i))).take 16) s
      else s.tally.accounts[a] := by
  induction n generalizing i data s with
  | zero => exact (if_neg (by omega)).symm
  | succ n ih =>
    unfold loadAccounts accountOf
    rw [ih]
    by_cases hi : i < 256
    · simp only [dif_pos hi, accounts_loadAccount, Fin.getElem_fin, Vector.getElem_set]
      have htable : (loadAccount ⟨i, hi⟩ (data.take 16) s).table = s.table :=
        table_of_kept (kept_loadAccounts 1 i data s |> fun h => by simpa [loadAccounts, accountOf, hi] using h)
      rw [accountAfter_congr htable, List.drop_drop]
      by_cases ha : i = a.val
      · subst ha
        simp
      · rw [if_neg ha]
        by_cases hin : i + 1 ≤ a.val ∧ a.val < i + 1 + n
        · rw [if_pos hin, if_pos (by omega), show 16 + 16 * (a.val - (i + 1)) = 16 * (a.val - i) by omega]
        · rw [if_neg hin, if_neg (by omega)]
    · have ha := a.isLt
      simp only [dif_neg hi]
      rw [if_neg (by omega), if_neg (by omega)]

theorem exec_balanceRead {k : Nat} {data : List Byte} {s : State} (h : findBalanceRead s = some (k, data))
    (hfree : busy .tally s = false) (hpart : s.exch.part = .loading) (hmap : s.path.map = .full) :
    exec .balanceRead s = .next (balancesReturned k data (dropReturned (.balances k, data) s)) := by
  show execBalanceRead s = _
  unfold execBalanceRead
  rw [h]
  exact congrArg _ ((takeRead_of_free (by simpa [Event.units] using hfree) _).trans (if_pos ⟨hpart, hmap⟩))

theorem accounts_pageSearch (s : State) : (pageSearch s).tally.accounts = s.tally.accounts := by
  unfold pageSearch
  split
  · exact (congrArg TallyUnit.accounts (tally_present ..) :)
  · rfl

theorem accounts_askCompletion (s : State) : (askCompletion s).tally.accounts = s.tally.accounts := by
  unfold askCompletion
  split
  · rfl
  · unfold completeLoading
    rw [accounts_pageSearch]
    exact (congrArg TallyUnit.accounts (tally_of_besides ((besides_refreshAll ..).trans (besides_notifyNow ..))) :)

theorem accounts_balancesReturned (k : Nat) (data : List Byte) (s : State) :
    (balancesReturned k data s).tally.accounts = (loadAccounts 128 (128 * k) data s).tally.accounts := by
  unfold balancesReturned
  dsimp only
  split
  · exact congrArg TallyUnit.accounts (tally_present ..)
  · exact accounts_askCompletion _

/-- After the second read LOADING completes, or its completion waits (R26; log 47). -/
theorem askCompletion_part {s : State} (h : s.exch.part = .loading) : (askCompletion s).exch.part = .running ∨
    ((askCompletion s).exch.part = .loading ∧ ∃ x ∈ (askCompletion s).path.arrived, x.event = .ask .complete) := by
  cases hb : busy .exchange s with
  | false => exact Or.inl (by rw [askCompletion_of_free hb, part_completeLoading])
  | true =>
    rw [askCompletion_of_busy hb]
    exact Or.inr ⟨h, List.mem_map.1 (by rw [events_reach]; simp)⟩

/-- Settles O18: completion in its two ways, the grant that lets it happen, and the accounts one by one. -/
theorem balancesAreLoaded : Obligations.BalancesAreLoaded := by
  refine ⟨fun s => ⟨fun hb => ?_, askCompletion_of_busy⟩,
    fun a xs h r rest s harr hevent _ hheld hqueue hroom hhost hwaiting hpart =>
      ⟨_, rfl, running_memoryPortFree harr hevent hheld hqueue hroom hhost hwaiting hpart⟩,
    fun k data s hfind hfree hpart hmap hk => ⟨_, exec_balanceRead hfind hfree hpart hmap, ?_⟩⟩
  · rw [askCompletion_of_free hb, part_completeLoading]
  · generalize hu : dropReturned (.balances k, data) s = u
    have hloaded := kept_loadAccounts 128 (128 * k) data u
    have hpart' : (loadAccounts 128 (128 * k) data u).exch.part = .loading := by
      rw [part_of_kept hloaded, ← hu]; exact hpart
    have hbases : (loadAccounts 128 (128 * k) data u).path.bases = s.path.bases := by
      subst hu; exact (congrArg (fun x : Kept => x.path.bases) hloaded :)
    refine ⟨fun hk0 => ?_, fun hk1 => ?_, fun hk0 => ?_, fun a ha => ?_⟩
    · unfold balancesReturned
      dsimp only
      rw [if_pos hk0]
      exact (congrArg ExchangeUnit.part (exch_present ..) :).trans hpart'
    · unfold balancesReturned
      dsimp only
      rw [if_neg (by omega)]
      exact askCompletion_part (s := buildIndex _) hpart'
    · unfold balancesReturned
      dsimp only
      rw [if_pos hk0, ← hbases]
      exact issued_readBalances 1 _
    · have haccount : (balancesReturned k data u).tally.accounts[a] =
          accountAfter a ((data.drop (16 * (a.val - 128 * k))).take 16) s := by
        rw [accounts_balancesReturned, accounts_loadAccounts, if_pos (by omega)]
        exact accountAfter_congr (by rw [← hu]; rfl)
      intro r good
      have hgood : balanceValid r = decide good := by simp [balanceValid, good]
      rw [haccount]
      by_cases hg : good <;> simp [accountAfter, accountLoaded, AccountState.reset, r, hgood, hg] <;> rfl

end Sys2Proof.Machine

/-! PROOFS. The rings (chapter 2): notices, NOTICE_TAKEN, ORDER_POST, and how an order's row ends. -/

namespace Sys2Proof.Machine

/-! ### The end of an event in a calm part -/

theorem sameUnits_of_besides {s t : State} (h : besides t = besides s) : sameUnits s t :=
  ⟨mem_of_besides h, latched_of_besides h, ports_of_besides h, gate_of_besides h, yard_of_besides h, bays_of_besides h,
    water_of_besides h, table_of_besides h, tally_of_besides h, clock_of_besides h⟩

/-- The links as `b` has them, the pending list as a calm part has it: an event's end does nothing more (R43, R168). -/
theorem tidy_eq_self {b t : State} (hpause : t.tally.pause = false) (hfew : pendingCount t < Config.pauseCount)
    (hlinks : ∀ p, linkUp p b = true → linkUp p t = true) : tidy b t = t := by
  rw [tidy, pauseCheck_eq_self hpause hfew]
  exact settleLost_eq_self fun p hp => hlinks p (List.mem_filter.1 hp).2

/-- What leaves every unit but the Exchange Unit alone ends with its own effect. -/
theorem tidy_of_besides {b t : State} (hc : calm b) (h : besides t = besides b) : tidy b t = t := by
  obtain ⟨-, -, -, hpause, hfew⟩ := hc
  have htally := tally_of_besides h
  refine tidy_eq_self (by rw [htally]; exact hpause) (by simpa [pendingCount, htally] using hfew) fun p hp => ?_
  rw [linkUp, ports_of_besides h]
  exact hp

theorem conclude_of_besides {b t : State} (hc : calm b) (hpart : t.exch.part = .running) (h : besides t = besides b) :
    conclude b t = t := by
  rw [conclude, tidy_of_besides hc h, windDown_eq_self (windDownMet_eq_false (by simp [hpart]))]

theorem calm_dropHanded {s : State} (hc : calm s) (x : Handed) : calm (dropHanded x s) := by
  obtain ⟨hheld, hlate, hrest⟩ := hc
  exact ⟨hheld, List.all_eq_true.2 fun a ha => List.all_eq_true.1 hlate a (List.mem_of_mem_eraseP ha), hrest⟩

theorem calm_dropReturned {s : State} (hc : calm s) (r : ReadTag × List Byte) : calm (dropReturned r s) := by
  obtain ⟨hheld, hlate, hrest⟩ := hc
  exact ⟨hheld, List.all_eq_true.2 fun a ha => List.all_eq_true.1 hlate a (List.mem_of_mem_eraseP ha), hrest⟩

/-- A value taken in a calm part in RUNNING by an effect on the Exchange Unit alone: the effect, and nothing more. -/
theorem takeValue_working_of_besides {s : State} {x : Handed} {f : State → State} (hc : calm s)
    (hpart : s.exch.part = .running) (hrun : (f (dropHanded x s)).exch.part = .running)
    (h : besides (f (dropHanded x s)) = besides s) : takeValue x (whenWorking f) s = f (dropHanded x s) := by
  have hworking : working (dropHanded x s) = true := by simp [working, hpart]
  rw [takeValue_of_calm hc.2.1, whenWorking, if_pos hworking]
  exact conclude_of_besides (calm_dropHanded hc x) hrun h

/-- Outside RUNNING and STOPPING a value is taken and not acted on (R10). -/
theorem takeValue_of_not_working {s : State} {x : Handed} {f : State → State} (h : working s = false) :
    takeValue x (whenWorking f) s = afterTurn x.owner.toList s (dropHanded x s) := by
  have hworking : working (dropHanded x s) = false := h
  unfold takeValue whenWorking
  rw [hworking]
  rfl

/-! ### Notices (R33) -/

theorem taken_writeNotice (n : Notice) (asked : Stamp) (s : State) : (writeNotice n asked s).exch.taken = s.exch.taken :=
  congrArg ExchangeKept.taken (exchangeSet_writeNotice n asked s)

theorem besides_acceptTaken (u : Count) (s : State) : besides (acceptTaken u s) = besides s := by
  unfold acceptTaken
  dsimp only
  split
  · exact besides_refreshNow ..
  · rfl

theorem exch_acceptTaken (u : Count) (s : State) : (acceptTaken u s).exch = { s.exch with
    taken := u, overrun := s.exch.overrun && u == s.exch.taken, attention := s.exch.producer != u } := by
  unfold acceptTaken
  dsimp only
  by_cases hu : u = s.exch.taken <;> cases ho : s.exch.overrun <;>
    simp [hu, ho, refreshNow, driveAttention, attentionLevel]

theorem exec_noticeTaken {u : Count} {s : State} (h : nextHanded s = some (.noticeTaken u)) :
    exec .noticeTaken s = .next (takeValue (.noticeTaken u) (whenWorking (noticeTaken u)) s) := by
  show execNoticeTaken s = _
  unfold execNoticeTaken
  rw [h]

/-- Settles O19: a notice written at once, and a count taken from NOTICE TAKEN. -/
theorem noticesAndNoticeTaken : Obligations.NoticesAndNoticeTaken := by
  refine ⟨fun n s => ⟨fun h => notify_of_unaccepted h n, fun h hb => noticeGiven_notify h hb n, fun h hb => ⟨?_, ?_⟩⟩,
    fun u s hnext hc hpart hvalid => ?_, fun u s hnext hc hpart hinvalid => ?_, fun u s hnext hw => ?_⟩
  · rw [notify_of_free h hb]
    exact taken_writeNotice ..
  · exact sameUnits_of_besides (besides_notify ..)
  · have heffect : noticeTaken u (dropHanded (.noticeTaken u) s) = acceptTaken u (dropHanded (.noticeTaken u) s) :=
      if_pos (decide_eq_true hvalid)
    have hexch := exch_acceptTaken u (dropHanded (.noticeTaken u) s)
    have hb := besides_acceptTaken u (dropHanded (.noticeTaken u) s)
    refine ⟨_, by rw [exec_noticeTaken hnext, takeValue_working_of_besides hc hpart
      (by rw [heffect, hexch]; exact hpart) (by rw [heffect, hb]; rfl), heffect], ?_⟩
    rw [hexch]
    exact ⟨rfl, rfl, rfl, rfl, sameUnits_of_besides hb⟩
  · have heffect : noticeTaken u (dropHanded (.noticeTaken u) s) = writeNotice
        { kind := .takenInvalid, first := u.toNat, second := s.exch.taken.toNat } s.clock.now
        (dropHanded (.noticeTaken u) s) := by
      have haccepted : accepted (dropHanded (.noticeTaken u) s) = true := by simp [accepted, working, hpart]
      exact (if_neg fun hv => absurd (of_decide_eq_true hv) (Nat.not_le.2 hinvalid)).trans (if_pos haccepted)
    have hb := besides_writeNotice { kind := .takenInvalid, first := u.toNat, second := s.exch.taken.toNat } s.clock.now
      (dropHanded (.noticeTaken u) s)
    refine ⟨noticeTaken u (dropHanded (.noticeTaken u) s), by rw [exec_noticeTaken hnext, takeValue_working_of_besides
      hc hpart (by rw [heffect, part_of_kept (kept_writeNotice ..)]; exact hpart) (by rw [heffect, hb]; rfl)], ?_⟩
    rw [heffect]
    exact ⟨taken_writeNotice .., sameUnits_of_besides hb,
      noticeGiven_congr rfl rfl rfl (noticeGiven_writeNotice _ (dropHanded (.noticeTaken u) s))⟩
  · rw [exec_noticeTaken hnext, takeValue_of_not_working hw]
    rfl

/-! ### ORDER TAKEN as it stood at the handing (R30) -/

/-- The first value `h` that has arrived, and ORDER TAKEN as it kept it. -/
def keptAt (h : Handed) (o : Count) (s : State) : Prop :=
  ∃ a, s.path.arrived.find? (fun a => a.event == .value h) = some a ∧ a.orderTaken = o

section KeptAt

variable {h : Handed} {o : Count} {s t : State}

theorem keptAt_congr (harr : t.path.arrived = s.path.arrived) : keptAt h o t ↔ keptAt h o s := by
  unfold keptAt; rw [harr]

theorem takenAtHanding_of_keptAt (hk : keptAt h o s) : takenAtHanding h s = o := by
  obtain ⟨a, ha, ho⟩ := hk
  unfold takenAtHanding
  rw [ha]
  exact ho

theorem mem_handed_of_keptAt (hk : keptAt h o s) : h ∈ s.path.handed := by
  obtain ⟨a, ha, -⟩ := hk
  have hevent : a.event = .value h := by simpa using List.find?_some ha
  exact List.mem_filterMap.2 ⟨a, List.mem_of_find?_eq_some ha, by rw [hevent]; rfl⟩

/-- The arrivals that an event passes, with the event behind them. -/
theorem find?_reach (e : Event) (s : State) : ∃ late, (reach e s).path.arrived.find? (fun a => a.event == .value h) =
    ((s.path.arrived.find? (fun a => a.event == .value h)).map
        (if late then Arrival.passed e.units else id)).or
      (if e == .value h then some ⟨e, late, s.exch.orderTaken⟩ else none) := by
  refine ⟨e.units.any fun u => busy u s, ?_⟩
  have hsingle : ∀ x : Arrival, [x].find? (fun a => a.event == .value h) = if x.event == .value h then some x else none :=
    fun x => by rw [List.find?_singleton]
  unfold reach
  dsimp only
  rw [List.find?_append, hsingle]
  split
  · rw [List.find?_map]
    rfl
  · rw [Option.map_id]
    rfl

theorem keptAt_reach (hk : keptAt h o s) (e : Event) : keptAt h o (reach e s) := by
  obtain ⟨a, ha, ho⟩ := hk
  obtain ⟨late, hfind⟩ := find?_reach (h := h) e s
  rw [ha] at hfind
  refine ⟨_, hfind.trans rfl, ?_⟩
  split
  · exact ho
  · exact ho

/-- A value handed that does not stand yet keeps ORDER TAKEN as it is now. -/
theorem keptAt_reach_value (hnew : h ∉ s.path.handed) : keptAt h s.exch.orderTaken (reach (.value h) s) := by
  obtain ⟨late, hfind⟩ := find?_reach (h := h) (.value h) s
  have hnone : s.path.arrived.find? (fun a => a.event == .value h) = none := List.find?_eq_none.2 fun a ha hv =>
    hnew (List.mem_filterMap.2 ⟨a, ha, by rw [eq_of_beq hv]; rfl⟩)
  rw [hnone] at hfind
  rw [if_pos (beq_self_eq_true _)] at hfind
  exact ⟨_, hfind.trans rfl, rfl⟩

theorem keptAt_handAll_of_keptAt (hs : List Handed) (hk : keptAt h o s) : keptAt h o (handAll hs s) := by
  induction hs generalizing s with
  | nil => exact hk
  | cons x hs ih => exact ih (keptAt_reach hk _)

theorem keptAt_handAll {hs : List Handed} (hmem : h ∈ hs) (hnew : h ∉ s.path.handed) :
    keptAt h s.exch.orderTaken (handAll hs s) := by
  induction hs generalizing s with
  | nil => cases hmem
  | cons x hs ih =>
    by_cases hx : x = h
    · subst hx
      exact keptAt_handAll_of_keptAt hs (keptAt_reach_value hnew)
    · refine ih (s := reach (.value x) s) ((List.mem_cons.1 hmem).resolve_left (Ne.symm hx)) fun hin => ?_
      rw [handed_reach] at hin
      exact (List.mem_append.1 hin).elim hnew fun hv => hx (List.mem_singleton.1 hv).symm

theorem keptAt_drop {e : Event} (he : e.unattended = true) (hk : keptAt h o s) : keptAt h o (dropArrival e s) := by
  have herase : ∀ l : List Arrival, (l.eraseP fun a => a.event == e).find? (fun a => a.event == .value h) =
      l.find? (fun a => a.event == .value h) := fun l => by
    induction l with
    | nil => rfl
    | cons a l ih =>
      by_cases ha : a.event = e
      · have hne : a.event ≠ .value h := fun hv => by simp [← ha, hv, Event.unattended] at he
        rw [List.eraseP_cons_of_pos (by simpa using ha), List.find?_cons_of_neg (by simpa using hne)]
      · rw [List.eraseP_cons_of_neg (by simpa using ha), List.find?_cons, List.find?_cons, ih]
  obtain ⟨a, ha, ho⟩ := hk
  exact ⟨a, (herase s.path.arrived).trans ha, ho⟩

end KeptAt

/-- No change that leaves the values standing moves it. -/
theorem Change.keptAt {L : Scope} {s t : State} {h : Handed} {o : Count} (c : Change L s t) (hrows : L.rows = false)
    (hk : keptAt h o s) : keptAt h o t := by
  have rows : L.rows ≠ true := Bool.eq_false_iff.1 hrows
  cases c with
  | present u i => exact (keptAt_congr (arrived_present ..)).2 hk
  | reach e _ _ => exact keptAt_reach hk e
  | drop e hL => exact keptAt_drop (hL.resolve_right rows).1 hk
  | notice n asked _ => exact (keptAt_congr (arrived_writeNotice ..)).2 hk
  | takeNotice n asked _ _ => exact (keptAt_congr (arrived_writeNotice ..)).2 (keptAt_drop rfl hk)
  | halt _ => exact (keptAt_congr (arrived_present ..)).2 hk
  | path x _ _ _ harr _ _ => exact (keptAt_congr harr).2 hk
  | loading _ _ _ _ hL => exact absurd hL rows
  | refuse e n _ hL => exact absurd (by rw [hL]) rows
  | accept x _ hL => exact absurd (by rw [hL]) rows
  | _ => exact hk

theorem Run.keptAt {L : Scope} {s t : State} {h : Handed} {o : Count} (r : Run L s t) (hrows : L.rows = false)
    (hk : Machine.keptAt h o s) : Machine.keptAt h o t := r.keeps (fun c => c.keptAt hrows) hk

/-! ### ORDER_POST (R30, R31) -/

theorem exec_orderPost {v : Count} {s : State} (h : nextHanded s = some (.orderPost v)) :
    exec .orderPost s = .next (takeValue (.orderPost v)
      (whenWorking (orderPosted v (takenAtHanding (.orderPost v) s))) s) := by
  show execOrderPost s = _
  unfold execOrderPost
  rw [h]

theorem besides_fetchOrder (s : State) : besides (fetchOrder s) = besides s := by
  unfold fetchOrder
  split
  · exact besides_present ..
  · rfl

/-- The fetch moves the flag of an order in execution, and nothing else of the Exchange Unit. -/
theorem exch_fetchOrder (s : State) : (fetchOrder s).exch = { s.exch with
    inExecution := s.exch.inExecution || (working s && claimed s) } := by
  unfold fetchOrder
  split
  · next h =>
    simp only [Bool.and_eq_true] at h
    obtain ⟨⟨hw, _⟩, hc⟩ := h
    rw [exch_present, hw, hc, Bool.and_true, Bool.or_true]
  · next h =>
    have hsame : (s.exch.inExecution || (working s && claimed s)) = s.exch.inExecution := by
      cases hx : s.exch.inExecution
      · simpa [hx] using h
      · rfl
    rw [hsame]

/-- A claimed order is read when none is in execution (R31). -/
theorem issued_fetchOrder {s : State} (hw : working s = true) (hx : s.exch.inExecution = false) (hc : claimed s = true) :
    issued (.read .order (orderAddr s.exch.orderTaken s) 1) (fetchOrder s) = true := by
  unfold fetchOrder
  rw [if_pos (by simp [hw, hx, hc])]
  exact issued_present (by simp [Issue.isRequest]) ..

section Posted

variable {v o : Count} {s : State}

theorem orderPosted_valid (hnear : dist o v ≤ 64) (hforward : dist o s.exch.orderPosted ≤ dist o v) :
    orderPosted v o s = fetchOrder { s with exch := { s.exch with orderPosted := v } } := by
  unfold orderPosted
  rw [if_pos (by simp [orderPostValid, Config.orderEntries, hnear, hforward])]

theorem orderPosted_invalid (h : 64 < dist o v ∨ dist o v < dist o s.exch.orderPosted) :
    orderPosted v o s = notifyNow { kind := .orderPostInvalid, first := v.toNat, second := s.exch.orderPosted.toNat } s := by
  unfold orderPosted
  rw [if_neg fun hv => ?_]
  simp only [orderPostValid, Bool.and_eq_true, decide_eq_true_eq] at hv
  obtain ⟨hnear, hforward⟩ := hv
  exact h.elim (Nat.not_lt.2 hnear) (Nat.not_lt.2 hforward)

end Posted

/-- The handing of a write's value by the memory port (R10, R30). -/
theorem orderPost_of_memoryPortFree {v : Count} {span : Span} {addr : Word} {bytes : List (Option Byte)}
    {hands : List Handed} {n : Nat} {s : State} (hport : s.path.port = some .host)
    (hhost : s.path.host = some { op := .write span addr bytes, hands := hands, behind := n }) (hmem : .orderPost v ∈ hands)
    (hnew : .orderPost v ∉ s.path.handed) (hw : working s = true) :
    keptAt (.orderPost v) s.exch.orderTaken (serveWaiting (portFree s)) := by
  have hheeded : .orderPost v ∈ hands.filter (Handed.heeded s.exch.part) :=
    List.mem_filter.2 ⟨hmem, by simpa [Handed.heeded, working] using hw⟩
  have hfinish : keptAt (.orderPost v) s.exch.orderTaken (finishPort s) := by
    unfold finishPort
    rw [hport]
    dsimp only
    rw [hhost]
    exact keptAt_handAll (s := { s with mem := Memory.writeMasked s.mem addr.toNat bytes,
                                        path := { s.path with host := none, port := none } }) hheeded hnew
  have hrun : Run { host := true, takes := true } (finishPort s) (serveWaiting (portFree s)) :=
    ((Run.refl.acceptOps rfl).grant rfl).serveWaiting rfl
  exact hrun.keptAt rfl hfinish

/-- Settles O20: a value accepted, refused and ignored; what a handing keeps of ORDER TAKEN; the read of the order. -/
theorem orderPostMovesForward : Obligations.OrderPostMovesForward := by
  refine ⟨⟨fun v o s hnext hw htaken hnear hforward => ⟨_, exec_orderPost hnext, ?_⟩,
      fun v o s hnext hc hpart htaken hbad => ?_, fun v s hnext hw => ?_⟩,
    fun h s hnew => takenAtHanding_of_keptAt (keptAt_reach_value hnew),
    fun v span addr bytes hands n s hport hhost hmem hnew hw => ?_,
    fun v o s hnext hc hpart htaken hnear hforward hmoves hidle => ?_⟩
  · have hworking : working (dropHanded (.orderPost v) s) = true := hw
    unfold takeValue whenWorking
    rw [if_pos hworking, htaken, orderPosted_valid (s := dropHanded _ s) hnear hforward]
    generalize hu : { dropHanded (.orderPost v) s with exch := { (dropHanded (.orderPost v) s).exch with orderPosted := v } } = u
    have hfetch := exch_fetchOrder u
    have hrun : Run { takes := true } (fetchOrder u) (afterTurn (Handed.orderPost v).owner.toList s
      (conclude (dropHanded (.orderPost v) s) (fetchOrder u))) := Run.refl.conclude.afterTurn rfl
    have hset := hrun.within.exch rfl
    rw [hfetch] at hset
    subst hu
    exact ⟨(congrArg ExchangeKept.orderPosted hset :), (congrArg ExchangeKept.orderTaken hset :)⟩
  · have haccepted : accepted (dropHanded (.orderPost v) s) = true := by simp [accepted, working, hpart]
    have heffect : orderPosted v o (dropHanded (.orderPost v) s) = writeNotice
        { kind := .orderPostInvalid, first := v.toNat, second := s.exch.orderPosted.toNat } s.clock.now
        (dropHanded (.orderPost v) s) := (orderPosted_invalid (s := dropHanded _ s) hbad).trans (if_pos haccepted)
    have hb := besides_writeNotice { kind := .orderPostInvalid, first := v.toNat, second := s.exch.orderPosted.toNat }
      s.clock.now (dropHanded (.orderPost v) s)
    have hset := exchangeSet_writeNotice { kind := .orderPostInvalid, first := v.toNat, second := s.exch.orderPosted.toNat }
      s.clock.now (dropHanded (.orderPost v) s)
    refine ⟨orderPosted v o (dropHanded (.orderPost v) s), by rw [exec_orderPost hnext, htaken,
      takeValue_working_of_besides hc hpart (by rw [heffect, part_of_kept (kept_writeNotice ..)]; exact hpart)
        (by rw [heffect, hb]; rfl)], ?_⟩
    rw [heffect]
    exact ⟨congrArg ExchangeKept.orderPosted hset, congrArg ExchangeKept.orderTaken hset, sameUnits_of_besides hb,
      noticeGiven_congr rfl rfl rfl (noticeGiven_writeNotice _ (dropHanded (.orderPost v) s))⟩
  · rw [exec_orderPost hnext, takeValue_of_not_working hw]
    rfl
  · have hk := orderPost_of_memoryPortFree hport hhost hmem hnew hw
    exact ⟨_, rfl, mem_handed_of_keptAt hk, takenAtHanding_of_keptAt hk⟩
  · have heffect : orderPosted v o (dropHanded (.orderPost v) s) = fetchOrder { dropHanded (.orderPost v) s with
        exch := { s.exch with orderPosted := v } } := orderPosted_valid (s := dropHanded _ s) hnear hforward
    have hfetch := exch_fetchOrder { dropHanded (.orderPost v) s with exch := { s.exch with orderPosted := v } }
    have hb := besides_fetchOrder { dropHanded (.orderPost v) s with exch := { s.exch with orderPosted := v } }
    have hw : working { dropHanded (.orderPost v) s with exch := { s.exch with orderPosted := v } } = true := by
      simp [working, hpart]
    have hclaimed : claimed { dropHanded (.orderPost v) s with exch := { s.exch with orderPosted := v } } = true := by
      simpa [claimed] using Ne.symm hmoves
    refine ⟨orderPosted v o (dropHanded (.orderPost v) s), by rw [exec_orderPost hnext, htaken,
      takeValue_working_of_besides hc hpart (by rw [heffect, hfetch]; exact hpart) (by rw [heffect, hb]; rfl)], ?_⟩
    rw [heffect]
    refine ⟨by rw [hfetch, hw, hclaimed]; simp, sameUnits_of_besides hb, ?_⟩
    exact issued_fetchOrder hw hidle hclaimed

end Sys2Proof.Machine

/-! PROOFS. Orders (chapter 2): how an order's row ends, and the checks made first (R31, R32). -/

namespace Sys2Proof.Machine

/-! ### The end of an order (R31) -/

theorem besides_finishOrder (r : Result) (s : State) : besides (finishOrder r s) = besides s :=
  (besides_refreshNow ..).trans (besides_placeTold .exchange (.line 0) _ _ s)

theorem exch_finishOrder (r : Result) (s : State) : (finishOrder r s).exch =
    { s.exch with orderTaken := s.exch.orderTaken + 1, inExecution := false } := by
  unfold finishOrder
  refine (exch_present ..).trans ?_
  simp only [exch_placeTold]

theorem asked_finishOrder (r : Result) (s : State) :
    asked (orderAddr s.exch.orderTaken s + 28) (le 2 r.code ++ le 2 s.exch.orderTaken.toNat) (finishOrder r s) = true := by
  unfold finishOrder
  dsimp only
  refine issued_present_of_issued rfl ?_ ..
  exact asked_placeTold ..

/-- An order's end and the next fetch: the units as they stood, the result asked for, ORDER TAKEN advanced. -/
theorem besides_order_end (r : Result) (s : State) : besides (fetchOrder (finishOrder r s)) = besides s :=
  (besides_fetchOrder _).trans (besides_finishOrder r s)

theorem answered_order_end {r : Result} {s u : State} (htaken : u.exch.orderTaken = s.exch.orderTaken)
    (hbases : u.path.bases = s.path.bases) : answered r s (fetchOrder (finishOrder r u)) := by
  refine ⟨?_, ?_⟩
  · have hasked := asked_finishOrder r u
    have haddr : orderAddr u.exch.orderTaken u = orderAddr s.exch.orderTaken s := by simp [orderAddr, htaken, hbases]
    rw [htaken, ← htaken, haddr, htaken] at hasked
    exact (Run.refl (L := { rows := true }).fetchOrder rfl).asked rfl hasked
  · rw [exch_fetchOrder, exch_finishOrder]
    exact congrArg (· + 1) htaken

theorem inExecution_order_end {r : Result} {s : State} (hpart : s.exch.part = .running) :
    (fetchOrder (finishOrder r s)).exch.inExecution = (s.exch.orderTaken + 1 != s.exch.orderPosted) := by
  rw [exch_fetchOrder, exch_finishOrder]
  simp [working, claimed, exch_finishOrder, hpart]

/-! ### An order's row (R31, R32) -/

section Row

variable {kind : Nat} {entry : List Byte} {s : State}

/-- The order taken off the list. -/
def orderTakenUp (entry : List Byte) (s : State) : State := dropReturned (.order, entry) s

theorem orderFor_of_orderRead (h : orderRead kind entry s) {want : Nat → Bool} (hwant : want kind = true) :
    orderFor want s = some (.order, entry) := by
  obtain ⟨hpart, hexec, -, -, -, hfind, hkind⟩ := h
  unfold orderFor
  rw [hfind]
  simp [working, hpart, hexec, hkind, hwant]

theorem free_of_orderRead (h : orderRead kind entry s) : ∀ u ∈ (Event.read .order entry).units, busy u s = false := by
  obtain ⟨-, -, hheld, hexch, htally, -, -⟩ := h
  intro u hu
  have hcases : u = .exchange ∨ u = .tally := by
    simp only [Event.units, orderUnits] at hu
    split at hu <;> simp at hu
    · exact hu
    · exact Or.inl hu
  rcases hcases with rfl | rfl
  · simp [busy, holds, hheld, hexch]
  · simp [busy, holds, hheld, htally]

/-- An order in execution is carried out: its effect, the end of that event, its end, and the next fetch. -/
theorem orderRow_eq (h : orderRead kind entry s) {want : Nat → Bool} (hwant : want kind = true)
    {f : List Byte → State → Result × State} {r : Result} {u : State} (hf : f entry (orderTakenUp entry s) = (r, u))
    (hpart : (tidy (orderTakenUp entry s) u).exch.part = .running) :
    orderRow want f s = fetchOrder (finishOrder r (tidy (orderTakenUp entry s) u)) := by
  have hown : windDownOwn (finishOrder r (tidy (orderTakenUp entry s) u)) = finishOrder r (tidy (orderTakenUp entry s) u) :=
    windDownOwn_eq_self (windDownMet_eq_false (by rw [exch_finishOrder]; simp [hpart]))
  unfold orderRow
  rw [orderFor_of_orderRead h hwant]
  dsimp only
  rw [takeRead_of_free (free_of_orderRead h)]
  unfold runOrder
  dsimp only
  rw [show f entry (dropReturned (.order, entry) s) = (r, u) from hf]
  exact congrArg fetchOrder hown

/-- An order refused: its result, and nothing else. -/
theorem orderRow_refused (h : orderReady kind entry s) {want : Nat → Bool} (hwant : want kind = true)
    {f : List Byte → State → Result × State} {r : Result} (hf : f entry (orderTakenUp entry s) = (r, orderTakenUp entry s)) :
    answered r s (orderRow want f s) ∧ sameUnits s (orderRow want f s) ∧
      (orderRow want f s).exch.inExecution = (s.exch.orderTaken + 1 != s.exch.orderPosted) := by
  obtain ⟨hcalm, hread⟩ := h
  have hpart : s.exch.part = .running := hread.1
  have htidy : tidy (orderTakenUp entry s) (orderTakenUp entry s) = orderTakenUp entry s :=
    tidy_of_besides (calm_dropReturned hcalm _) rfl
  rw [orderRow_eq hread hwant hf (by rw [htidy]; exact hpart), htidy]
  exact ⟨answered_order_end rfl rfl, sameUnits_of_besides (besides_order_end r (orderTakenUp entry s)),
    inExecution_order_end (s := orderTakenUp entry s) hpart⟩

end Row

/-! ### The visit an order names (R32) -/

section NamedVisit

variable {entry : List Byte} {s : State} {f : Slot → Visit → List Byte → State → Result × State}

theorem slotOf_val (slot : Slot) : slotOf slot.val = some slot := dif_pos slot.isLt

theorem onVisit_range (h : 63 < arg16 4 entry) : onVisit f entry s = (.refusedRange, s) := by
  have hslot : slotOf (arg16 4 entry) = none := dif_neg (by omega)
  simp only [onVisit, namedVisit, hslot]

theorem onVisit_stale {slot : Slot} (hslot : slot.val = arg16 4 entry)
    (h : ∀ v, s.yard.slots[slot] = some v → v.serial.toNat ≠ arg16 6 entry) : onVisit f entry s = (.stale, s) := by
  have hnamed : namedVisit entry s = .error .stale := by
    unfold namedVisit
    rw [← hslot, slotOf_val]
    dsimp only
    cases hv : s.yard.slots[slot] with
    | none => rfl
    | some v => exact if_neg (h v hv)
  simp only [onVisit, hnamed]

theorem onVisit_named {slot : Slot} {v : Visit} (hslot : slot.val = arg16 4 entry) (hv : s.yard.slots[slot] = some v)
    (hserial : v.serial.toNat = arg16 6 entry) : onVisit f entry s = f slot v entry s := by
  have hnamed : namedVisit entry s = .ok (slot, v) := by
    unfold namedVisit
    rw [← hslot, slotOf_val]
    dsimp only
    rw [hv]
    exact if_pos hserial
  simp only [onVisit, hnamed]

end NamedVisit

/-- The four rows that name a visit. -/
theorem exec_visitOrder {k : Nat} {c : Instr}
    (h : (k, c) ∈ [(1, Instr.admitVisit), (2, .turnAway), (3, .setProgramme), (4, .cancelVisit)]) :
    ∃ (want : Nat → Bool) (f : Slot → Visit → List Byte → State → Result × State), want k = true ∧
      ∀ s, exec c s = .next (orderRow want (onVisit f) s) := by
  simp only [List.mem_cons, Prod.mk.injEq, List.not_mem_nil, or_false] at h
  rcases h with ⟨rfl, rfl⟩ | ⟨rfl, rfl⟩ | ⟨rfl, rfl⟩ | ⟨rfl, rfl⟩
  all_goals exact ⟨_, _, rfl, fun s => rfl⟩

/-- Settles O21. -/
theorem ordersAreCheckedFirst : Obligations.OrdersAreCheckedFirst := by
  refine ⟨fun k entry s h hk => ?_, fun k c entry s hmem h => ?_⟩
  · obtain ⟨hanswered, hsame, hexec⟩ := orderRow_refused (f := fun _ t => (.refusedKind, t)) (want := unknownKind) h
      (by simpa [unknownKind] using hk) rfl
    exact ⟨_, rfl, hanswered, hsame, hexec⟩
  · obtain ⟨want, f, hwant, hexec⟩ := exec_visitOrder hmem
    refine ⟨fun hrange => ⟨_, hexec s, ?_⟩, fun slot hslot hother => ⟨_, hexec s, ?_⟩⟩
    · obtain ⟨hanswered, hsame, -⟩ := orderRow_refused (f := onVisit f) h hwant (onVisit_range hrange)
      exact ⟨hanswered, hsame⟩
    · obtain ⟨hanswered, hsame, -⟩ := orderRow_refused (f := onVisit f) h hwant (onVisit_stale hslot hother)
      exact ⟨hanswered, hsame⟩

end Sys2Proof.Machine

/-! PROOFS. What the shared operations leave in the units' records, as plain updates of the state, and how a row ends on
such an update. -/

namespace Sys2Proof.Machine

/-! ### Plain updates -/

def putPort (p : PortId) (f : Port → Port) (s : State) : State := { s with ports := s.ports.set p (f s.ports[p]) }
def putBay (b : BayId) (f : Bay → Bay) (s : State) : State := { s with bays := s.bays.set b (f s.bays[b]) }
def putTank (k : TankId) (f : Tank → Tank) (s : State) : State :=
  { s with water := { s.water with tanks := s.water.tanks.set k (f s.water.tanks[k]) } }
def putWater (f : WaterUnit → WaterUnit) (s : State) : State := { s with water := f s.water }
def putYard (f : YardUnit → YardUnit) (s : State) : State := { s with yard := f s.yard }
def putTally (f : TallyUnit → TallyUnit) (s : State) : State := { s with tally := f s.tally }
def putTable (f : TableUnit → TableUnit) (s : State) : State := { s with table := f s.table }

/-- Two states whose units stand alike: they differ in the request queue, what is held and waits for a unit's turn, and the
notice ring's producer alone. -/
structure Alike (s t : State) : Prop where
  units : besides s = besides t
  exch : exchangeKept s.exch = exchangeKept t.exch
  path : pathKept s.path = pathKept t.path

namespace Alike

variable {s t u : State}

theorem refl : Alike s s := ⟨rfl, rfl, rfl⟩
theorem trans (h : Alike s t) (h' : Alike t u) : Alike s u :=
  ⟨h.units.trans h'.units, h.exch.trans h'.exch, h.path.trans h'.path⟩
theorem symm (h : Alike s t) : Alike t s := ⟨h.units.symm, h.exch.symm, h.path.symm⟩

/-! #### What states alike have in common -/

/-- What is read of the units alone is the same. -/
theorem reads (h : Alike s t) {α : Sort*} (g : State → α) (hg : ∀ x, g (besides x) = g x := by exact fun _ => rfl) :
    g s = g t := by
  rw [← hg s, h.units, hg]

theorem mem (h : Alike s t) : s.mem = t.mem := h.reads State.mem
theorem latched (h : Alike s t) : s.latched = t.latched := h.reads State.latched
theorem ports (h : Alike s t) : s.ports = t.ports := h.reads State.ports
theorem gate (h : Alike s t) : s.gate = t.gate := h.reads State.gate
theorem yard (h : Alike s t) : s.yard = t.yard := h.reads State.yard
theorem bays (h : Alike s t) : s.bays = t.bays := h.reads State.bays
theorem water (h : Alike s t) : s.water = t.water := h.reads State.water
theorem table (h : Alike s t) : s.table = t.table := h.reads State.table
theorem tally (h : Alike s t) : s.tally = t.tally := h.reads State.tally
theorem clock (h : Alike s t) : s.clock = t.clock := h.reads State.clock
theorem part (h : Alike s t) : s.exch.part = t.exch.part := (congrArg ExchangeKept.part h.exch :)
theorem orderTaken (h : Alike s t) : s.exch.orderTaken = t.exch.orderTaken := (congrArg ExchangeKept.orderTaken h.exch :)
theorem bases (h : Alike s t) : s.path.bases = t.path.bases := (congrArg PathKept.bases h.path :)
theorem working (h : Alike s t) : Machine.working s = Machine.working t := by
  unfold Machine.working
  rw [h.part]
theorem sameUnits (h : Alike t s) : Machine.sameUnits s t := sameUnits_of_besides h.units

/-! #### Operations on states alike -/

/-- What asks for requests alone. -/
theorem of_posted (h : Alike s t) (hb : besides u = besides s) (hk : kept u = kept s) : Alike u t :=
  ⟨hb.trans h.units, (congrArg Kept.exch hk : exchangeKept u.exch = exchangeKept s.exch).trans h.exch,
    (congrArg Kept.path hk : pathKept u.path = pathKept s.path).trans h.path⟩

/-- A plain update of units: it reads and writes units alone. -/
theorem update (h : Alike s t) (f : State → State) (hf : ∀ x, f (besides x) = besides (f x) := by exact fun _ => rfl)
    (he : ∀ x, (f x).exch = x.exch := by exact fun _ => rfl) (hp : ∀ x, (f x).path = x.path := by exact fun _ => rfl) :
    Alike (f s) (f t) := by
  refine ⟨?_, by rw [he, he]; exact h.exch, by rw [hp, hp]; exact h.path⟩
  rw [← hf, ← hf]
  exact congrArg f h.units

theorem present (h : Alike s t) (u : UnitId) (i : Issue) : Alike (present u i s) t :=
  h.of_posted (besides_present ..) (kept_present ..)
theorem notify (h : Alike s t) (n : Notice) : Alike (notify n s) t := h.of_posted (besides_notify ..) (kept_notify ..)
theorem post (h : Alike s t) (r : Rec) : Alike (post r s) t := h.of_posted (besides_post ..) (kept_post ..)
theorem postLine (h : Alike s t) (k : Fin 64) : Alike (postLine k s) t := h.post _
theorem postVisit (h : Alike s t) (slot : Slot) : Alike (postVisit slot s) t := h.post _
theorem postChanged (h : Alike s t) (k : Fin 64) (a : State) : Alike (postChanged k a s) t :=
  h.of_posted (besides_postChanged ..) (kept_postChanged ..)
theorem postChangedLines (h : Alike s t) (ks : List (Fin 64)) (a : State) : Alike (postChangedLines ks a s) t :=
  h.of_posted (besides_postChangedLines ..) (kept_postChangedLines ..)

theorem setPort (h : Alike s t) (p : PortId) (f : Port → Port) : Alike (setPort p (f s.ports[p]) s) (putPort p f t) := by
  unfold Machine.setPort
  dsimp only
  split
  · exact (h.update (putPort p f)).postChanged _ _
  · exact h.update (putPort p f)
theorem setBayWith (h : Alike s t) (b : BayId) (f : Bay → Bay) : Alike (setBayWith b f s) (putBay b f t) :=
  (h.update (putBay b f)).postChanged _ _
theorem setTankWith (h : Alike s t) (k : TankId) (f : Tank → Tank) : Alike (setTankWith k f s) (putTank k f t) :=
  (h.update (putTank k f)).postChanged _ _
theorem setWater (h : Alike s t) (f : WaterUnit → WaterUnit) : Alike (setWater (f s.water) s) (putWater f t) :=
  (h.update (putWater f)).postChanged _ _
theorem setTally (h : Alike s t) (f : TallyUnit → TallyUnit) : Alike (setTally (f s.tally) s) (putTally f t) :=
  (h.update (putTally f)).postChanged _ _
theorem setTable (h : Alike s t) (f : TableUnit → TableUnit) : Alike (setTable (f s.table) s) (putTable f t) :=
  (h.update (putTable f)).postChanged _ _
theorem setVisit (h : Alike s t) (slot : Slot) (v : Option Visit) : Alike (setVisit slot v s) (putVisit slot v t) :=
  (h.update (putVisit slot v)).postVisit _
theorem setGrant (h : Alike s t) (b : BayId) (g : Option Grant) :
    Alike (setGrant b g s) (putWater (fun w => { w with grants := w.grants.set b g }) t) :=
  (h.update (putWater fun w => { w with grants := w.grants.set b g })).postChangedLines _ _
theorem drawn (h : Alike s t) : Alike (drawn s) (Machine.drawn t) := h.update Machine.drawn

theorem takeFrame (h : Alike s t) (p : PortId) : Alike (takeFrame p s) (putPort p (takeInbound t.latched) t) := by
  unfold Machine.takeFrame
  rw [h.latched]
  exact h.setPort p (takeInbound t.latched)

/-- A frame offered to an UP port with a place free. -/
theorem offer (h : Alike s t) {p : PortId} (f : QFrame) (hup : t.ports[p].link = .up)
    (hroom : t.ports[p].outbound.length < Config.outboundPlaces) :
    Alike (offer p f s) (putPort p (fun x => { x with outbound := x.outbound ++ [f] }) t) := by
  unfold Machine.offer
  dsimp only
  rw [if_pos (by rw [h.ports]; exact hup), if_pos (by rw [h.ports]; exact hroom)]
  exact h.setPort p fun x => { x with outbound := x.outbound ++ [f] }

/-- A frame offered to a port that is not UP is counted. -/
theorem offer_down (h : Alike s t) {p : PortId} (f : QFrame) (hdown : t.ports[p].link ≠ .up) :
    Alike (Machine.offer p f s) (putPort p (fun x => { x with outDiscarded := x.outDiscarded + 1 }) t) := by
  unfold Machine.offer
  dsimp only
  rw [if_neg (by rw [h.ports]; exact hdown)]
  exact h.setPort p fun x => { x with outDiscarded := x.outDiscarded + 1 }

/-- A run of the arbiter that finds no visit a bay (R83). -/
theorem arbiter_none (h : Alike s t) (hnone : nextCall t = none) : Alike (arbiter s) t := by
  unfold Machine.arbiter
  split
  · exact h
  · have hcall : nextCall s = none := (h.reads nextCall).trans hnone
    unfold arbiterCalls
    rw [hcall]
    exact h

end Alike

/-! ### The end of a row (R168, R43) -/

theorem linkUp_putPort {p q : PortId} {f : Port → Port} {s : State} (hf : (f s.ports[p]).link = s.ports[p].link) :
    linkUp q (putPort p f s) = linkUp q s := by
  unfold linkUp putPort
  simp only [Fin.getElem_fin, Vector.getElem_set]
  split
  · next hpq =>
    obtain rfl : p = q := Fin.ext hpq
    exact congrArg (fun l => l == LinkState.up) hf
  · rfl

/-- The pause flag stands at its threshold, so that the pause has nothing to do (R168). -/
def steady (s : State) : Prop :=
  s.tally.pause = false ∧ pendingCount s < Config.pauseCount ∨ s.tally.pause = true ∧ Config.pauseCount ≤ pendingCount s

theorem steady_of_calm {s : State} (h : calm s) : steady s := by
  obtain ⟨-, -, -, hpause, hfew⟩ := h
  exact Or.inl ⟨hpause, hfew⟩

theorem pauseCheck_of_steady {s : State} (h : steady s) : pauseCheck s = s := by
  rcases h with ⟨hpause, hfew⟩ | ⟨hpause, hmany⟩
  · exact pauseCheck_eq_self hpause hfew
  · simp [pauseCheck, hmany, hpause]

/-- An update after which an event's end has nothing left to do: the pause stands, and no port has been lost. -/
structure Ended (s u : State) : Prop where
  pause : u.tally.pause = s.tally.pause
  pending : pendingCount u = pendingCount s
  links : ∀ p, linkUp p s = true → linkUp p u = true

/-- An update that leaves the ports alone, and of the Tally Unit the pending list and the pause flag. -/
theorem Ended.of_ports {s u : State} (hports : u.ports = s.ports := by rfl)
    (hpause : u.tally.pause = s.tally.pause := by rfl) (hpending : pendingCount u = pendingCount s := by rfl) : Ended s u :=
  ⟨hpause, hpending, fun p hp => by unfold linkUp; rw [hports]; exact hp⟩

theorem Ended.tidy {s t u : State} (he : Ended s u) (h : Alike t u) (hs : steady s) : tidy s t = t := by
  have hsteady : steady t := by
    have hpause : t.tally.pause = s.tally.pause := (h.reads fun x => x.tally.pause).trans he.pause
    have hpending : pendingCount t = pendingCount s := (h.reads pendingCount).trans he.pending
    unfold steady
    rw [hpause, hpending]
    exact hs
  rw [Machine.tidy, pauseCheck_of_steady hsteady]
  refine settleLost_eq_self fun p hp => ?_
  rw [h.reads (linkUp p)]
  exact he.links p (List.mem_filter.1 hp).2

/-- The end of an event in a calm part that runs on. -/
theorem Ended.conclude {s t u : State} (he : Ended s u) (h : Alike t u) (hs : steady s) (hpart : u.exch.part = .running) :
    conclude s t = t := by
  unfold Machine.conclude
  rw [he.tidy h hs, windDown_eq_self (windDownMet_eq_false (by rw [h.part, hpart]; simp))]

/-- An order's row with the pause at rest: its effect, its end, and the next fetch. -/
theorem Ended.orderRow_eq {kind : Nat} {entry : List Byte} {s u v : State} (h : orderRead kind entry s) (hs : steady s)
    {want : Nat → Bool} (hwant : want kind = true) {f : List Byte → State → Result × State} {r : Result}
    (hf : f entry (orderTakenUp entry s) = (r, u)) (ha : Alike u v) (he : Ended s v) (hpart : v.exch.part = .running) :
    orderRow want f s = fetchOrder (finishOrder r u) := by
  have htidy : Machine.tidy (orderTakenUp entry s) u = u := Ended.tidy ⟨he.pause, he.pending, he.links⟩ ha hs
  rw [Machine.orderRow_eq h hwant hf (by rw [htidy, ha.part]; exact hpart), htidy]

/-- An order's row in a calm part: its effect, its result, and nothing more of the units. -/
theorem Ended.orderRow {kind : Nat} {entry : List Byte} {s u v : State} (h : orderReady kind entry s)
    {want : Nat → Bool} (hwant : want kind = true) {f : List Byte → State → Result × State} {r : Result}
    (hf : f entry (orderTakenUp entry s) = (r, u)) (ha : Alike u v) (he : Ended s v)
    (hpart : v.exch.part = .running) (htaken : v.exch.orderTaken = s.exch.orderTaken)
    (hbases : v.path.bases = s.path.bases) :
    answered r s (orderRow want f s) ∧ sameUnits v (orderRow want f s) := by
  obtain ⟨hcalm, hread⟩ := h
  rw [Ended.orderRow_eq hread (steady_of_calm hcalm) hwant hf ha he hpart]
  exact ⟨answered_order_end (ha.orderTaken.trans htaken) (ha.bases.trans hbases),
    sameUnits_of_besides ((besides_order_end ..).trans ha.units)⟩

/-! ### A grant's entry, step by step (R118, R119, R120) -/

/-- A tank's list takes a bay's grant. -/
def listGrant (b : BayId) (src : Source) (s : State) : State :=
  match src with
  | .tank k => setTank k { s.water.tanks[k] with grants := s.water.tanks[k].grants ++ [b] } s
  | .fresh => s
  | .none => s

/-- The first grant from the reserve in a depot day is noted. -/
def noteReserve (b : BayId) (reserve : Bool) (s : State) : State :=
  if reserve && !s.water.reserveGiven then
    notify { kind := .allowanceReserve, subject := b.val, first := freshDrawn s, second := s.latched.freshAllowance }
      { s with water := { s.water with reserveGiven := true } }
  else s

theorem issueGrant_eq (b : BayId) (src : Source) (l : Nat) (r : Bool) (s : State) : issueGrant b src l r s =
    noteReserve b r (setGrant b (some (grantMade src l r s)) (listGrant b src
      { s with water := { s.water with counter := nextGrant s.water.counter } })) := by
  cases src <;> rfl

/-! ### A port that is DOWN while others are lost -/

/-- What the plant's port keeps of the Water Unit: the run, the pump queue, each tank's quality and pump flags. -/
def plantSide (w : WaterUnit) : Option PumpReq × Option Nat × List PumpReq × (TankId → Quality × Bool × Bool) :=
  (w.run, w.pumpTimer, w.pumpQueue, fun k => (w.tanks[k].quality, w.tanks[k].pumpPending, w.tanks[k].pumpRunning))

/-- What is asked of a port that is DOWN: that no frame be offered to it, and that the plant's records stand. -/
structure Sparing where
  exact : Prop
  plant : Prop

/-- The port is not UP; if no frame is to be offered to it, no request for water waits at its bay. -/
structure Downed (c : Sparing) (p : PortId) (s : State) : Prop where
  link : s.ports[p].link ≠ .up
  waits : c.exact → ∀ e ∈ s.water.waitList, bayPort e.bay ≠ p
  plant : c.plant → p = plantPort

/-- The port's record stands but for its count of frames discarded, no request for water is added, and the plant's own
records stand. -/
structure Spared (c : Sparing) (p : PortId) (s t : State) : Prop where
  port : { t.ports[p] with outDiscarded := 0 } = { s.ports[p] with outDiscarded := 0 }
  same : c.exact → t.ports[p] = s.ports[p]
  waits : ∀ e ∈ t.water.waitList, e ∈ s.water.waitList
  plant : c.plant → plantSide t.water = plantSide s.water

theorem linkUp_of_eligible {b : BayId} {v : Visit} {s : State} (h : eligible b v s = true) :
    s.ports[bayPort b].link = .up := (eligible_iff.1 h).2.2.1

namespace Spared

variable {c : Sparing} {p : PortId} {s t u : State}

theorem refl : Spared c p s s := ⟨rfl, fun _ => rfl, fun _ h => h, fun _ => rfl⟩
theorem trans (h : Spared c p s t) (h' : Spared c p t u) : Spared c p s u :=
  ⟨h'.port.trans h.port, fun hx => (h'.same hx).trans (h.same hx), fun e he => h.waits e (h'.waits e he),
    fun hp => (h'.plant hp).trans (h.plant hp)⟩

theorem link (h : Spared c p s t) : t.ports[p].link = s.ports[p].link := (congrArg Port.link h.port :)

theorem downed (h : Spared c p s t) (hd : Downed c p s) : Downed c p t :=
  ⟨by rw [h.link]; exact hd.link, fun hx e he => hd.waits hx e (h.waits e he), hd.plant⟩

/-- Another state with the same ports and the same Water Unit. -/
theorem of_eq (h : Spared c p s t) (hports : u.ports = t.ports) (hwater : u.water = t.water) : Spared c p s u :=
  h.trans ⟨by rw [hports], fun _ => by rw [hports], fun e he => by rwa [hwater] at he, fun _ => by rw [hwater]⟩

theorem of_besides (h : Spared c p s t) (hu : besides u = besides t) : Spared c p s u :=
  h.of_eq (ports_of_besides hu) (water_of_besides hu)

section Steps

variable (h : Spared c p s t)
include h

theorem notify (n : Notice) : Spared c p s (notify n t) := h.of_besides (besides_notify ..)
theorem postVisit (slot : Slot) : Spared c p s (postVisit slot t) := h.of_besides (besides_postVisit ..)
theorem setBayWith (b : BayId) (f : Bay → Bay) : Spared c p s (setBayWith b f t) :=
  (h.of_eq rfl rfl : Spared c p s { t with bays := t.bays.set b (f t.bays[b]) }).of_besides (besides_setBay ..)
theorem setVisit (slot : Slot) (v : Option Visit) : Spared c p s (setVisit slot v t) :=
  (h.of_eq rfl rfl : Spared c p s (putVisit slot v t)).of_besides (besides_setVisit ..)
theorem putGate (g : GateUnit) : Spared c p s (putGate g t) := h.of_eq rfl rfl
theorem drawn : Spared c p s (drawn t) := h.of_eq rfl rfl

theorem withWater {w : WaterUnit} (hwaits : ∀ e ∈ w.waitList, e ∈ t.water.waitList)
    (hplant : c.plant → plantSide w = plantSide t.water) : Spared c p s { t with water := w } :=
  h.trans ⟨rfl, fun _ => rfl, hwaits, hplant⟩
theorem setWater {w : WaterUnit} (hwaits : ∀ e ∈ w.waitList, e ∈ t.water.waitList)
    (hplant : c.plant → plantSide w = plantSide t.water) : Spared c p s (setWater w t) :=
  (h.withWater hwaits hplant).of_besides (besides_setWater ..)
theorem setGrant (b : BayId) (g : Option Grant) : Spared c p s (setGrant b g t) :=
  (h.withWater (w := { t.water with grants := t.water.grants.set b g }) (fun _ he => he) fun _ => rfl).of_besides
    (besides_setGrant ..)
/-- A tank's record written: one that is not the plant's port's concern. -/
theorem setTank {k : TankId} {x : Tank} (hx : c.plant → (x.quality, x.pumpPending, x.pumpRunning) =
      (t.water.tanks[k].quality, t.water.tanks[k].pumpPending, t.water.tanks[k].pumpRunning)) :
    Spared c p s (setTank k x t) := by
  refine (h.withWater (w := { t.water with tanks := t.water.tanks.set k x }) (fun _ he => he) fun hp => ?_).of_besides
    (besides_setTank ..)
  unfold plantSide
  congr 3
  funext j
  simp only [Fin.getElem_fin, Vector.getElem_set]
  split
  · next hj =>
    rw [hx hp]
    simp only [Fin.getElem_fin, hj]
  · rfl

theorem setPort {q : PortId} (hq : q ≠ p) (x : Port) : Spared c p s (setPort q x t) := by
  have hport : (t.ports.set q x)[p] = t.ports[p] := by
    rw [Fin.getElem_fin, Vector.getElem_set_ne _ _ (fun hv => hq (Fin.ext hv))]
    rfl
  exact (h.trans ⟨by rw [hport], fun _ => hport, fun _ he => he, fun _ => rfl⟩ :
    Spared c p s { t with ports := t.ports.set q x }).of_besides (besides_setPort ..)

theorem portDown {q : PortId} (hq : q ≠ p) (r : DownReason) : Spared c p s (portDown q r t) := (h.setPort hq _).notify _

/-- A frame offered to the port itself is counted and no more. -/
theorem offer (hd : Downed c p s) {q : PortId} (hq : c.exact → q ≠ p) (f : QFrame) : Spared c p s (offer q f t) := by
  unfold Machine.offer
  dsimp only
  by_cases hqp : q = p
  · subst hqp
    rw [if_neg (h.downed hd).link]
    have hport : (t.ports.set q { t.ports[q] with outDiscarded := t.ports[q].outDiscarded + 1 })[q] =
        { t.ports[q] with outDiscarded := t.ports[q].outDiscarded + 1 } := Vector.getElem_set_self ..
    exact (h.trans ⟨by rw [hport], fun hx => absurd rfl (hq hx), fun _ he => he, fun _ => rfl⟩ :
      Spared c q s { t with ports := t.ports.set q _ }).of_besides (besides_setPort ..)
  · split
    · split
      · exact h.setPort hqp _
      · exact (h.setPort hqp _).portDown hqp _
    · exact h.setPort hqp _

end Steps

/-! #### The yard -/

theorem enqueue (h : Spared c p s t) (slot : Slot) (v : Visit) : Spared c p s (enqueue slot v t) := h.of_eq rfl rfl

theorem callVisit (h : Spared c p s t) (hd : Downed c p s) {b : BayId} (hb : bayPort b ≠ p) (slot : Slot) (v : Visit) :
    Spared c p s (callVisit slot v b t) := by
  have hleft : Spared c p s (leaveQueue slot t) := h.of_eq rfl rfl
  exact ((hleft.setVisit _ _).setBayWith _ _).offer hd (fun _ => hb) _

theorem arbiterCalls (h : Spared c p s t) (hd : Downed c p s) (n : Nat) : Spared c p s (arbiterCalls n t) := by
  induction n generalizing t with
  | zero => exact h
  | succ n ih =>
    unfold Machine.arbiterCalls
    split
    · exact h
    · next slot v b hcall =>
      obtain ⟨_, _, _, _, helig, _⟩ := nextCall_eq_some_iff.1 hcall
      have hup := linkUp_of_eligible helig
      exact ih (h.callVisit hd (fun hb => (h.downed hd).link (hb ▸ hup)) slot v)

theorem arbiter (h : Spared c p s t) (hd : Downed c p s) : Spared c p s (arbiter t) := by
  unfold Machine.arbiter
  split
  · exact h
  · exact h.arbiterCalls hd 8

theorem arbiterIfFree (h : Spared c p s t) (hd : Downed c p s) (b : BayId) : Spared c p s (arbiterIfFree b t) := by
  unfold Machine.arbiterIfFree
  split
  · exact h.arbiter hd
  · exact h

theorem withdrawCall (h : Spared c p s t) (hd : Downed c p s) (slot : Slot) (v : Visit)
    (cause : Nat) : Spared c p s (withdrawCall slot v cause t) := by
  have hput : Spared c p s (requeue slot v t) := h.of_eq rfl rfl
  exact ((hput.notify _).arbiter hd).postVisit slot

/-! #### Sessions and water -/

theorem endSession (h : Spared c p s t) (hd : Downed c p s) (b : BayId) (a : Option AbortReason) :
    Spared c p s (endSession b a t) := by
  unfold Machine.endSession
  split
  · exact h
  · next x _ =>
    dsimp only
    have hbay := h.setBayWith b (bayAfter a)
    refine arbiterIfFree ?_ hd b
    split <;> split
    · exact hbay
    · exact hbay.setVisit _ _
    · exact hbay.notify _
    · exact (hbay.setVisit _ _).notify _

theorem runPart (h : Spared c p s t) (hd : Downed c p s) {b : BayId} (hb : c.exact → bayPort b ≠ p) (r : StageRun)
    (x : Part) : Spared c p s (runPart b r x t) := (h.setBayWith _ _).offer hd hb _

theorem removeGrant (h : Spared c p s t) (b : BayId) (g : Grant) (n : Nat) : Spared c p s (removeGrant b g n t) := by
  unfold Machine.removeGrant
  refine Spared.of_besides (Spared.setGrant ?_ b none) (besides_postChangedLines ..)
  split
  · exact h.setTank fun _ => rfl
  · exact h.withWater (fun _ he => he) fun _ => rfl
  · exact h

theorem listGrant (h : Spared c p s t) (b : BayId) (src : Source) : Spared c p s (listGrant b src t) := by
  unfold Machine.listGrant
  split
  · exact h.setTank fun _ => rfl
  · exact h
  · exact h

theorem noteReserve (h : Spared c p s t) (b : BayId) (r : Bool) : Spared c p s (noteReserve b r t) := by
  unfold Machine.noteReserve
  split
  · refine Spared.notify (Spared.withWater h ?_ ?_) _
    · exact fun _ he => he
    · exact fun _ => rfl
  · exact h

theorem issueGrant (h : Spared c p s t) (b : BayId) (src : Source) (l : Nat) (r : Bool) :
    Spared c p s (issueGrant b src l r t) := by
  rw [issueGrant_eq]
  have hcount : Spared c p s { t with water := { t.water with counter := nextGrant t.water.counter } } :=
    h.withWater (fun _ he => he) fun _ => rfl
  exact ((hcount.listGrant b src).setGrant b _).noteReserve b r

theorem refuseWater (h : Spared c p s t) (b : BayId) (l : Nat) : Spared c p s (refuseWater b l t) := by
  unfold Machine.refuseWater
  split
  · exact h
  · refine Spared.notify (Spared.withWater h ?_ ?_) _
    · exact fun _ he => he
    · exact fun _ => rfl

theorem withdraw (h : Spared c p s t) (b : BayId) : Spared c p s (withdraw b t) :=
  h.setWater (fun _ he => (List.mem_filter.1 he).1) fun _ => rfl

theorem takeRetried (h : Spared c p s t) (hd : Downed c p s) {b : BayId} (hb : c.exact → bayPort b ≠ p) :
    Spared c p s (takeRetried b t) := by
  unfold Machine.takeRetried
  split
  · exact h
  · split
    · split
      · exact h
      · exact (h.removeGrant b _ 0).endSession hd b _
    · exact h.runPart hd hb _ _

theorem retryEntry (h : Spared c p s t) (hd : Downed c p s) {e : WaitEntry} (he : c.exact → bayPort e.bay ≠ p) :
    Spared c p s (retryEntry e t) := by
  unfold Machine.retryEntry
  split
  · exact ((h.withdraw _).issueGrant _ _ _ _).takeRetried hd he
  · exact h.refuseWater _ _

theorem retry (h : Spared c p s t) (hd : Downed c p s) : Spared c p s (retry t) := by
  have hwaits := (h.downed hd).waits
  unfold Machine.retry
  generalize t.water.waitList = l at hwaits
  induction l generalizing t with
  | nil => exact h
  | cons e l ih =>
    exact ih (h.retryEntry hd fun hx => hwaits hx e (List.mem_cons_self ..)) fun hx x hxl =>
      hwaits hx x (List.mem_cons_of_mem _ hxl)

theorem pumpLook (h : Spared c p s t) (hd : Downed c p s) : Spared c p s (pumpLook t) := by
  unfold Machine.pumpLook
  split
  · next hlook =>
    have hup : t.ports[plantPort].link = .up := by
      simp only [Bool.and_eq_true, linkUp, beq_iff_eq] at hlook
      exact hlook.1.2
    have hp : plantPort ≠ p := fun hp => (h.downed hd).link (hp ▸ hup)
    have hno : ¬ c.plant := fun hc => hp (hd.plant hc).symm
    split
    · exact h
    · next r _ =>
      have htank : Spared c p s (setTankWith r.tank (fun x => { x with pumpPending := false, pumpRunning := true }) t) :=
        h.setTank fun hp' => absurd hp' hno
      refine Spared.offer (Spared.setWater htank ?_ fun hp' => absurd hp' hno) hd (fun _ => hp) _
      exact fun _ he => he
  · exact h

theorem handSettlement (h : Spared c p s t) (hd : Downed c p s) (b : BayId) (x : Part) :
    Spared c p s (handSettlement b x t) := by
  unfold Machine.handSettlement settleGrant
  split
  · exact h
  · split
    · exact h
    · exact ((h.removeGrant b _ _).retry hd).pumpLook hd

/-! #### The role units of other ports -/

theorem bayLost (h : Spared c p s t) (hd : Downed c p s) (b : BayId) : Spared c p s (bayLost b t) := by
  have hpart : ∀ {u}, Spared c p s u → Spared c p s (portLostPart b u) := fun hu => by
    unfold Machine.portLostPart
    split
    · exact hu.endSession hd b _
    · exact ((hu.setBayWith b _).handSettlement hd b _).endSession hd b _
  have hcall : ∀ {u}, Spared c p s u → Spared c p s (portLostCall b u) := fun hu => by
    unfold Machine.portLostCall
    dsimp only
    split
    · exact hu.setBayWith b _
    · exact (hu.setBayWith b _).withdrawCall hd _ _ _
  unfold Machine.bayLost
  dsimp only
  have hgone := h.setBayWith b fun x => { x with presence := .unknown, lastTag := none }
  generalize Machine.setBayWith b (fun x => { x with presence := .unknown, lastTag := none }) t = u at hgone ⊢
  split
  · exact hcall hgone
  · exact (hgone.withdraw b).endSession hd b _
  · exact hpart hgone
  · exact hpart hgone
  · exact hgone.setBayWith b _
  all_goals exact hgone

theorem entryLost (h : Spared c p s t) : Spared c p s (entryLost t) := by
  unfold Machine.entryLost discardPair pairDiscarded
  split
  · exact h.putGate _
  · exact (h.putGate _).notify _

theorem tankLost (h : Spared c p s t) (hp : ¬ c.plant) (k : TankId) : Spared c p s (tankLost k t) := by
  unfold Machine.tankLost
  split
  · exact (Spared.notify (t := setTankWith k _ t) (h.setTank fun hp' => absurd hp' hp) _).drawn.drawn
  · exact h

theorem joinPump (h : Spared c p s t) (hp : ¬ c.plant) (k : TankId) (kind : PumpKind) :
    Spared c p s (joinPump k kind t) := by
  have htank : Spared c p s (setTankWith k (fun x => { x with pumpPending := true }) t) :=
    h.setTank fun hp' => absurd hp' hp
  refine Spared.setWater htank ?_ fun hp' => absurd hp' hp
  exact fun _ he => he

theorem failRun (h : Spared c p s t) (hd : Downed c p s) (hp : ¬ c.plant) (cause : Nat) :
    Spared c p s (failRun cause t) := by
  unfold Machine.failRun
  split
  · exact h
  · next r _ =>
    dsimp only
    have hstopped : Spared c p s (Machine.setWater { t.water with run := none, pumpTimer := none } t) :=
      h.setWater (fun _ he => he) fun hp' => absurd hp' hp
    have htank : Spared c p s (setTankWith r.tank (fun x => { x with pumpRunning := false })
        (Machine.setWater { t.water with run := none, pumpTimer := none } t)) :=
      hstopped.setTank fun hp' => absurd hp' hp
    exact (((htank.joinPump hp r.tank r.kind).notify _).retry hd).pumpLook hd

theorem plantLost (h : Spared c p s t) (hd : Downed c p s) (hp : ¬ c.plant) : Spared c p s (plantLost t) := by
  have htanks : ∀ l : List TankId, Spared c p s (l.foldl (fun acc k => Machine.tankLost k acc) t) := fun l => by
    induction l generalizing t with
    | nil => exact h
    | cons k l ih => exact ih (h.tankLost hp k)
  exact (htanks allTanks).failRun hd hp 3

theorem roleLost (h : Spared c p s t) (hd : Downed c p s) {q : PortId} (hq : q ≠ p) : Spared c p s (roleLost q t) := by
  unfold Machine.roleLost
  split
  · exact h.entryLost
  split
  · exact h.putGate _
  split
  · next hplant => exact h.plantLost hd fun hc => hq (hplant.trans (hd.plant hc).symm)
  split
  · exact h.bayLost hd _
  · exact h

/-- Every other port lost within the event: its role unit is told, and the port that is DOWN stands. -/
theorem settlePorts (h : Spared c p s t) (hd : Downed c p s) (n : Nat) {ups : List PortId} (hp : p ∉ ups) :
    Spared c p s (settlePorts n ups t) := by
  induction n generalizing t ups with
  | zero => exact h
  | succ n ih =>
    unfold Machine.settlePorts
    split
    · exact h
    · next q hq =>
      exact ih (h.roleLost hd fun he => hp (he ▸ List.mem_of_find?_eq_some hq)) fun hin => hp (List.mem_of_mem_erase hin)

end Spared

end Sys2Proof.Machine

/-! PROOFS. Notices asked for one after another within an event, while the request queue has room (R14, R33). -/

namespace Sys2Proof.Machine

/-! ### Room in the request queue (R14) -/

/-- Nothing is held, nothing waits, and so many requests more find their places. -/
structure Roomy (n : Nat) (s : State) : Prop where
  held : s.path.held = []
  late : nothingLate s = true
  room : s.path.queue.length + n ≤ Config.queuePlaces

namespace Roomy

variable {n m : Nat} {s t : State}

theorem mono (h : Roomy n s) (hm : m ≤ n) : Roomy m s := ⟨h.held, h.late, by have := h.room; omega⟩

theorem free (h : Roomy n s) (u : UnitId) : busy u s = false := busy_eq_false h.held h.late u

theorem congr (h : Roomy n s) (hheld : t.path.held = s.path.held) (harr : t.path.arrived = s.path.arrived)
    (hq : t.path.queue = s.path.queue) : Roomy n t :=
  ⟨hheld.trans h.held, by unfold nothingLate; rw [harr]; exact h.late, by rw [hq]; exact h.room⟩

theorem makeWay (h : Roomy n s) (u : UnitId) (r : Rec) : Roomy n (makeWay u r s) := by
  refine h.congr ?_ rfl rfl
  show giveWay u r s.path.held = s.path.held
  rw [h.held]
  rfl

/-- A request finds its place, or merges into one that has. -/
theorem present (h : Roomy (n + 1) s) (u : UnitId) (i : Issue) : Roomy n (present u i s) := by
  obtain ⟨hheld, hlate, hroom⟩ := h
  have hpresented : presented i s = joinQueue i s := by simp [presented, hheld]
  unfold Machine.present
  rw [hpresented]
  cases hj : joinQueue i s with
  | some q =>
    refine ⟨hheld, hlate, ?_⟩
    show q.length + n ≤ Config.queuePlaces
    rcases Option.or_eq_some_iff.1 hj with hm | ⟨-, ha⟩
    · cases i with
      | refresh r => rw [length_mergeRefresh hm]; omega
      | read _ _ _ => cases hm
      | place _ _ => cases hm
    · unfold appendIssue at ha
      split at ha
      · cases ha
        rw [List.length_append, List.length_singleton]
        omega
      · cases ha
  | none =>
    have hlt : s.path.queue.length < Config.queuePlaces := by omega
    simp [joinQueue, appendIssue, hlt] at hj

theorem post (h : Roomy (n + 1) s) (r : Rec) : Roomy n (post r s) := by
  unfold Machine.post
  rw [h.free]
  exact h.present _ _

theorem postChanged (h : Roomy (n + 1) s) (k : Fin 64) (a : State) : Roomy n (postChanged k a s) := by
  unfold Machine.postChanged
  split
  · exact h.mono (by omega)
  · exact h.post _

theorem writeNotice (h : Roomy (n + 2) s) (x : Notice) (asked : Stamp) : Roomy n (writeNotice x asked s) := by
  have hkeep : ∀ {u : State} (pos : Option Count), Roomy (n + 1) u → Roomy (n + 1) (keepDropPos x pos u) := fun pos hu =>
    hu.congr (queue_keepDropPos_held ..) (arrived_keepDropPos ..) (queue_keepDropPos ..)
  unfold Machine.writeNotice
  split
  · have hplaced : Roomy (n + 1) (placeTold .exchange (.line 0)
        (s.path.bases.noticeRing + 16 * (s.exch.producer.toNat % Config.noticeEntries)) (x.bytes asked) s) :=
      (h.present .exchange (.place _ _)).makeWay .exchange (.line 0)
    refine (hkeep _ ?_).present _ _
    exact hplaced.congr rfl rfl rfl
  · have hdrop := hkeep (u := { s with exch := { s.exch with overrun := true } }) none
      ((h.mono (by omega) : Roomy (n + 1) s).congr rfl rfl rfl)
    dsimp only
    split
    · exact hdrop.mono (by omega)
    · exact hdrop.present _ _

end Roomy

/-! ### The side of the state that a notice reads (R33) -/

/-- The map and the bases, the Exchange Unit and the clock. -/
def ringSide (s : State) : RegionMap × Bases × ExchangeUnit × Stamp := (s.path.map, s.path.bases, s.exch, s.clock.now)

section RingSide

theorem ringSide_present (u : UnitId) (i : Issue) (s : State) : ringSide (present u i s) = ringSide s := by
  simp only [ringSide, map_present, bases_present, exch_present, clock_present]
theorem ringSide_post (r : Rec) (s : State) : ringSide (post r s) = ringSide s := by
  unfold post
  split
  · rfl
  · exact ringSide_present ..
theorem ringSide_postChanged (k : Fin 64) (a s : State) : ringSide (postChanged k a s) = ringSide s := by
  unfold postChanged
  split
  · rfl
  · exact ringSide_post ..

end RingSide

/-- An event under way: `n` requests find room, `k` notices have been asked for since `s`, all at once. -/
structure Ringing (n k : Nat) (s t : State) : Prop where
  room : Roomy n t
  map : t.path.map = s.path.map
  bases : t.path.bases = s.path.bases
  now : t.clock.now = s.clock.now
  accepted : accepted t = true
  taken : t.exch.taken = s.exch.taken
  count : t.exch.producer = s.exch.producer + BitVec.ofNat 16 (min k (256 - dist s.exch.taken s.exch.producer))

namespace Ringing

variable {n m k : Nat} {s t u : State}

theorem start (h : Roomy n s) (ha : Machine.accepted s = true) : Ringing n 0 s s :=
  ⟨h, rfl, rfl, rfl, ha, rfl, by simp⟩

/-- In a calm part in RUNNING whose queue is half empty there is room for 32 requests. -/
theorem calm (hc : calm s) (hpart : s.exch.part = .running) (hq : s.path.queue.length ≤ 32) : Ringing 32 0 s s := by
  obtain ⟨hheld, hlate, -⟩ := hc
  refine start ⟨hheld, hlate, ?_⟩ (by simp [Machine.accepted, working, hpart])
  show s.path.queue.length + 32 ≤ 64
  omega

theorem free (h : Ringing n k s t) (u : UnitId) : busy u t = false := h.room.free u

theorem mono (h : Ringing n k s t) (hm : m ≤ n) : Ringing m k s t := { h with room := h.room.mono hm }

/-- A change that leaves the side a notice reads. -/
theorem congr (h : Ringing n k s t) (hroom : Roomy m u) (hside : ringSide u = ringSide t) : Ringing m k s u := by
  simp only [ringSide, Prod.mk.injEq] at hside
  obtain ⟨hmap, hbases, hexch, hnow⟩ := hside
  exact { room := hroom, map := hmap.trans h.map, bases := hbases.trans h.bases, now := hnow.trans h.now,
          accepted := (accepted_congr (by rw [hexch]) hmap).trans h.accepted, taken := by rw [hexch]; exact h.taken,
          count := by rw [hexch]; exact h.count }

/-- An update of the units alone. -/
theorem update (h : Ringing n k s t) (hpath : u.path = t.path) (hexch : u.exch = t.exch)
    (hnow : u.clock.now = t.clock.now) : Ringing n k s u :=
  h.congr (h.room.congr (by rw [hpath]) (by rw [hpath]) (by rw [hpath])) (by simp only [ringSide, hpath, hexch, hnow])

theorem postChanged (h : Ringing (n + 1) k s t) (j : Fin 64) (a : State) : Ringing n k s (postChanged j a t) :=
  h.congr (h.room.postChanged j a) (ringSide_postChanged ..)
theorem post (h : Ringing (n + 1) k s t) (r : Rec) : Ringing n k s (post r t) :=
  h.congr (h.room.post r) (ringSide_post ..)
theorem refreshNow (h : Ringing (n + 1) k s t) (r : Rec) : Ringing n k s (refreshNow r t) :=
  h.congr (h.room.present _ _) (ringSide_present ..)
theorem present (h : Ringing (n + 1) k s t) (x : UnitId) (i : Issue) : Ringing n k s (present x i t) :=
  h.congr (h.room.present _ _) (ringSide_present ..)
theorem postVisit (h : Ringing (n + 1) k s t) (slot : Slot) : Ringing n k s (postVisit slot t) := h.post _
theorem setPort (h : Ringing (n + 1) k s t) (p : PortId) (x : Port) : Ringing n k s (setPort p x t) := by
  have hset : Ringing (n + 1) k s { t with ports := t.ports.set p x } := h.update rfl rfl rfl
  unfold Machine.setPort
  dsimp only
  split
  · exact hset.postChanged _ _
  · exact hset.mono (by omega)
theorem takeFrame (h : Ringing (n + 1) k s t) (p : PortId) : Ringing n k s (takeFrame p t) := h.setPort p _
theorem setBay (h : Ringing (n + 1) k s t) (b : BayId) (x : Bay) : Ringing n k s (setBay b x t) :=
  (h.update rfl rfl rfl : Ringing (n + 1) k s { t with bays := t.bays.set b x }).postChanged _ _
theorem setBayWith (h : Ringing (n + 1) k s t) (b : BayId) (f : Bay → Bay) : Ringing n k s (setBayWith b f t) :=
  h.setBay b _
theorem setTank (h : Ringing (n + 1) k s t) (j : TankId) (x : Tank) : Ringing n k s (setTank j x t) :=
  (h.update rfl rfl rfl : Ringing (n + 1) k s { t with water := { t.water with tanks := t.water.tanks.set j x } }).postChanged
    _ _
theorem setTankWith (h : Ringing (n + 1) k s t) (j : TankId) (f : Tank → Tank) : Ringing n k s (setTankWith j f t) :=
  h.setTank j _
theorem setWater (h : Ringing (n + 1) k s t) (w : WaterUnit) : Ringing n k s (setWater w t) :=
  (h.update rfl rfl rfl : Ringing (n + 1) k s { t with water := w }).postChanged _ _
theorem setTally (h : Ringing (n + 1) k s t) (x : TallyUnit) : Ringing n k s (setTally x t) :=
  (h.update rfl rfl rfl : Ringing (n + 1) k s { t with tally := x }).postChanged _ _
theorem setTable (h : Ringing (n + 1) k s t) (x : TableUnit) : Ringing n k s (setTable x t) :=
  (h.update rfl rfl rfl : Ringing (n + 1) k s { t with table := x }).postChanged _ _
theorem setGrant (h : Ringing (n + 6) k s t) (b : BayId) (g : Option Grant) : Ringing n k s (setGrant b g t) :=
  have hset : Ringing (n + 6) k s { t with water := { t.water with grants := t.water.grants.set b g } } :=
    h.update rfl rfl rfl
  (((((hset.postChanged _ _).postChanged _ _).postChanged _ _).postChanged _ _).postChanged _ _).postChanged _ _
theorem setVisit (h : Ringing (n + 1) k s t) (slot : Slot) (v : Option Visit) : Ringing n k s (setVisit slot v t) :=
  (h.update rfl rfl rfl : Ringing (n + 1) k s (putVisit slot v t)).postVisit slot
theorem drawn (h : Ringing n k s t) : Ringing n k s (drawn t) := h.update rfl rfl rfl

/-- The notices given move the producer count until the ring is full. -/
theorem dist_eq (h : Ringing n k s t) : dist t.exch.taken t.exch.producer =
    dist s.exch.taken s.exch.producer + min k (256 - dist s.exch.taken s.exch.producer) := by
  rw [h.count, h.taken]
  generalize hm : min k (256 - dist s.exch.taken s.exch.producer) = m
  have hle : m = 0 ∨ dist s.exch.taken s.exch.producer + m ≤ 256 := by omega
  clear hm
  unfold dist at hle ⊢
  have hp := s.exch.producer.isLt
  have ht := s.exch.taken.isLt
  rcases hle with rfl | hle
  · simp
  · simp only [BitVec.toNat_sub, BitVec.toNat_add, BitVec.toNat_ofNat] at hle ⊢
    omega

theorem below (h : Ringing n k s t) (hk : dist s.exch.taken s.exch.producer + k ≤ 256) :
    t.exch.producer = s.exch.producer + BitVec.ofNat 16 k := by
  rw [h.count, min_eq_left (by omega)]

/-- Whether the ring has a place for the next notice. -/
theorem place_iff (h : Ringing n k s t) : dist t.exch.taken t.exch.producer < Config.noticeEntries ↔
    dist s.exch.taken s.exch.producer + k < 256 := by
  rw [h.dist_eq]
  show _ < 256 ↔ _
  omega

/-- The notice asked for next, written at once: the positions after it. -/
theorem notify (h : Ringing (n + 2) k s t) (x : Notice) : Ringing n (k + 1) s (notify x t) := by
  rw [notify_of_free h.accepted (h.free _)]
  have hreg := registers_writeNotice x t.clock.now t
  have hset := exchangeSet_writeNotice x t.clock.now t
  have hkept := kept_writeNotice x t.clock.now t
  have hexch := exch_writeNotice x t.clock.now t
  have htaken : (writeNotice x t.clock.now t).exch.taken = t.exch.taken := taken_writeNotice ..
  refine { room := h.room.writeNotice x _, map := (congrArg PathUnit.map hreg :).trans h.map,
           bases := (congrArg PathUnit.bases hreg :).trans h.bases,
           now := (congrArg (fun c : Kept => c.clock.now) hkept :).trans h.now,
           accepted := (accepted_of_kept hkept).trans h.accepted, taken := htaken.trans h.taken,
           count := ?_ }
  by_cases hroom : dist t.exch.taken t.exch.producer < Config.noticeEntries
  · have hlt := h.place_iff.1 hroom
    rw [hexch, if_pos hroom]
    show t.exch.producer + 1 = _
    rw [h.below (by omega), min_eq_left (by omega), BitVec.add_assoc]
    exact congrArg (s.exch.producer + ·) (BitVec.ofNat_add ..).symm
  · have hge := mt h.place_iff.2 hroom
    rw [hexch, if_neg hroom]
    show t.exch.producer = _
    rw [h.count, show min (k + 1) (256 - dist s.exch.taken s.exch.producer) =
      min k (256 - dist s.exch.taken s.exch.producer) by omega]

/-- The notice itself, in its place behind the `k` before it. -/
theorem noticed (h : Ringing (n + 2) k s t) (x : Notice) : noticeNth k x s.clock.now s (Machine.notify x t) := by
  have hgiven := noticeGiven_notify h.accepted (h.free _) x
  unfold noticeGiven at hgiven
  refine ⟨fun hroom => ?_, fun hfull => ?_⟩
  · rw [if_pos (h.place_iff.2 hroom)] at hgiven
    have hplace : (s.exch.producer + BitVec.ofNat 16 k).toNat % 256 = (s.exch.producer.toNat + k) % 256 := by
      rw [BitVec.toNat_add, BitVec.toNat_ofNat]
      omega
    rw [h.bases, h.now, h.below (by omega), hplace] at hgiven
    exact hgiven.1
  · rw [if_neg (fun hroom => by have := h.place_iff.1 hroom; omega)] at hgiven
    exact hgiven.1

end Ringing

/-- A notice that has been asked for stays so while the event and what follows it go on. -/
theorem noticeNth_of_run {L : Scope} {k : Nat} {x : Notice} {now : Stamp} {s t u : State} (hn : noticeNth k x now s t)
    (h : Run L t u) (hhost : L.host = false) (hrows : L.rows = false) : noticeNth k x now s u :=
  ⟨fun hroom => h.asked hhost (hn.1 hroom), fun hfull => h.overrun hrows (hn.2 hfull)⟩

/-- The only notice of an event, given (R33). -/
theorem noticeGiven_of_ringing {n : Nat} {x : Notice} {s t : State} (hn : noticeNth 0 x s.clock.now s t)
    (h : Ringing n 1 s t) : noticeGiven x s t := by
  unfold noticeGiven
  have hcount := h.count
  split
  · next hroom =>
    have hlt : dist s.exch.taken s.exch.producer < 256 := hroom
    rw [min_eq_left (by omega)] at hcount
    exact ⟨hn.1 hlt, hcount⟩
  · next hfull =>
    have hge : 256 ≤ dist s.exch.taken s.exch.producer := Nat.not_lt.1 hfull
    rw [show min 1 (256 - dist s.exch.taken s.exch.producer) = 0 by omega] at hcount
    exact ⟨hn.2 hge, by simpa using hcount⟩

end Sys2Proof.Machine

/-! PROOFS. LINK_FREE (R50) and the bays' orders HOLD_BAY, OPEN_BAY, SET_PROGRAMME, CALIBRATE. -/

namespace Sys2Proof.Machine

/-! ### LINK_FREE (R44, R50) -/

theorem getElem_putPort_self (p : PortId) (f : Port → Port) (s : State) : (putPort p f s).ports[p] = f s.ports[p] :=
  Vector.getElem_set_self ..

theorem getElem_putPort_ne {p q : PortId} (h : q ≠ p) (f : Port → Port) (s : State) :
    (putPort p f s).ports[q] = s.ports[q] :=
  Vector.getElem_set_ne p.isLt q.isLt fun hv => h (Fin.ext hv.symm)

/-- What the end of a transmission leaves of a port's record (R50). -/
theorem endSending_eq (x : Port) : endSending x = { x with
    sending := none, outSent := x.outSent + (if x.sending.isSome then 1 else 0),
    flow := if x.sending.isSome && x.flowSending then none else x.flow,
    flowSending := !x.sending.isSome && x.flowSending } := by
  unfold endSending
  cases hx : x.sending with
  | none => obtain ⟨⟩ := x; simp_all
  | some bytes => cases hf : x.flowSending <;> rfl

/-- A link that may not send falls idle. -/
theorem linkFreed_idle {x : Port} {may : Bool} (h : x.link ≠ .up ∨ may = false) : linkFreed x may = endSending x := by
  have hlink : (endSending x).link = x.link := by rw [endSending_eq]
  have hno : ¬ ((endSending x).link = .up ∧ may = true) := by
    rw [hlink]
    rintro ⟨hup, hmay⟩
    rcases h with hdown | hnot
    · exact hdown hup
    · exact absurd hmay (by simp [hnot])
  exact if_neg hno

theorem linkFreed_sends {x : Port} (hup : x.link = .up) : linkFreed x true = beginSending (endSending x) := by
  have hlink : (endSending x).link = .up := by rw [endSending_eq]; exact hup
  exact if_pos ⟨hlink, rfl⟩

theorem sent_flowFrame (g : Flow) : (flowFrame g).sent =
    [(flowFrame g).kind, 0] ++ le 2 (frameCheck (flowFrame g).kind []).toNat := by
  cases g <;> simp [flowFrame, QFrame.sent, frameBytes, byte]

/-- The transmission that begins, by the pending flow frame and the queue (R50). -/
theorem beginSending_spec (y : Port) (hidle : y.sending = none) :
    (beginSending y).outSent = y.outSent ∧ (beginSending y).flow = y.flow ∧
      (∀ g, y.flow = some g → (beginSending y).flowSending = true ∧ (beginSending y).outbound = y.outbound ∧
        (beginSending y).sending = some (flowFrame g).sent) ∧
      (y.flow = none → y.outbound = [] → (beginSending y).sending = none) ∧
      (∀ f fs, y.flow = none → y.outbound = f :: fs →
        (beginSending y).outbound = fs ∧ (beginSending y).sending = some f.sent) := by
  unfold beginSending
  cases hf : y.flow with
  | some g => simp [hf]
  | none => cases ho : y.outbound <;> simp [hf, ho, hidle]

/-- Settles O24, by the record that LINK_FREE leaves. -/
theorem linkFreeSendsTheNextFrame : Obligations.LinkFreeSendsTheNextFrame := by
  intro p s
  have h : Alike (setPort p (linkFreed s.ports[p] (accepted s)) s) (putPort p (fun x => linkFreed x (accepted s)) s) :=
    Alike.refl.setPort p fun x => linkFreed x (accepted s)
  have hport : (setPort p (linkFreed s.ports[p] (accepted s)) s).ports[p] = linkFreed s.ports[p] (accepted s) := by
    rw [h.ports]
    exact getElem_putPort_self ..
  have hended := endSending_eq s.ports[p]
  refine ⟨_, rfl, ?_⟩
  generalize setPort p (linkFreed s.ports[p] (accepted s)) s = t at h hport ⊢
  refine ⟨fun q hq => by rw [h.ports]; exact getElem_putPort_ne hq .., ?_⟩
  rw [hport]
  by_cases hmay : s.ports[p].link = .up ∧ accepted s = true
  · obtain ⟨hup, haccepted⟩ := hmay
    rw [haccepted, linkFreed_sends hup]
    obtain ⟨hsent, hflow, hpending, hempty, hnext⟩ := beginSending_spec (endSending s.ports[p]) (by rw [hended])
    rw [hended] at hsent hflow hpending hempty hnext ⊢
    refine ⟨hsent, hflow, fun hno => ?_, fun _ _ => ⟨fun g hg => ?_, hempty, hnext⟩, h.yard, h.bays, h.water,
      h.tally, h.mem⟩
    · exact absurd hup (hno.resolve_right (by simp))
    · obtain ⟨hfs, hout, hsending⟩ := hpending g hg
      exact ⟨hfs, hout, _, rfl, by rw [hsending, sent_flowFrame]; cases g <;> rfl⟩
  · have hno : s.ports[p].link ≠ .up ∨ accepted s = false := by
      by_cases hup : s.ports[p].link = .up
      · exact Or.inr (Bool.eq_false_iff.2 fun ht => hmay ⟨hup, ht⟩)
      · exact Or.inl hup
    rw [linkFreed_idle hno, hended]
    exact ⟨rfl, rfl, fun _ => ⟨rfl, rfl⟩, fun hup ht => absurd ⟨hup, ht⟩ hmay, h.yard, h.bays, h.water, h.tally, h.mem⟩

end Sys2Proof.Machine

/-! PROOFS. The orders on programmes, bays and the calibration, and the stage timer (R88, R102, R108, R113, R114, R130). -/

namespace Sys2Proof.Machine

theorem bayOf_val (b : BayId) : bayOf b.val = some b := dif_pos b.isLt

theorem bayOf_beyond {n : Nat} (h : 7 < n) : bayOf n = none := dif_neg (by omega)

theorem nextCall_of_queue_nil {s : State} (h : s.yard.queue = []) : nextCall s = none := by
  unfold nextCall
  rw [h]
  rfl

/-! ### HOLD_BAY and OPEN_BAY (R113, R114) -/

theorem heldBay_eq (x : Bay) : heldBay x =
    if x.state = .free ∨ x.state = .fault then { x with state := .closed }
    else if x.state = .closed then x else { x with holdAfter := true } := by
  unfold heldBay
  cases hx : x.state <;> simp

/-- Settles O39, by the bay's record after each order. -/
theorem holdAndOpenBay : Obligations.HoldAndOpenBay := by
  refine ⟨fun entry s h => ⟨fun hrange => ⟨_, rfl, ?_⟩, fun b hb => ⟨fun hfit => ⟨_, rfl, ?_⟩, fun hfit => ⟨_, rfl, ?_⟩⟩⟩,
    fun entry s h => ⟨fun hrange => ⟨_, rfl, ?_⟩, fun b hb => ⟨fun hno => ⟨_, rfl, ?_⟩, fun hfit hqueue hstate =>
      ⟨_, rfl, ?_⟩⟩⟩⟩
  · have hf : holdOrder entry (orderTakenUp entry s) = (.refusedRange, orderTakenUp entry s) := by
      simp only [holdOrder, bayOf_beyond hrange]
    obtain ⟨ha, hs, -⟩ := orderRow_refused h (want := fun k => k == 5) rfl hf
    exact ⟨ha, hs⟩
  · have hf : holdOrder entry (orderTakenUp entry s) = (.refusedState, orderTakenUp entry s) := by
      simp only [holdOrder, ← hb, bayOf_val]
      exact if_neg (Bool.eq_false_iff.1 hfit)
    obtain ⟨ha, hs, -⟩ := orderRow_refused h (want := fun k => k == 5) rfl hf
    exact ⟨ha, hs⟩
  · have hf : holdOrder entry (orderTakenUp entry s) = (.done, setBayWith b heldBay (orderTakenUp entry s)) := by
      simp only [holdOrder, ← hb, bayOf_val]
      exact if_pos hfit
    have halike := (Alike.refl (s := orderTakenUp entry s)).setBayWith b heldBay
    obtain ⟨ha, -, -, hports, -, hyard, hbays, hwater, -⟩ :=
      Ended.orderRow h (want := fun k => k == 5) rfl hf halike .of_ports h.2.1 rfl rfl
    refine ⟨ha, hyard, hports, hwater, hbays.trans ?_⟩
    rw [← heldBay_eq]
    rfl
  · have hf : openOrder entry (orderTakenUp entry s) = (.refusedRange, orderTakenUp entry s) := by
      simp only [openOrder, bayOf_beyond hrange]
    obtain ⟨ha, hs, -⟩ := orderRow_refused h (want := fun k => k == 6) rfl hf
    exact ⟨ha, hs⟩
  · have hnot : openable b (orderTakenUp entry s) = false := by
      show (bayFitted b s && (s.bays[b].state == .closed || (s.bays[b].state == .fault && linkUp (bayPort b) s))) = false
      rcases hno with hfit | ⟨hclosed, hfault⟩ | ⟨hfault, hlink⟩
      · simp [hfit]
      · simp_all
      · simp_all [linkUp]
    have hf : openOrder entry (orderTakenUp entry s) = (.refusedState, orderTakenUp entry s) := by
      simp only [openOrder, ← hb, bayOf_val]
      exact if_neg (Bool.eq_false_iff.1 hnot)
    obtain ⟨ha, hs, -⟩ := orderRow_refused h (want := fun k => k == 6) rfl hf
    exact ⟨ha, hs⟩
  · have hopen : openable b (orderTakenUp entry s) = true := by
      show (bayFitted b s && (s.bays[b].state == .closed || (s.bays[b].state == .fault && linkUp (bayPort b) s))) = true
      rcases hstate with hclosed | ⟨hfault, hlink⟩ <;> simp_all [linkUp]
    have hf : openOrder entry (orderTakenUp entry s) =
        (.done, arbiter (setBayWith b (fun x => { x with state := .free, holdAfter := false }) (orderTakenUp entry s))) := by
      simp only [openOrder, ← hb, bayOf_val]
      exact if_pos hopen
    have halike := ((Alike.refl (s := orderTakenUp entry s)).setBayWith b
      fun x => { x with state := .free, holdAfter := false }).arbiter_none (nextCall_of_queue_nil hqueue)
    obtain ⟨ha, -, -, hports, -, hyard, hbays, hwater, -⟩ :=
      Ended.orderRow h (want := fun k => k == 6) rfl hf halike .of_ports h.2.1 rfl rfl
    exact ⟨ha, hyard, hports, hwater, hbays⟩

/-! ### SET_PROGRAMME (R88) -/

/-- A visit that no bay can take, or that is not held for credit, keeps its place (R88). -/
theorem Alike.programmeSet {s t : State} (h : Alike s t) {slot : Slot} {v : Visit}
    (hv : v.state = .queued ∧ (∀ b : BayId, t.bays[b].state ≠ .free) ∨ v.state = .atGate ∧ v.reason ≠ some .credit) :
    Alike (programmeSet slot v s) t := by
  unfold Machine.programmeSet
  rcases hv with ⟨hqueued, hbusy⟩ | ⟨hgate, hreason⟩
  · rw [if_pos hqueued]
    refine Alike.arbiter_none ?_ (nextCall_of_no_free hbusy)
    unfold unservableCheck
    split
    · exact h
    · exact h.notify _
  · rw [if_neg (by simp [hgate]), if_neg hreason]
    exact h

/-- Settles O33: the checks in their order, and the visit's record. -/
theorem setProgrammeSetsIt : Obligations.SetProgrammeSetsIt := by
  intro entry slot v s h hslot hv hserial
  have hnamed : onVisit setProgrammeOrder entry (orderTakenUp entry s) =
      setProgrammeOrder slot v entry (orderTakenUp entry s) := onVisit_named hslot hv hserial
  have hrefused : ∀ {r}, setProgrammeOrder slot v entry (orderTakenUp entry s) = (r, orderTakenUp entry s) →
      ∃ t, exec .setProgramme s = .next t ∧ answered r s t ∧ sameUnits s t := fun {r} hr => by
    obtain ⟨ha, hs, -⟩ := orderRow_refused h (want := fun k => k == 3) rfl (hnamed.trans hr)
    exact ⟨_, rfl, ha, hs⟩
  refine ⟨fun hgate hqueued => hrefused (if_pos ⟨hgate, hqueued⟩), fun hstate => ?_⟩
  have hno : ¬ (v.state ≠ .atGate ∧ v.state ≠ .queued) := fun hn => hstate.elim hn.1 hn.2
  refine ⟨fun hrange => hrefused ?_, fun hrange hnone => hrefused ?_, fun hrange hsome hcase => ?_⟩
  · unfold setProgrammeOrder
    rw [if_neg hno, if_pos hrange]
  · have hfree : programmeCommitted (arg16 8 entry) (orderTakenUp entry s) = false := by
      show (lookup s.table.programmes (arg16 8 entry)).isSome = false
      rw [hnone]
      rfl
    unfold setProgrammeOrder
    dsimp only
    rw [if_neg hno, if_neg (Nat.not_lt.2 hrange), hfree]
    rfl
  · have hcommitted : programmeCommitted (arg16 8 entry) (orderTakenUp entry s) = true := hsome
    have hdone : setProgrammeOrder slot v entry (orderTakenUp entry s) = (.done, programmeSet slot
        { v with programme := some (arg16 8 entry) }
        (setVisit slot (some { v with programme := some (arg16 8 entry) }) (orderTakenUp entry s))) := by
      unfold setProgrammeOrder
      dsimp only
      rw [if_neg hno, if_neg (Nat.not_lt.2 hrange), hcommitted]
      rfl
    have halike := ((Alike.refl (s := orderTakenUp entry s)).setVisit slot
      (some { v with programme := some (arg16 8 entry) })).programmeSet (slot := slot)
        (v := { v with programme := some (arg16 8 entry) }) hcase
    obtain ⟨ha, -, -, hports, -, hyard, hbays, -⟩ :=
      Ended.orderRow h (want := fun k => k == 3) rfl (hnamed.trans hdone) halike .of_ports h.2.1 rfl rfl
    exact ⟨_, rfl, ha, hyard, hbays, hports⟩

/-! ### CALIBRATE (R130) -/

/-- The calibration made today at a temperature. -/
def recalibrated (temp : Int) (s : State) : State :=
  putWater (fun w => { w with calTemp := temp, calDay := s.clock.now.day, calibrated := true }) s

/-- Settles O42: the retry that follows leaves the calibration alone. -/
theorem calibrateSetsTheCalibration : Obligations.CalibrateSetsTheCalibration := by
  refine fun entry s => ⟨fun h hrange => ?_, fun h hlow hhigh => ?_⟩
  · have hno : calTempValid (signed 32 (arg32 entry)) = false := by
      simp only [calTempValid, Bool.and_eq_false_iff, decide_eq_false_iff_not]
      omega
    have hf : calibrateOrder entry (orderTakenUp entry s) = (.refusedRange, orderTakenUp entry s) := by
      unfold calibrateOrder
      dsimp only
      rw [hno]
      rfl
    obtain ⟨ha, hs, -⟩ := orderRow_refused h (want := fun k => k == 8) rfl hf
    exact ⟨_, rfl, ha, hs⟩
  · have hyes : calTempValid (signed 32 (arg32 entry)) = true := by
      simp only [calTempValid, Bool.and_eq_true, decide_eq_true_eq]
      omega
    obtain ⟨t, hf, hkept⟩ : ∃ t, calibrateOrder entry (orderTakenUp entry s) = (.done, t) ∧
        kept t = kept (recalibrated (signed 32 (arg32 entry)) (orderTakenUp entry s)) :=
      ⟨_, if_pos hyes, (kept_retry _).trans (kept_postChanged ..)⟩
    have hk := (kept_tidy (orderTakenUp entry s) t).trans hkept
    have hpart : (tidy (orderTakenUp entry s) t).exch.part = .running := (part_of_kept hk).trans h.1
    have hwater := water_of_besides (besides_order_end .done (tidy (orderTakenUp entry s) t))
    refine ⟨_, rfl, ?_⟩
    rw [orderRow_eq h (want := fun k => k == 8) rfl hf hpart, hwater]
    exact ⟨answered_order_end (congrArg (fun k => k.exch.orderTaken) hk :) (congrArg (fun k => k.path.bases) hk :),
      (congrArg Kept.calTemp hk :), (congrArg Kept.calDay hk :), (congrArg Kept.calibrated hk :),
      (congrArg Kept.probeExpired hk :)⟩

/-! ### The stage timer and ABORT_SESSION (R102, R108) -/

theorem Alike.stopPart {s t : State} (h : Alike s t) {b : BayId} (hup : t.ports[bayPort b].link = .up)
    (hroom : t.ports[bayPort b].outbound.length < Config.outboundPlaces) :
    Alike (stopPart b s) (putPort (bayPort b) (fun x => { x with outbound := x.outbound ++ [stageStopFrame] })
      (putBay b (fun x => { x with state := .settling, timer := none }) t)) :=
  (h.setBayWith b fun x => { x with state := .settling, timer := none }).offer stageStopFrame hup hroom

/-- A frame sent and a bay's record changed leave an event's end nothing to do. -/
theorem Ended.of_sent {s u : State} {p : PortId} {f : QFrame} (h : Ended s u) :
    Ended s (putPort p (fun x => { x with outbound := x.outbound ++ [f] }) u) :=
  ⟨h.pause, h.pending, fun q hq => by rw [linkUp_putPort (by rfl)]; exact h.links q hq⟩

theorem getElem_putBay_self (b : BayId) (f : Bay → Bay) (s : State) : (putBay b f s).bays[b] = f s.bays[b] :=
  Vector.getElem_set_self ..

/-- A bay's record changed twice. -/
theorem putBay_putBay (b : BayId) (f g : Bay → Bay) (s : State) : putBay b f (putBay b g s) = putBay b (f ∘ g) s := by
  unfold putBay
  simp only [Fin.getElem_fin, Vector.getElem_set_self, Vector.set_set, Function.comp]

theorem inSession_iff {x : BayState} : inSession x = true ↔ x = .waitingWater ∨ x = .running ∨ x = .settling := by
  cases x <;> simp [inSession]

/-- ABORT_SESSION on a bay in which a session stands (R108). -/
theorem abortOrder_of_session {entry : List Byte} {s : State} {b : BayId} {z : Session} (hb : b.val = arg16 4 entry)
    (hin : inSession s.bays[b].state = true) (hz : s.bays[b].session = some z) : abortOrder entry s =
      if z.serial.toNat = arg16 6 entry then (.done, abortBay b .order s) else (.stale, s) := by
  simp only [abortOrder, ← hb, bayOf_val, hin, hz]
  rfl

theorem withSession_some {x : Bay} {z : Session} (hz : x.session = some z) (f : Session → Session) :
    x.withSession f = { x with session := some (f z) } := by
  simp only [Bay.withSession, hz]

/-- Settles O38. -/
theorem stageTimerAndAbortSession : Obligations.StageTimerAndAbortSession := by
  refine ⟨⟨fun b s hq hrunning htimer hup hroom => ?_, fun b s hno => ?_⟩, fun entry s h => ⟨fun hrange => ?_, fun b hb =>
    ⟨fun hwaiting hrunning hsettling => ?_, fun z hz hstate => ⟨fun hserial => ?_, fun hserial hrunning hup hroom => ?_,
      fun hserial hsettling => ?_⟩⟩⟩⟩
  · obtain ⟨hcalm, hpart, -⟩ := hq
    have halike := (Alike.refl (s := s)).stopPart hup hroom
    have hended := Ended.conclude (Ended.of_sent .of_ports) halike (steady_of_calm hcalm) hpart
    refine ⟨_, if_pos ⟨hrunning, htimer⟩, ?_⟩
    rw [hended]
    refine ⟨halike.bays, ?_, halike.yard, halike.water⟩
    rw [halike.ports]
    exact congrArg Port.outbound (getElem_putPort_self ..)
  · refine if_neg fun h => ?_
    exact hno.elim (fun hn => hn h.1) fun hn => hn h.2
  · have hf : abortOrder entry (orderTakenUp entry s) = (.refusedRange, orderTakenUp entry s) := by
      simp only [abortOrder, bayOf_beyond hrange]
    obtain ⟨ha, hs, -⟩ := orderRow_refused h (want := fun k => k == 7) rfl hf
    exact ⟨_, rfl, ha, hs⟩
  · refine ⟨_, rfl, ?_⟩
    have hout : inSession (orderTakenUp entry s).bays[b].state = false := by
      show inSession s.bays[b].state = false
      refine Bool.eq_false_iff.2 fun hin => ?_
      rcases inSession_iff.1 hin with h | h | h
      · exact hwaiting h
      · exact hrunning h
      · exact hsettling h
    have hf : abortOrder entry (orderTakenUp entry s) = (.refusedState, orderTakenUp entry s) := by
      simp only [abortOrder, ← hb, bayOf_val, hout]
      rfl
    obtain ⟨ha, hs, -⟩ := orderRow_refused h (want := fun k => k == 7) rfl hf
    exact ⟨ha, hs⟩
  all_goals
    have hin : inSession s.bays[b].state = true := inSession_iff.2 hstate
    have hf := abortOrder_of_session (s := orderTakenUp entry s) hb hin hz
  · rw [if_neg hserial] at hf
    obtain ⟨ha, hs, -⟩ := orderRow_refused h (want := fun k => k == 7) rfl hf
    exact ⟨_, rfl, ha, hs⟩
  · have habort : abortBay b .order (orderTakenUp entry s) =
        stopPart b (setBayWith b (Bay.withSession (pendAbort .order)) (orderTakenUp entry s)) := by
      unfold abortBay
      rw [show (orderTakenUp entry s).bays[b].state = .running from hrunning]
    rw [if_pos hserial, habort] at hf
    have halike := ((Alike.refl (s := orderTakenUp entry s)).setBayWith b (Bay.withSession (pendAbort .order))).stopPart
      (b := b) hup hroom
    obtain ⟨ha, -, -, hports, -, hyard, hbays, -⟩ := Ended.orderRow h (want := fun k => k == 7) rfl hf halike
      (Ended.of_sent .of_ports) h.2.1 rfl rfl
    refine ⟨_, rfl, ha, hbays.trans ?_, ?_, hyard⟩
    · rw [putBay_putBay]
      have hses : (orderTakenUp entry s).bays[b].session = some z := hz
      exact congrArg (s.bays.set b) (by simp only [Function.comp]; rw [withSession_some hses]; rfl)
    · rw [hports]
      exact congrArg Port.outbound (getElem_putPort_self ..)
  · have habort : abortBay b .order (orderTakenUp entry s) =
        setBayWith b (Bay.withSession (pendAbort .order)) (orderTakenUp entry s) := by
      unfold abortBay
      rw [show (orderTakenUp entry s).bays[b].state = .settling from hsettling]
    rw [if_pos hserial, habort] at hf
    have halike := (Alike.refl (s := orderTakenUp entry s)).setBayWith b (Bay.withSession (pendAbort .order))
    obtain ⟨ha, -, -, hports, -, hyard, hbays, -⟩ := Ended.orderRow h (want := fun k => k == 7) rfl hf halike
      .of_ports h.2.1 rfl rfl
    refine ⟨_, rfl, ha, hports, hyard, hbays.trans ?_⟩
    exact congrArg (s.bays.set b) (withSession_some hz _)

end Sys2Proof.Machine

/-! PROOFS. A visit line's items and amounts (R154, R155), and HOST_STOP by order (R159). -/

namespace Sys2Proof.Machine

/-! ### Items (R154, R155) -/

/-- An item within R155's bounds. -/
def Item.inBounds (i : Item) : Prop := 1 ≤ i.quantity ∧ i.quantity ≤ 2000 ∧ i.amount < 2 ^ 31

theorem length_itemAt_le (kind : ItemKind) (q p : Nat) : (itemAt kind q p).length ≤ 1 := by
  unfold itemAt
  split <;> simp

theorem inBounds_of_mem_itemAt {kind : ItemKind} {q p : Nat} (hp : p ≤ 1000000) {i : Item} (hi : i ∈ itemAt kind q p) :
    i.inBounds := by
  unfold itemAt at hi
  split at hi
  · exact absurd hi (List.not_mem_nil)
  · next hq =>
    obtain rfl := List.mem_singleton.1 hi
    refine ⟨by dsimp only; omega, by dsimp only; omega, ?_⟩
    calc min q 2000 * p ≤ 2000 * 1000000 := Nat.mul_le_mul (min_le_right ..) hp
      _ < 2 ^ 31 := by norm_num

theorem price_le {f : Tariff} (h : ∀ p ∈ f.prices, p ≤ 1000000) (n : Nat) : f.price n ≤ 1000000 := by
  unfold Tariff.price
  rw [List.getD_eq_getElem?_getD]
  cases hn : f.prices[n]? with
  | none => simp
  | some p => exact h p (List.mem_of_getElem? hn)

/-- A tariff within R139's ranges. -/
structure Tariff.inRange (f : Tariff) : Prop where
  gateFee : f.gateFee ≤ 1000000
  prices : ∀ p ∈ f.prices, p ≤ 1000000
  axle : f.axle ≤ 1000000
  fresh : f.fresh ≤ 1000000
  reclaim : f.reclaim ≤ 1000000
  detergent : f.detergent ≤ 1000000
  unwashed : f.unwashed ≤ 1000000
  abortPercent : f.abortPercent ≤ 100

theorem Tariff.inRange.aborted {f : Tariff} (h : f.inRange) (n : Nat) : f.price n * f.abortPercent / 100 ≤ 1000000 := by
  refine Nat.div_le_of_le_mul ?_
  calc f.price n * f.abortPercent ≤ 1000000 * 100 := Nat.mul_le_mul (price_le h.prices n) h.abortPercent
    _ = 100 * 1000000 := rfl

/-- A visit's items are at most six prices, each within range, at a quantity. -/
theorem visitItems_eq_flatMap (v : Visit) {f : Tariff} (h : f.inRange) :
    ∃ l : List (ItemKind × Nat × Nat), l.length ≤ 6 ∧ (∀ x ∈ l, x.2.2 ≤ 1000000) ∧
      visitItems v f = l.flatMap fun x => itemAt x.1 x.2.1 x.2.2 := by
  obtain ⟨fresh, reclaim, det, hused⟩ : ∃ fresh reclaim det : Nat, ∀ o, v.outcome = o → visitItems v f =
      match o with
      | some .complete => itemAt .gate 1 f.gateFee ++ itemAt .programme 1 (f.price (v.programme.getD 0)) ++
          itemAt .axle (v.axles.getD 0 - 2) f.axle ++
          (itemAt .fresh fresh f.fresh ++ itemAt .reclaim reclaim f.reclaim ++ itemAt .detergent det f.detergent)
      | some .aborted => itemAt .gate 1 f.gateFee ++
          itemAt .programme 1 (f.price (v.programme.getD 0) * f.abortPercent / 100) ++
          itemAt .axle (v.axles.getD 0 - 2) f.axle ++
          (itemAt .fresh fresh f.fresh ++ itemAt .reclaim reclaim f.reclaim ++ itemAt .detergent det f.detergent)
      | some .unwashed => itemAt .gate 1 f.gateFee ++ itemAt .unwashed 1 f.unwashed ++
          itemAt .axle (v.axles.getD 0 - 2) f.axle
      | some .released => itemAt .gate 1 f.gateFee ++ itemAt .unwashed 1 f.unwashed ++
          itemAt .axle (v.axles.getD 0 - 2) f.axle
      | some .turnedAway => []
      | none => [] := ⟨_, _, _, fun o ho => by subst ho; rfl⟩
  have hprice := price_le h.prices (v.programme.getD 0)
  have haborted := h.aborted (v.programme.getD 0)
  rcases ho : v.outcome with _ | _ | _ | _ | _ | _ <;> rw [hused _ ho]
  case none => exact ⟨[], by simp⟩
  case some.turnedAway => exact ⟨[], by simp⟩
  case some.complete =>
    refine ⟨[(.gate, 1, f.gateFee), (.programme, 1, f.price (v.programme.getD 0)), (.axle, v.axles.getD 0 - 2, f.axle),
      (.fresh, fresh, f.fresh), (.reclaim, reclaim, f.reclaim), (.detergent, det, f.detergent)], by simp, ?_, by simp⟩
    simp [h.gateFee, h.axle, h.fresh, h.reclaim, h.detergent, hprice]
  case some.aborted =>
    refine ⟨[(.gate, 1, f.gateFee), (.programme, 1, f.price (v.programme.getD 0) * f.abortPercent / 100),
      (.axle, v.axles.getD 0 - 2, f.axle), (.fresh, fresh, f.fresh), (.reclaim, reclaim, f.reclaim),
      (.detergent, det, f.detergent)], by simp, ?_, by simp⟩
    simp [h.gateFee, h.axle, h.fresh, h.reclaim, h.detergent, haborted]
  all_goals
    refine ⟨[(.gate, 1, f.gateFee), (.unwashed, 1, f.unwashed), (.axle, v.axles.getD 0 - 2, f.axle)], by simp, ?_, by simp⟩
    simp [h.gateFee, h.axle, h.unwashed]

theorem length_flatMap_le {α β : Type} {g : α → List β} (hg : ∀ x, (g x).length ≤ 1) (l : List α) :
    (l.flatMap g).length ≤ l.length := by
  induction l with
  | nil => simp
  | cons x l ih =>
    have := hg x
    simp only [List.flatMap_cons, List.length_append, List.length_cons]
    omega

theorem length_itemsBytes (items : List Item) : (itemsBytes items).length = 8 * items.length := by
  induction items with
  | nil => rfl
  | cons i items ih =>
    have hi : (Item.bytes i).length = 8 := rfl
    simp only [itemsBytes, List.flatMap_cons, List.length_append, List.length_cons] at ih ⊢
    omega

/-- Settles O50. -/
theorem lineAmountsAreHeld : Obligations.LineAmountsAreHeld := by
  refine ⟨fun v f hgate hprices haxle hfresh hreclaim hdet hun hpercent => ?_, fun v items now n => ?_, fun _ _ _ => rfl,
    fun v f => ⟨fun hout => ?_, fun hout => ?_, fun hout => ?_⟩,
    fun v s => ⟨fun hnone => ?_, fun a e f hacc he hf => ?_⟩, fun _ => rfl⟩
  · obtain ⟨l, hlength, hpriced, hitems⟩ :=
      visitItems_eq_flatMap v ⟨hgate, hprices, haxle, hfresh, hreclaim, hdet, hun, hpercent⟩
    refine ⟨?_, min_le_right .., fun i hi => ?_, fun hout => by simp only [visitItems, hout]⟩
    · rw [hitems]
      exact (length_flatMap_le (fun x => length_itemAt_le ..) l).trans hlength
    · rw [hitems] at hi
      obtain ⟨x, hx, hix⟩ := List.mem_flatMap.1 hi
      exact inBounds_of_mem_itemAt (hpriced x hx) hix
  · rw [List.length_append, length_itemsBytes]
    rfl
  · simp only [visitItems, hout]
    cases v.summary <;> rfl
  · simp only [visitItems, hout]
    cases v.summary <;> rfl
  · rcases hout with hout | hout <;> simp only [visitItems, hout] <;> rfl
  · simp [pricedItems, hnone]
  · simp [pricedItems, hacc, tariffOfAccount, accountEntry, he, hf]

end Sys2Proof.Machine

/-! PROOFS. The account orders: STOP_ACCOUNT and RESUME_ACCOUNT (R159). -/

namespace Sys2Proof.Machine

theorem accountOf_val (a : AccountId) : accountOf a.val = some a := dif_pos a.isLt

theorem accountOf_beyond {n : Nat} (h : 255 < n) : accountOf n = none := dif_neg (by omega)

/-- What is asked for stands through an order's end. -/
theorem refreshAsked_order_end {rec : Rec} {u : State} (h : refreshAsked rec u = true) (r : Result) :
    refreshAsked rec (fetchOrder (finishOrder r u)) = true := by
  have hplaced : refreshAsked rec (placeTold .exchange (.line 0) (orderAddr u.exch.orderTaken u + 28)
      (resultBytes r u.exch.orderTaken) u) = true :=
    (refreshAsked_makeWay ..).trans (refreshAsked_present_of_asked h ..)
  have hdone : refreshAsked rec (finishOrder r u) = true := by
    unfold finishOrder
    generalize placeTold .exchange (.line 0) (orderAddr u.exch.orderTaken u + 28) (resultBytes r u.exch.orderTaken) u = v
      at hplaced ⊢
    refine refreshAsked_present_of_asked ?_ ..
    exact hplaced
  generalize finishOrder r u = v at hdone ⊢
  unfold fetchOrder
  dsimp only
  split
  · refine refreshAsked_present_of_asked ?_ ..
    exact hdone
  · exact hdone

/-- An account's record with HOST_STOP as an order sets it. -/
def stopped (a : AccountId) (stop : Bool) (s : State) : State :=
  putAccount a { s.tally.accounts[a] with hostStop := stop } s

theorem alike_setHostStop (a : AccountId) (stop : Bool) (s : State) : Alike (setHostStop a stop s) (stopped a stop s) := by
  unfold setHostStop
  dsimp only
  split
  · next hsame =>
    have hstay : stopped a stop s = s := by
      have hself : s.tally.accounts.set a { s.tally.accounts[a] with hostStop := stop } = s.tally.accounts := by
        rw [← hsame]
        exact Vector.set_getElem_self ..
      unfold stopped putAccount
      rw [hself]
    rw [hstay]
    exact Alike.refl
  · exact Alike.refl.post _

theorem refreshAsked_setHostStop {a : AccountId} {stop : Bool} {s : State} (h : s.tally.accounts[a].hostStop ≠ stop) :
    refreshAsked (.balance a) (setHostStop a stop s) = true := by
  unfold setHostStop
  dsimp only
  rw [if_neg h]
  exact refreshAsked_post ..

/-- The row of STOP_ACCOUNT or RESUME_ACCOUNT on an account (R159). -/
theorem orderRow_hostStop {k : Nat} {entry : List Byte} {s : State} (h : orderRead k entry s) (hs : steady s)
    {want : Nat → Bool} (hwant : want k = true) (stop : Bool) {a : AccountId} (ha : a.val = arg16 4 entry) :
    answered .done s (orderRow want (hostStopOrder stop) s) ∧
      sameUnits (stopped a stop s) (orderRow want (hostStopOrder stop) s) ∧
      (s.tally.accounts[a].hostStop ≠ stop → refreshAsked (.balance a) (orderRow want (hostStopOrder stop) s) = true) := by
  have hf : hostStopOrder stop entry (orderTakenUp entry s) = (.done, setHostStop a stop (orderTakenUp entry s)) := by
    simp only [hostStopOrder, ← ha, accountOf_val]
  have halike := alike_setHostStop a stop (orderTakenUp entry s)
  rw [Ended.orderRow_eq h hs hwant hf halike .of_ports h.1]
  exact ⟨answered_order_end halike.orderTaken halike.bases,
    sameUnits_of_besides ((besides_order_end ..).trans halike.units),
    fun hchange => refreshAsked_order_end (refreshAsked_setHostStop (s := orderTakenUp entry s) hchange) .done⟩

/-- The two rows of HOST_STOP. -/
theorem exec_hostStop {k : Nat} {c : Instr} {stop : Bool}
    (h : (k, c, stop) ∈ [(11, Instr.stopAccount, true), (12, .resumeAccount, false)]) :
    ∃ want : Nat → Bool, want k = true ∧ ∀ s, exec c s = .next (orderRow want (hostStopOrder stop) s) := by
  simp only [List.mem_cons, Prod.mk.injEq, List.not_mem_nil, or_false] at h
  rcases h with ⟨rfl, rfl, rfl⟩ | ⟨rfl, rfl, rfl⟩
  all_goals exact ⟨_, rfl, fun s => rfl⟩

/-- Settles O48. -/
theorem stopAndResumeAccount : Obligations.StopAndResumeAccount := by
  refine ⟨fun k c stop entry s hmem h => ?_, fun k c stop a entry s hmem h ha hfull hpause => ?_,
    fun v a s hacc hstop hbarred => ?_⟩
  · obtain ⟨want, hwant, hexec⟩ := exec_hostStop hmem
    refine ⟨fun hrange => ?_, fun a ha => ?_⟩
    · have hf : hostStopOrder stop entry (orderTakenUp entry s) = (.refusedRange, orderTakenUp entry s) := by
        simp only [hostStopOrder, accountOf_beyond hrange]
      obtain ⟨hanswered, hsame, -⟩ := orderRow_refused h hwant hf
      exact ⟨_, hexec s, hanswered, hsame⟩
    · obtain ⟨hanswered, ⟨hmem, -, hports, hgate, hyard, hbays, hwater, htable, htally, hclock⟩, hasked⟩ :=
        orderRow_hostStop h.2 (steady_of_calm h.1) hwant stop ha
      exact ⟨_, hexec s, hanswered, htally, hyard, hgate, hbays, hports, hwater, htable, hclock, hmem, hasked⟩
  · obtain ⟨want, hwant, hexec⟩ := exec_hostStop hmem
    obtain ⟨hanswered, ⟨-, -, -, -, -, -, -, -, htally, -⟩, hasked⟩ :=
      orderRow_hostStop h (Or.inr ⟨hpause, le_trans (by decide) hfull⟩) hwant stop ha
    exact ⟨_, hexec s, hanswered, htally, hasked⟩
  · unfold admission
    rw [hacc]
    cases he : linkedEntry v s with
    | none => simp only [hstop]; rfl
    | some e => simp only [hbarred e he, hstop]; rfl

end Sys2Proof.Machine

/-! PROOFS. What the arbiter, the ends of calls and sessions, the retry of the wait list and the loss of ports can do, as a
rule about properties of a state: one that the single writes keep is kept by all of them. -/

namespace Sys2Proof.Machine

/-- What the retry, grants and settlements leave of the Water Unit: all but the grants, the wait list and the daily counts. -/
def plantView (w : WaterUnit) : WaterUnit × (TankId → Tank) :=
  ({ w with tanks := State.reset.water.tanks, grants := State.reset.water.grants, counter := 0, waitList := [],
            settled := 0, reserveGiven := false, exhaustedGiven := false },
    fun k => { w.tanks[k] with grants := [] })

theorem tank_of_plantView {v w : WaterUnit} (h : plantView v = plantView w) (k : TankId) :
    { v.tanks[k] with grants := [] } = { w.tanks[k] with grants := [] } := congrFun (Prod.ext_iff.1 h).2 k

theorem run_of_plantView {v w : WaterUnit} (h : plantView v = plantView w) : v.run = w.run :=
  (congrArg WaterUnit.run (Prod.ext_iff.1 h).1 :)

theorem plantView_setTank {w : WaterUnit} {k : TankId} {x : Tank}
    (h : { x with grants := [] } = { w.tanks[k] with grants := [] }) :
    plantView { w with tanks := w.tanks.set k x } = plantView w := by
  refine Prod.ext rfl (funext fun j => ?_)
  show { (w.tanks.set k x)[j] with grants := [] } = { w.tanks[j] with grants := [] }
  simp only [Fin.getElem_fin, Vector.getElem_set]
  split
  · next hj =>
    obtain rfl : k = j := Fin.ext hj
    exact h
  · rfl

/-- A property that the single writes keep: requests, records of the bays' ports, bays, visits, grants and the wait list,
and a pump run sent. -/
structure Frame (I : State → Prop) : Prop where
  besides : ∀ {s t : State}, besides t = besides s → I s → I t
  port : ∀ {s : State} {b : BayId} {x : Port}, I s → I { s with ports := s.ports.set (bayPort b) x }
  bay : ∀ {s : State} {b : BayId} {x : Bay}, x.presence = s.bays[b].presence ∨ x.presence = .unknown → I s →
    I { s with bays := s.bays.set b x }
  yard : ∀ {s : State} {y : YardUnit}, y.serial = s.yard.serial → I s → I { s with yard := y }
  water : ∀ {s : State} {w : WaterUnit}, plantView w = plantView s.water → I s → I { s with water := w }
  send : ∀ {s : State} {r : PumpReq}, s.water.run = none → linkUp plantPort s = true → I s → I (sendPump r s)

theorem bayPort_ne_plantPort (b : BayId) : bayPort b ≠ plantPort := by
  revert b
  decide

theorem bayPort_ne_entryPort (b : BayId) : bayPort b ≠ entryPort := by
  revert b
  decide

/-- A property that the loss of a gate's port or of the plant's keeps. -/
structure Borne (I : State → Prop) : Prop where
  entry : ∀ {s : State}, linkUp entryPort s = false → I s → I (entryLost s)
  exit : ∀ {s : State}, I s → I (exitLost s)
  plant : ∀ {s : State}, linkUp plantPort s = false → I s → I (plantLost s)

/-! ### The presence at a bay (R94, R109) -/

@[simp] theorem presence_withSession (f : Session → Session) (x : Bay) : (x.withSession f).presence = x.presence := by
  unfold Bay.withSession
  split <;> rfl

@[simp] theorem presence_freeOrClosed (x : Bay) : (freeOrClosed x).presence = x.presence := by
  unfold freeOrClosed
  split <;> rfl

@[simp] theorem presence_faultOrClosed (x : Bay) : (faultOrClosed x).presence = x.presence := by
  unfold faultOrClosed
  split <;> rfl

@[simp] theorem presence_bayAfter (a : Option AbortReason) (x : Bay) : (bayAfter a x).presence = x.presence := by
  unfold bayAfter
  dsimp only
  split
  · exact presence_faultOrClosed _
  · split
    · rfl
    · exact presence_freeOrClosed _

namespace Frame

variable {I : State → Prop} {s : State}

section Steps

variable (F : Frame I)
include F

theorem notify (n : Notice) (h : I s) : I (notify n s) := F.besides (besides_notify ..) h
theorem postVisit (slot : Slot) (h : I s) : I (postVisit slot s) := F.besides (besides_postVisit ..) h
theorem setPort (b : BayId) (x : Port) (h : I s) : I (setPort (bayPort b) x s) :=
  F.besides (besides_setPort ..) (F.port h)
theorem setBayWith (b : BayId) (f : Bay → Bay) (h : I s)
    (hf : ∀ x, (f x).presence = x.presence ∨ (f x).presence = .unknown := by exact fun _ => Or.inl (by simp)) :
    I (setBayWith b f s) :=
  F.besides (besides_setBay ..) (F.bay (hf _) h)
theorem setVisit (slot : Slot) (v : Option Visit) (h : I s) : I (setVisit slot v s) :=
  F.besides (besides_setVisit ..) (F.yard rfl h)
theorem setWater {w : WaterUnit} (hw : plantView w = plantView s.water) (h : I s) : I (setWater w s) :=
  F.besides (besides_setWater ..) (F.water hw h)
theorem setGrant (b : BayId) (g : Option Grant) (h : I s) : I (setGrant b g s) :=
  F.besides (besides_setGrant ..) (F.water rfl h)
theorem setTank {k : TankId} {x : Tank} (hx : { x with grants := [] } = { s.water.tanks[k] with grants := [] })
    (h : I s) : I (setTank k x s) :=
  F.besides (besides_setTank ..) (F.water (plantView_setTank hx) h)

theorem portDown (b : BayId) (r : DownReason) (h : I s) : I (portDown (bayPort b) r s) := F.notify _ (F.setPort b _ h)

theorem offer (b : BayId) (f : QFrame) (h : I s) : I (offer (bayPort b) f s) := by
  unfold Machine.offer
  dsimp only
  split
  · split
    · exact F.setPort b _ h
    · exact F.portDown b _ (F.setPort b _ h)
  · exact F.setPort b _ h

/-! #### Calls and the arbiter -/

theorem callVisit (slot : Slot) (v : Visit) (b : BayId) (h : I s) : I (callVisit slot v b s) :=
  F.offer b _ (F.setBayWith _ _ (F.setVisit _ _ (F.yard rfl h)))

theorem arbiterCalls (n : Nat) (h : I s) : I (arbiterCalls n s) := by
  induction n generalizing s with
  | zero => exact h
  | succ n ih =>
    unfold Machine.arbiterCalls
    split
    · exact h
    · exact ih (F.callVisit _ _ _ h)

theorem arbiter (h : I s) : I (arbiter s) := by
  unfold Machine.arbiter
  split
  · exact h
  · exact F.arbiterCalls 8 h

theorem arbiterIfFree (b : BayId) (h : I s) : I (arbiterIfFree b s) := by
  unfold Machine.arbiterIfFree
  split
  · exact F.arbiter h
  · exact h

theorem endCallAtBay (b : BayId) (h : I s) : I (endCallAtBay b s) := by
  have hended := F.offer b stageStopFrame
    (F.setBayWith b (fun x => { freeOrClosed x with bound := none, lastTag := none }) h)
  unfold Machine.endCallAtBay
  dsimp only
  split
  · exact F.notify _ hended
  · exact hended

theorem requeue (slot : Slot) (v : Visit) (h : I s) : I (requeue slot v s) := by
  refine F.yard ?_ (F.yard ?_ h) <;> rfl

theorem withdrawCall (slot : Slot) (v : Visit) (cause : Nat) (h : I s) : I (withdrawCall slot v cause s) :=
  F.postVisit slot (F.arbiter (F.notify _ (F.requeue slot v h)))

/-! #### Sessions -/

theorem endSession (b : BayId) (a : Option AbortReason) (h : I s) : I (endSession b a s) := by
  unfold Machine.endSession
  split
  · exact h
  · have hbay := F.setBayWith b (bayAfter a) h
    dsimp only
    refine F.arbiterIfFree b ?_
    split <;> split
    · exact hbay
    · exact F.setVisit _ _ hbay
    · exact F.notify _ hbay
    · exact F.notify _ (F.setVisit _ _ hbay)

theorem runPart (b : BayId) (r : StageRun) (x : Part) (h : I s) : I (runPart b r x s) :=
  F.offer b _ (F.setBayWith b _ h)

theorem stopPart (b : BayId) (h : I s) : I (stopPart b s) :=
  F.offer b _ (F.setBayWith b _ h)

/-! #### Grants, the wait list and the pump -/

theorem removeGrant (b : BayId) (g : Grant) (n : Nat) (h : I s) : I (removeGrant b g n s) := by
  unfold Machine.removeGrant
  refine F.besides (besides_postChangedLines ..) (F.setGrant b none ?_)
  split
  · exact F.setTank rfl h
  · exact F.water rfl h
  · exact h

theorem listGrant (b : BayId) (src : Source) (h : I s) : I (listGrant b src s) := by
  unfold Machine.listGrant
  split
  · exact F.setTank rfl h
  · exact h
  · exact h

theorem noteReserve (b : BayId) (r : Bool) (h : I s) : I (noteReserve b r s) := by
  unfold Machine.noteReserve
  split
  · refine F.notify _ (F.water ?_ h)
    rfl
  · exact h

theorem issueGrant (b : BayId) (src : Source) (l : Nat) (r : Bool) (h : I s) : I (issueGrant b src l r s) := by
  rw [issueGrant_eq]
  exact F.noteReserve b r (F.setGrant b _ (F.listGrant b src (F.water rfl h)))

theorem refuseWater (b : BayId) (l : Nat) (h : I s) : I (refuseWater b l s) := by
  unfold Machine.refuseWater
  split
  · exact h
  · refine F.notify _ (F.water ?_ h)
    rfl

theorem withdraw (b : BayId) (h : I s) : I (withdraw b s) := F.setWater rfl h

theorem takeRetried (b : BayId) (h : I s) : I (takeRetried b s) := by
  unfold Machine.takeRetried
  split
  · exact h
  · split
    · split
      · exact h
      · exact F.endSession b _ (F.removeGrant b _ 0 h)
    · exact F.runPart b _ _ h

theorem retryEntry (e : WaitEntry) (h : I s) : I (retryEntry e s) := by
  unfold Machine.retryEntry
  split
  · exact F.takeRetried _ (F.issueGrant _ _ _ _ (F.withdraw _ h))
  · exact F.refuseWater _ _ h

theorem retryEntries (l : List WaitEntry) (h : I s) : I (retryEntries l s) := by
  induction l generalizing s with
  | nil => exact h
  | cons e l ih => exact ih (F.retryEntry e h)

theorem retry (h : I s) : I (retry s) := F.retryEntries _ h

theorem pumpLook (h : I s) : I (pumpLook s) := by
  unfold Machine.pumpLook
  split
  · next hlook =>
    simp only [Bool.and_eq_true, Option.isNone_iff_eq_none] at hlook
    obtain ⟨⟨hrun, hup⟩, -⟩ := hlook
    split
    · exact h
    · exact F.send hrun hup h
  · exact h

theorem handSettlement (b : BayId) (x : Part) (h : I s) : I (handSettlement b x s) := by
  unfold Machine.handSettlement settleGrant
  split
  · exact h
  · split
    · exact h
    · exact F.pumpLook (F.retry (F.removeGrant b _ _ h))

/-! #### Revocation (R106, R125, R128) -/

theorem revokeGrant (b : BayId) (g : Grant) (k : TankId) (n : Nat) (h : I s) : I (revokeGrant b g k n s) := by
  have hbay := F.setBayWith b (Bay.withSession fun x =>
    { x with part := x.part.map fun p => { p with revoked := true } }) (F.setGrant b (some { g with revoked := true }) h)
  refine F.notify _ ?_
  unfold Machine.bayRevoked
  dsimp only
  split
  · exact F.stopPart b hbay
  · exact hbay

theorem revokeEach (k : TankId) (all : Bool) (n : Nat) (l : List BayId) (h : I s) : I (revokeEach k all n l s) := by
  induction l generalizing s with
  | nil => exact h
  | cons b l ih =>
    unfold Machine.revokeEach
    split
    · split
      · exact ih h
      · exact ih (F.revokeGrant b _ k n h)
    · exact h

theorem meetShortfall (k : TankId) (h : I s) : I (meetShortfall k s) := by
  unfold Machine.meetShortfall
  split
  · exact F.retry (F.revokeEach k false 1 _ h)
  · exact h

theorem revokeAll (k : TankId) (h : I s) : I (revokeAll k s) := by
  unfold Machine.revokeAll
  split
  · exact F.retry (F.revokeEach k true 2 _ h)
  · exact h

/-! #### Ports lost (R43, R110) -/

theorem portLostPart (b : BayId) (h : I s) : I (portLostPart b s) := by
  unfold Machine.portLostPart
  split
  · exact F.endSession b _ h
  · exact F.endSession b _ (F.handSettlement b _ (F.setBayWith b _ h))

theorem portLostCall (b : BayId) (h : I s) : I (portLostCall b s) := by
  unfold Machine.portLostCall
  dsimp only
  split
  · exact F.setBayWith b _ h
  · exact F.withdrawCall _ _ _ (F.setBayWith b _ h)

theorem bayLost (b : BayId) (h : I s) : I (bayLost b s) := by
  have hgone := F.setBayWith b (fun x => { x with presence := .unknown, lastTag := none }) h
    fun _ => Or.inr rfl
  unfold Machine.bayLost
  dsimp only
  generalize Machine.setBayWith b (fun x => { x with presence := .unknown, lastTag := none }) s = u at hgone ⊢
  split
  · exact F.portLostCall b hgone
  · exact F.endSession b _ (F.withdraw b hgone)
  · exact F.portLostPart b hgone
  · exact F.portLostPart b hgone
  · exact F.setBayWith b _ hgone
  all_goals exact hgone

/-- A lost port's role unit is told. -/
theorem roleLost (B : Borne I) {p : PortId} (hp : linkUp p s = false) (h : I s) : I (roleLost p s) := by
  unfold Machine.roleLost
  split
  · next he => exact B.entry (he ▸ hp) h
  split
  · exact B.exit h
  split
  · next hpp => exact B.plant (hpp ▸ hp) h
  split
  · exact F.bayLost _ h
  · exact h

theorem settlePorts (B : Borne I) (n : Nat) (ups : List PortId) (h : I s) : I (settlePorts n ups s) := by
  induction n generalizing s ups with
  | zero => exact h
  | succ n ih =>
    unfold Machine.settlePorts
    split
    · exact h
    · next p hp =>
      have hdown : linkUp p s = false := by simpa using List.find?_some hp
      exact ih _ (F.roleLost B hdown h)

theorem settleLost (B : Borne I) (ups : List PortId) (h : I s) : I (settleLost ups s) := by
  unfold Machine.settleLost
  split
  · exact F.settlePorts B 11 ups h
  · exact h

/-- A property that no write of the gates' records touches bears the loss of their ports. -/
theorem borne_of_gate (hgate : ∀ {t : State} {g : GateUnit}, I t → I { t with gate := g })
    (hplant : ∀ {t : State}, linkUp plantPort t = false → I t → I (plantLost t)) : Borne I where
  entry := fun _ h => by
    unfold Machine.entryLost discardPair pairDiscarded
    split
    · exact hgate h
    · exact F.notify _ (hgate h)
  exit := fun h => hgate h
  plant := hplant

end Steps

/-- A run that fails: a property that its own writes keep is kept by the retry and the look that follow (R133). -/
theorem failRun (F : Frame I) (cause : Nat) (h : I s) (hjoin : ∀ r, s.water.run = some r →
    I (joinPump r.tank r.kind (setTankWith r.tank (fun t => { t with pumpRunning := false })
      (Machine.setWater { s.water with run := none, pumpTimer := none } s)))) : I (failRun cause s) := by
  unfold Machine.failRun
  split
  · exact h
  · next r hr => exact F.pumpLook (F.retry (F.notify _ (hjoin r hr)))

end Frame

/-! ### Properties that the plant's writes keep too -/

/-- The capacity and the two levels of each tank. -/
def tankLevels (w : WaterUnit) : TankId → Nat × Nat × Nat :=
  fun k => (w.tanks[k].capacity, w.tanks[k].reported, w.tanks[k].book)

theorem tankLevels_of_plantView {v w : WaterUnit} (h : plantView v = plantView w) : tankLevels v = tankLevels w := by
  funext k
  have hk := tank_of_plantView h k
  exact (congrArg (fun t : Tank => (t.capacity, t.reported, t.book)) hk :)

theorem tankLevels_setTank {w : WaterUnit} {k : TankId} {x : Tank}
    (h : (x.capacity, x.reported, x.book) = tankLevels w k) : tankLevels { w with tanks := w.tanks.set k x } = tankLevels w := by
  funext j
  simp only [tankLevels, Fin.getElem_fin, Vector.getElem_set]
  split
  · next hj =>
    obtain rfl : k = j := Fin.ext hj
    exact h
  · rfl

/-- A property of a state that is kept by every write of ports but the entry gate's, of bays and visits, and of the Water
Unit but for its tanks' levels. -/
structure Loose (I : State → Prop) : Prop where
  besides : ∀ {s t : State}, besides t = besides s → I s → I t
  port : ∀ {s : State} {p : PortId} {x : Port}, p ≠ entryPort → I s → I { s with ports := s.ports.set p x }
  bay : ∀ {s : State} {b : BayId} {x : Bay}, I s → I { s with bays := s.bays.set b x }
  yard : ∀ {s : State} {y : YardUnit}, y.serial = s.yard.serial → I s → I { s with yard := y }
  water : ∀ {s : State} {w : WaterUnit}, tankLevels w = tankLevels s.water → I s → I { s with water := w }
  free : ∀ {s : State}, I s → I (drawn s)

namespace Loose

variable {I : State → Prop} {s : State}

section Steps

variable (L : Loose I)
include L

theorem notify (n : Notice) (h : I s) : I (notify n s) := L.besides (besides_notify ..) h
theorem setPort {p : PortId} (hp : p ≠ entryPort) (x : Port) (h : I s) : I (setPort p x s) :=
  L.besides (besides_setPort ..) (L.port hp h)
theorem setWater {w : WaterUnit} (hw : tankLevels w = tankLevels s.water) (h : I s) : I (setWater w s) :=
  L.besides (besides_setWater ..) (L.water hw h)
theorem setTank {k : TankId} {x : Tank} (hx : (x.capacity, x.reported, x.book) = tankLevels s.water k) (h : I s) :
    I (setTank k x s) :=
  L.besides (besides_setTank ..) (L.water (tankLevels_setTank hx) h)

theorem offer {p : PortId} (hp : p ≠ entryPort) (f : QFrame) (h : I s) : I (offer p f s) := by
  unfold Machine.offer
  dsimp only
  split
  · split
    · exact L.setPort hp _ h
    · exact L.notify _ (L.setPort hp _ (L.setPort hp _ h))
  · exact L.setPort hp _ h

theorem sendPump (r : PumpReq) (h : I s) : I (sendPump r s) := by
  refine L.offer (by decide) _ (L.setWater ?_ (L.setTank (k := r.tank) ?_ h)) <;> rfl

theorem frame : Frame I where
  besides := L.besides
  port := fun h => L.port (bayPort_ne_entryPort _) h
  bay := fun _ => L.bay
  yard := L.yard
  water := fun hw h => L.water (tankLevels_of_plantView hw) h
  send := fun _ _ h => L.sendPump _ h

theorem joinPump (k : TankId) (kind : PumpKind) (h : I s) : I (joinPump k kind s) := by
  refine L.setWater ?_ (L.setTank (k := k) ?_ h) <;> rfl

theorem tankLost (k : TankId) (h : I s) : I (tankLost k s) := by
  unfold Machine.tankLost
  split
  · exact L.free (L.free (L.notify _ (L.setTank rfl h)))
  · exact h

theorem plantLost (h : I s) : I (plantLost s) := by
  have htanks : ∀ l : List TankId, I (l.foldl (fun acc k => Machine.tankLost k acc) s) := fun l => by
    induction l generalizing s with
    | nil => exact h
    | cons k l ih => exact ih (L.tankLost k h)
  have hall := htanks allTanks
  unfold Machine.plantLost
  generalize allTanks.foldl (fun acc k => Machine.tankLost k acc) s = t at hall ⊢
  refine L.frame.failRun 3 hall fun r _ => L.joinPump _ _ (L.setTank (k := r.tank) ?_ (L.setWater ?_ hall)) <;> rfl

/-- The ports that an event has lost, for a property that no write of the gates' records touches (R43). -/
theorem settleLost (hgate : ∀ {t : State} {g : GateUnit}, I t → I { t with gate := g }) (ups : List PortId) (h : I s) :
    I (settleLost ups s) :=
  L.frame.settleLost (L.frame.borne_of_gate hgate fun _ => L.plantLost) ups h

end Steps

end Loose

end Sys2Proof.Machine

/-! PROOFS. What a line composed and its charge make of the Tally Unit (R152, R156, R163 to R166), and the account orders
PAYMENT and CLOSE_PERIOD (R157, R158). -/

namespace Sys2Proof.Machine

/-! ### A line composed (R163, R164, R165) -/

/-- The Tally Unit's record without what a line's place decides: the page, its search, and the pending lines. -/
def pageBlank (t : TallyUnit) : TallyUnit := { t with lines := [], page := none, poolRead := false, poolEmptyGiven := false }

/-- Of a state's units the Tally Unit alone has changed, to a record that is `B` but for the page and the pending lines. -/
def Lined (B : TallyUnit) (s t : State) : Prop := ∃ T, Alike t (putTally (fun _ => T) s) ∧ pageBlank T = pageBlank B

namespace Lined

variable {B : TallyUnit} {s t : State}

theorem tally (h : Lined B s t) : pageBlank t.tally = pageBlank B := by
  obtain ⟨T, ha, hT⟩ := h
  rw [ha.tally]
  exact hT

theorem accounts (h : Lined B s t) : t.tally.accounts = B.accounts := (congrArg TallyUnit.accounts h.tally :)
theorem lineNumber (h : Lined B s t) : t.tally.lineNumber = B.lineNumber := (congrArg TallyUnit.lineNumber h.tally :)

/-- The Tally Unit's record written, and what follows of requests. -/
theorem written (h : Lined B s t) {T C : TallyUnit} {u : State} (hu : Alike u { t with tally := T })
    (hT : pageBlank T = pageBlank C) : Lined C s u := by
  obtain ⟨T', ha, -⟩ := h
  exact ⟨T, hu.trans (ha.update (putTally fun _ => T)), hT⟩

theorem alike (h : Lined B s t) {u : State} (hu : Alike u t) : Lined B s u := by
  obtain ⟨T, ha, hT⟩ := h
  exact ⟨T, hu.trans ha, hT⟩

theorem refl : Lined s.tally s s := ⟨s.tally, Alike.refl, rfl⟩

theorem pageSearch (h : Lined B s t) : Lined B s (pageSearch t) := by
  unfold Machine.pageSearch
  split
  · exact h.written (Alike.refl.present _ _) h.tally
  · exact h

theorem setTally (h : Lined B s t) {T C : TallyUnit} (hT : pageBlank T = pageBlank C) : Lined C s (setTally T t) :=
  h.written (T := T) (Alike.refl.postChanged _ _) hT

theorem closePage (h : Lined B s t) (r : Nat) : Lined B s (closePage r t) := by
  unfold Machine.closePage
  split
  · exact h
  · next p _ =>
    dsimp only
    have hplaced : Alike (placeTold .tally (.line 4) p.addr (p.header true) t) t :=
      Alike.refl.of_posted (besides_placeTold ..) (kept_placeTold ..)
    have hnoted := h.alike (hplaced.notify
      { kind := .pageClosed, reason := r, subject := p.seq.toNat, first := p.addr, second := p.lines })
    generalize Machine.notify _ _ = u at hnoted ⊢
    exact hnoted.setTally hnoted.tally

theorem placeLine (h : Lined B s t) (l : TallyLine) (T : TallyUnit) (hpage : t.tally.page.isSome = true) :
    Lined T s (placeLine l T t) := by
  unfold Machine.placeLine
  split
  · next hnone => simp [hnone] at hpage
  · next p _ =>
    dsimp only
    have hitems : Alike (placeItems (p.addr + p.used + l.header.length) l.items t) t := by
      unfold placeItems
      split
      · exact Alike.refl
      · exact Alike.refl.present _ _
    have hplaced := h.alike ((Alike.refl.of_posted (besides_placeTold .tally (.line 4) p.addr ((p.withLine l).header false)
      (present .tally (.place (p.addr + p.used) l.header) (placeItems (p.addr + p.used + l.header.length) l.items t)))
      (kept_placeTold ..)).trans (hitems.present .tally (.place (p.addr + p.used) l.header)))
    have hset := hplaced.setTally (T := { T with page := some (p.withLine l) }) (C := T) rfl
    split
    · exact (hset.closePage 1).pageSearch
    · exact hset

theorem pendLine (h : Lined B s t) (l : TallyLine) (T : TallyUnit) : Lined T s (pendLine l T t) := by
  unfold Machine.pendLine
  dsimp only
  have hset := h.setTally (T := { T with lines := T.lines ++ [l] }) (C := T) rfl
  split
  · refine Lined.written (T := { (Machine.setTally { T with lines := T.lines ++ [l] } t).tally with poolEmptyGiven := true })
      hset (Alike.refl.notify _) ?_
    exact hset.tally
  · exact hset

theorem composeLine (h : Lined B s t) (before : TallyUnit) (reserved : Bool) (header : Word → List Byte)
    (items : List Byte) : Lined (before.composed reserved) s (composeLine before reserved header items t) := by
  unfold Machine.composeLine
  dsimp only
  split
  · next hnow =>
    have hpage : t.tally.page.isSome = true := by
      simp only [placesAtOnce, Bool.and_eq_true] at hnow
      exact hnow.2
    exact h.placeLine _ _ hpage
  · exact h.pendLine _ _

theorem tellOfLine (h : Lined B s t) (r : Rec) (a : State) : Lined B s (tellOfLine r a t) :=
  h.alike (Alike.refl.of_posted (besides_tellOfLine ..) (kept_tellOfLine ..))

end Lined

/-! ### The credit test (R152) -/

/-- An account's record with CREDIT_STOP at its condition. -/
def creditTested (a : AccountId) (s : State) : State :=
  putAccount a { s.tally.accounts[a] with creditStop := creditStopNow a s } s

theorem putAccount_self (a : AccountId) (s : State) : putAccount a s.tally.accounts[a] s = s := by
  have hself : s.tally.accounts.set a s.tally.accounts[a] = s.tally.accounts := Vector.set_getElem_self ..
  unfold putAccount
  rw [hself]

theorem creditTested_of_eq {a : AccountId} {s : State} (h : s.tally.accounts[a].creditStop = creditStopNow a s) :
    creditTested a s = s := by
  unfold creditTested
  rw [← h]
  exact putAccount_self a s

theorem alike_creditTest (a : AccountId) (s : State) : Alike (creditTest a s) (creditTested a s) := by
  unfold creditTest
  split
  · next h =>
    rw [creditTested_of_eq h]
    exact Alike.refl
  · next h =>
    refine Alike.post ?_ _
    unfold creditChange
    dsimp only
    rw [if_neg h]
    exact Alike.refl.notify _

/-- An account's new record, its credit test, and its refresh asked for (R152, R156, R157). -/
theorem alike_charged (a : AccountId) (x : AccountState) (s : State) :
    Alike (post (.balance a) (creditTest a (putAccount a x s)))
      (putAccount a { x with creditStop := creditStopNow a (putAccount a x s) } s) := by
  refine ((alike_creditTest a (putAccount a x s)).post _).trans ?_
  have hx : (putAccount a x s).tally.accounts[a] = x := Vector.getElem_set_self ..
  unfold creditTested
  rw [hx]
  unfold putAccount
  dsimp only
  rw [Vector.set_set]
  exact Alike.refl

theorem creditStopNow_putAccount (a : AccountId) (x : AccountState) (s : State) : creditStopNow a (putAccount a x s) =
    match lookup s.table.accounts a.val with | none => false | some e => decide (e.limit ≤ x.balance) := by
  have hx : (putAccount a x s).tally.accounts[a] = x := Vector.getElem_set_self ..
  unfold creditStopNow accountEntry
  rw [hx]
  rfl

/-! ### What the end of an event leaves of the Tally Unit -/

/-- The pause flag aside, an event's end leaves the Tally Unit's record. -/
theorem tally_tidy {α : Type} (g : TallyUnit → α) (hg : ∀ (t : TallyUnit) (p : Bool), g { t with pause := p } = g t := by
      exact fun _ _ => rfl) (b s : State) : g (tidy b s).tally = g s.tally := by
  have hloose : Loose fun t => g t.tally = g s.tally :=
    { besides := fun hb h => by rw [tally_of_besides hb]; exact h
      port := fun _ => id, bay := id, yard := fun _ => id, water := fun _ => id, free := id }
  refine hloose.settleLost id _ ?_
  obtain ⟨flag, hflag⟩ := tally_pauseCheck s
  rw [hflag]
  exact hg ..

/-- An order's row: its result, and what its owner's effect leaves at the end of its event. -/
theorem orderRow_ends {kind : Nat} {entry : List Byte} {s u : State} (h : orderRead kind entry s) {want : Nat → Bool}
    (hwant : want kind = true) {f : List Byte → State → Result × State} {r : Result}
    (hf : f entry (orderTakenUp entry s) = (r, u)) (hpart : u.exch.part = .running)
    (htaken : u.exch.orderTaken = s.exch.orderTaken) (hbases : u.path.bases = s.path.bases) :
    answered r s (orderRow want f s) ∧ besides (orderRow want f s) = besides (tidy (orderTakenUp entry s) u) := by
  have hk := kept_tidy (orderTakenUp entry s) u
  have ht : (tidy (orderTakenUp entry s) u).exch.orderTaken = u.exch.orderTaken := (congrArg (fun k => k.exch.orderTaken) hk :)
  have hb : (tidy (orderTakenUp entry s) u).path.bases = u.path.bases := (congrArg (fun k => k.path.bases) hk :)
  rw [orderRow_eq h hwant hf ((part_of_kept hk).trans hpart)]
  exact ⟨answered_order_end (ht.trans htaken) (hb.trans hbases), besides_order_end ..⟩

theorem calm_orderTakenUp {s : State} (h : calm s) (entry : List Byte) : calm (orderTakenUp entry s) :=
  calm_dropReturned h _

theorem tallyFull_of_calm {s : State} (h : calm s) : tallyFull s = false := by
  obtain ⟨-, -, -, -, hfew⟩ := h
  have hplaces : Config.pauseCount ≤ Config.pendingPlaces := by decide
  exact decide_eq_false (by omega)

/-! ### PAYMENT (R157) -/

/-- An account's record after a payment, its CREDIT_STOP aside. -/
def AccountState.paid (amount : Nat) (x : AccountState) : AccountState :=
  { x with balance := x.balance - amount, payments := x.payments + amount, paymentCount := x.paymentCount + 1 }

theorem paymentOrder_eq {entry : List Byte} {s : State} {a : AccountId} (ha : a.val = arg16 4 entry)
    (hlow : 1 ≤ arg32 entry) (hhigh : arg32 entry ≤ 2147483647) : paymentOrder entry s =
      if tallyFull s then (.tallyFull, s)
      else if s.tally.accounts[a].balance < arg32 entry then (.refusedRange, s)
      else (.done, payAccount a (arg32 entry) (tellOfLine (.balance a) s (composePayment a (arg32 entry) s))) := by
  have hrange : ¬ (arg32 entry < 1 ∨ 2147483647 < arg32 entry) := by omega
  simp only [paymentOrder, ← ha, accountOf_val]
  exact if_neg hrange

/-- A payment made: the account's record, the line counter, and what stands of the Exchange and the Path Unit. -/
theorem payAccount_spec (a : AccountId) (amount : Nat) (s : State) :
    let t := payAccount a amount (tellOfLine (.balance a) s (composePayment a amount s))
    t.tally.lineNumber = s.tally.lineNumber + 1 ∧ kept t = kept s ∧
      t.tally.accounts = s.tally.accounts.set a { s.tally.accounts[a].paid amount with
        creditStop := match lookup s.table.accounts a.val with
          | none => false
          | some e => decide (e.limit ≤ s.tally.accounts[a].balance - amount) } := by
  have hlined : Lined (s.tally.composed false) s (tellOfLine (.balance a) s (composePayment a amount s)) :=
    (Lined.refl.composeLine ..).tellOfLine _ _
  have hkept : kept (tellOfLine (.balance a) s (composePayment a amount s)) = kept s := by
    rw [kept_tellOfLine]
    exact kept_composeLine rfl rfl
  have htable : (tellOfLine (.balance a) s (composePayment a amount s)).table = s.table := (congrArg Kept.table hkept :)
  have haccounts : (tellOfLine (.balance a) s (composePayment a amount s)).tally.accounts = s.tally.accounts :=
    hlined.accounts
  have hline : (tellOfLine (.balance a) s (composePayment a amount s)).tally.lineNumber = s.tally.lineNumber + 1 :=
    hlined.lineNumber
  generalize tellOfLine (.balance a) s (composePayment a amount s) = u at hkept htable haccounts hline ⊢
  intro t
  have hcharged := alike_charged a (u.tally.accounts[a].paid amount) u
  have htally := (tally_of_stores (stores_creditEased a (post (.balance a) (creditTest a
    (putAccount a (u.tally.accounts[a].paid amount) u))))).trans hcharged.tally
  have hstop := creditStopNow_putAccount a (u.tally.accounts[a].paid amount) u
  refine ⟨(congrArg TallyUnit.lineNumber htally).trans hline, ?_, ?_⟩
  · exact ((kept_creditEased ..).trans (by simp)).trans hkept
  · refine (congrArg TallyUnit.accounts htally).trans ?_
    show u.tally.accounts.set a _ = _
    rw [hstop, haccounts, htable]
    rfl

/-- A payment done, with its order's end. -/
theorem payment_done {entry : List Byte} {s : State} {a : AccountId} (h : orderReady 9 entry s)
    (ha : a.val = arg16 4 entry) (hlow : 1 ≤ arg32 entry) (hhigh : arg32 entry ≤ 2147483647)
    (hdue : arg32 entry ≤ s.tally.accounts[a].balance) :
    answered .done s (orderRow (fun k => k == 9) paymentOrder s) ∧
      (orderRow (fun k => k == 9) paymentOrder s).tally.lineNumber = s.tally.lineNumber + 1 ∧
      (orderRow (fun k => k == 9) paymentOrder s).tally.accounts = s.tally.accounts.set a
        { s.tally.accounts[a].paid (arg32 entry) with
          creditStop := match lookup s.table.accounts a.val with
            | none => false
            | some e => decide (e.limit ≤ s.tally.accounts[a].balance - arg32 entry) } := by
  have hfew : tallyFull (orderTakenUp entry s) = false := tallyFull_of_calm (calm_orderTakenUp h.1 entry)
  have hf := paymentOrder_eq (s := orderTakenUp entry s) ha hlow hhigh
  have hpayable : ¬ (orderTakenUp entry s).tally.accounts[a].balance < arg32 entry := Nat.not_lt.2 hdue
  rw [hfew, if_neg (by simp), if_neg hpayable] at hf
  obtain ⟨hline, hkept, haccounts⟩ := payAccount_spec a (arg32 entry) (orderTakenUp entry s)
  obtain ⟨hanswered, hunits⟩ := orderRow_ends h.2 (want := fun k => k == 9) rfl hf ((part_of_kept hkept).trans h.2.1)
    (congrArg (fun k => k.exch.orderTaken) hkept :) (congrArg (fun k => k.path.bases) hkept :)
  refine ⟨hanswered, ?_, ?_⟩
  · rw [tally_of_besides hunits, tally_tidy TallyUnit.lineNumber]
    exact hline
  · rw [tally_of_besides hunits, tally_tidy TallyUnit.accounts]
    exact haccounts

/-! ### CLOSE_PERIOD (R158) -/

/-- An account's record with its period closed. -/
def AccountState.closedPeriod (x : AccountState) : AccountState :=
  { x with charges := 0, payments := 0, visitCount := 0, paymentCount := 0, partialPeriod := false }

theorem lined_composePeriod (a : AccountId) (s : State) : Lined (s.tally.composed false) s (composePeriod a s) :=
  Lined.refl.composeLine ..

/-- A period closed: the account's record, the line counter and the invoice number. -/
theorem closePeriodOf_spec (a : AccountId) (s : State) :
    ∃ T, Alike (closePeriodOf a s) (putTally (fun _ => T) s) ∧ T.lineNumber = s.tally.lineNumber + 1 ∧
      T.invoice = s.tally.invoice + 1 ∧ T.accounts = s.tally.accounts.set a s.tally.accounts[a].closedPeriod := by
  obtain ⟨T, ha, hT⟩ := lined_composePeriod a s
  have haccounts : T.accounts = s.tally.accounts := (congrArg TallyUnit.accounts hT :)
  have hline : T.lineNumber = s.tally.lineNumber + 1 := (congrArg TallyUnit.lineNumber hT :)
  have hinvoice : T.invoice = s.tally.invoice := (congrArg TallyUnit.invoice hT :)
  refine ⟨{ T with invoice := T.invoice + 1, accounts := T.accounts.set a T.accounts[a].closedPeriod }, ?_, hline,
    congrArg (· + 1) hinvoice, by rw [haccounts]⟩
  have hset := ha.setTally fun t => { t with invoice := t.invoice + 1 }
  exact hset.update fun x => putAccount a x.tally.accounts[a].closedPeriod x

theorem closePeriod_done {entry : List Byte} {s : State} {a : AccountId} (h : orderReady 10 entry s)
    (ha : a.val = arg16 4 entry) :
    answered .done s (orderRow (fun k => k == 10) closePeriodOrder s) ∧
      (orderRow (fun k => k == 10) closePeriodOrder s).tally.lineNumber = s.tally.lineNumber + 1 ∧
      (orderRow (fun k => k == 10) closePeriodOrder s).tally.invoice = s.tally.invoice + 1 ∧
      (orderRow (fun k => k == 10) closePeriodOrder s).tally.accounts =
        s.tally.accounts.set a s.tally.accounts[a].closedPeriod := by
  have hfew : tallyFull (orderTakenUp entry s) = false := tallyFull_of_calm (calm_orderTakenUp h.1 entry)
  have hf : closePeriodOrder entry (orderTakenUp entry s) = (.done, closePeriodOf a (orderTakenUp entry s)) := by
    simp only [closePeriodOrder, ← ha, accountOf_val, hfew]
    rfl
  obtain ⟨T, halike, hline, hinvoice, haccounts⟩ := closePeriodOf_spec a (orderTakenUp entry s)
  obtain ⟨hanswered, hunits⟩ := orderRow_ends h.2 (want := fun k => k == 10) rfl hf (halike.part.trans h.2.1)
    halike.orderTaken halike.bases
  have htally : (closePeriodOf a (orderTakenUp entry s)).tally = T := halike.tally
  refine ⟨hanswered, ?_, ?_, ?_⟩
  · rw [tally_of_besides hunits, tally_tidy TallyUnit.lineNumber, htally]
    exact hline
  · rw [tally_of_besides hunits, tally_tidy TallyUnit.invoice, htally]
    exact hinvoice
  · rw [tally_of_besides hunits, tally_tidy TallyUnit.accounts, htally]
    exact haccounts

/-! ### Refusals -/

/-- An order refused with the pause at rest. -/
theorem orderRow_refused_of_steady {kind : Nat} {entry : List Byte} {s : State} (h : orderRead kind entry s)
    (hs : steady s) {want : Nat → Bool} (hwant : want kind = true) {f : List Byte → State → Result × State} {r : Result}
    (hf : f entry (orderTakenUp entry s) = (r, orderTakenUp entry s)) :
    answered r s (orderRow want f s) ∧ sameUnits s (orderRow want f s) := by
  rw [Ended.orderRow_eq h hs hwant hf Alike.refl .of_ports h.1]
  exact ⟨answered_order_end rfl rfl, sameUnits_of_besides (besides_order_end r (orderTakenUp entry s))⟩

/-- Settles O47. -/
theorem paymentsAndPeriods : Obligations.PaymentsAndPeriods := by
  refine ⟨fun entry s h => ⟨fun hrange => ?_, fun a ha hlow hhigh => ⟨fun hless => ?_, fun hdue => ?_⟩⟩,
    fun entry s h => ⟨fun hrange => ?_, fun a ha => ?_⟩, fun k c entry s hmem h hfull hpause haccount hamount => ?_,
    fun entry slot v s h hfull hpause hslot hv hserial hgate => ?_⟩
  · have hf : paymentOrder entry (orderTakenUp entry s) = (.refusedRange, orderTakenUp entry s) := by
      unfold paymentOrder
      split
      · rfl
      · next a hacc =>
        have hbeyond : ¬ 255 < arg16 4 entry := fun hb => by simp [accountOf_beyond hb] at hacc
        exact if_pos (hrange.resolve_left hbeyond)
    obtain ⟨hanswered, hsame, -⟩ := orderRow_refused h (want := fun k => k == 9) rfl hf
    exact ⟨_, rfl, hanswered, hsame⟩
  · have hf := paymentOrder_eq (s := orderTakenUp entry s) ha hlow hhigh
    have hshort : (orderTakenUp entry s).tally.accounts[a].balance < arg32 entry := hless
    rw [tallyFull_of_calm (calm_orderTakenUp h.1 entry), if_neg (by simp), if_pos hshort] at hf
    obtain ⟨hanswered, hsame, -⟩ := orderRow_refused h (want := fun k => k == 9) rfl hf
    exact ⟨_, rfl, hanswered, hsame⟩
  · exact ⟨_, rfl, payment_done h ha hlow hhigh hdue⟩
  · have hf : closePeriodOrder entry (orderTakenUp entry s) = (.refusedRange, orderTakenUp entry s) := by
      simp only [closePeriodOrder, accountOf_beyond hrange]
    obtain ⟨hanswered, hsame, -⟩ := orderRow_refused h (want := fun k => k == 10) rfl hf
    exact ⟨_, rfl, hanswered, hsame⟩
  · exact ⟨_, rfl, closePeriod_done h ha⟩
  · have hs : steady s := Or.inr ⟨hpause, le_trans (by decide) hfull⟩
    have htally : tallyFull (orderTakenUp entry s) = true := decide_eq_true hfull
    simp only [List.mem_cons, Prod.mk.injEq, List.not_mem_nil, or_false] at hmem
    rcases hmem with ⟨rfl, rfl⟩ | ⟨rfl, rfl⟩ | ⟨rfl, rfl⟩
    · obtain ⟨hlow, hhigh⟩ := hamount rfl
      have hf := paymentOrder_eq (s := orderTakenUp entry s) (a := ⟨arg16 4 entry, by have := haccount (by decide); omega⟩)
        rfl hlow hhigh
      rw [htally, if_pos rfl] at hf
      exact ⟨_, rfl, orderRow_refused_of_steady h hs (want := fun k => k == 9) rfl hf⟩
    · have hf : closePeriodOrder entry (orderTakenUp entry s) = (.tallyFull, orderTakenUp entry s) := by
        have hacc : accountOf (arg16 4 entry) = some ⟨arg16 4 entry, by have := haccount (by decide); omega⟩ :=
          dif_pos _
        simp only [closePeriodOrder, hacc, htally]
        rfl
      exact ⟨_, rfl, orderRow_refused_of_steady h hs (want := fun k => k == 10) rfl hf⟩
    · have hf : cutOrder entry (orderTakenUp entry s) = (.tallyFull, orderTakenUp entry s) := if_pos htally
      exact ⟨_, rfl, orderRow_refused_of_steady h hs (want := fun k => k == 13) rfl hf⟩
  · have hs : steady s := Or.inr ⟨hpause, le_trans (by decide) hfull⟩
    have htally : tallyFull (orderTakenUp entry s) = true := decide_eq_true hfull
    have hf : turnAwayOrder slot v entry (orderTakenUp entry s) = (.tallyFull, orderTakenUp entry s) := by
      unfold turnAwayOrder
      rw [if_neg (by simp [hgate]), htally]
      rfl
    have hnamed : onVisit turnAwayOrder entry (orderTakenUp entry s) = (.tallyFull, orderTakenUp entry s) :=
      (onVisit_named (s := orderTakenUp entry s) hslot hv hserial).trans hf
    exact ⟨_, rfl, orderRow_refused_of_steady h hs (want := fun k => k == 2) rfl hnamed⟩

end Sys2Proof.Machine

/-! PROOFS. A request for water: its answer (R117, R119, R120), the grant it makes (R118, R121), and the stage part that starts
on it or waits (R100, R122). -/

namespace Sys2Proof.Machine

/-! ### The answer -/

/-- The best tank of a rising list: the largest room, the first of equals (R119). -/
theorem foldl_roomier_spec (s : State) : ∀ {l : List TankId} {best : Option TankId} {k : TankId}, l.Pairwise (· < ·) →
    (∀ j ∈ best, ∀ i ∈ l, j < i) → l.foldl (roomier s) best = some k →
    (k ∈ best ∨ k ∈ l) ∧ ∀ j, j ∈ best ∨ j ∈ l → room j s ≤ room k s ∧ (j < k → room j s < room k s)
  | [], best, k, _, _, h => by
    refine ⟨Or.inl h, fun j hj => ?_⟩
    obtain rfl : j = k := Option.some.inj ((hj.resolve_right (List.not_mem_nil)).symm.trans h)
    exact ⟨le_rfl, fun hlt => absurd hlt (lt_irrefl _)⟩
  | i :: l, best, k, hsorted, hbefore, h => by
    obtain ⟨hi, hl⟩ := List.pairwise_cons.1 hsorted
    have hnext : ∃ n, roomier s best i = some n ∧ (n ∈ best ∨ n = i) ∧
        ∀ j, j ∈ best ∨ j = i → room j s ≤ room n s ∧ (j < n → room j s < room n s) := by
      cases hb : best with
      | none => exact ⟨i, rfl, Or.inr rfl, fun j hj => by
          obtain rfl := hj.resolve_left (by simp)
          exact ⟨le_rfl, fun hlt => absurd hlt (lt_irrefl _)⟩⟩
      | some m =>
        have hmi : m < i := hbefore m hb i (List.mem_cons_self ..)
        by_cases hroom : room m s < room i s
        · refine ⟨i, by simp [roomier, hroom], Or.inr rfl, fun j hj => ?_⟩
          rcases hj with hj | rfl
          · obtain rfl : m = j := Option.some.inj hj
            exact ⟨hroom.le, fun _ => hroom⟩
          · exact ⟨le_rfl, fun hlt => absurd hlt (lt_irrefl _)⟩
        · refine ⟨m, by simp [roomier, hroom], Or.inl rfl, fun j hj => ?_⟩
          rcases hj with hj | rfl
          · obtain rfl : m = j := Option.some.inj hj
            exact ⟨le_rfl, fun hlt => absurd hlt (lt_irrefl _)⟩
          · exact ⟨Nat.not_lt.1 hroom, fun hlt => absurd hlt hmi.not_gt⟩
    obtain ⟨n, hn, hmem, hbest⟩ := hnext
    have hafter : ∀ j ∈ (some n : Option TankId), ∀ x ∈ l, j < x := by
      intro j hj x hx
      obtain rfl : n = j := Option.some.inj hj
      rcases hmem with hm | rfl
      · exact hbefore _ hm x (List.mem_cons_of_mem _ hx)
      · exact hi x hx
    rw [List.foldl_cons, hn] at h
    obtain ⟨hk, hall⟩ := foldl_roomier_spec s hl hafter h
    have hnk := hall n (Or.inl rfl)
    refine ⟨?_, fun j hj => ?_⟩
    · rcases hk with hk | hk
      · obtain rfl : n = k := Option.some.inj hk
        rcases hmem with hm | rfl
        · exact Or.inl hm
        · exact Or.inr (List.mem_cons_self ..)
      · exact Or.inr (List.mem_cons_of_mem _ hk)
    · have hcases : (j ∈ best ∨ j = i) ∨ j ∈ l := by
        rcases hj with hj | hj
        · exact Or.inl (Or.inl hj)
        · exact (List.mem_cons.1 hj).imp (fun h => Or.inr h) id
      rcases hcases with hj | hj
      · obtain ⟨hle, hlt⟩ := hbest j hj
        refine ⟨hle.trans hnk.1, fun hjk => ?_⟩
        rcases lt_trichotomy j n with hjn | rfl | hnj
        · exact (hlt hjn).trans_le hnk.1
        · exact hnk.2 hjk
        · exact lt_of_le_of_lt hle (hnk.2 (hnj.trans hjk))
      · exact hall j (Or.inr hj)

theorem chooseTank_eq_some {l : Nat} {k : TankId} {s : State} (h : chooseTank l s = some k) : issuable k s = true ∧
    l ≤ room k s ∧
    ∀ j : TankId, issuable j s = true → l ≤ room j s → room j s ≤ room k s ∧ (j < k → room j s < room k s) := by
  have hsorted : (allTanks.filter fun k => issuable k s && decide (l ≤ room k s)).Pairwise (· < ·) :=
    List.Pairwise.filter _ (List.pairwise_lt_finRange 4)
  obtain ⟨hk, hbest⟩ := foldl_roomier_spec s hsorted (by simp) h
  have hk := hk.resolve_left (by simp)
  simp only [List.mem_filter, Bool.and_eq_true, decide_eq_true_eq] at hk
  obtain ⟨-, hissuable, hroom⟩ := hk
  refine ⟨hissuable, hroom, fun j hj hl => hbest j (Or.inr ?_)⟩
  simp [allTanks, hj, hl]

theorem chooseTank_eq_none {l : Nat} {s : State} (h : chooseTank l s = none) (j : TankId)
    (hj : issuable j s = true) : room j s < l := by
  have hsome : ∀ (ks : List TankId) (best : Option TankId), best.isSome ∨ ks ≠ [] → (ks.foldl (roomier s) best).isSome := by
    intro ks
    induction ks with
    | nil => exact fun best hb => hb.resolve_right (by simp)
    | cons i ks ih =>
      refine fun best _ => ih _ (Or.inl ?_)
      unfold roomier
      split
      · rfl
      · split <;> rfl
  by_contra hl
  have hmem : j ∈ allTanks.filter fun k => issuable k s && decide (l ≤ room k s) := by
    simp [allTanks, hj, Nat.not_lt.1 hl]
  have := hsome _ none (Or.inr (List.ne_nil_of_mem hmem))
  unfold chooseTank at h
  rw [h] at this
  cases this

theorem freshAnswer_eq_some {l : Nat} {d r : Bool} {s : State} (h : freshAnswer l d s = some r) :
    (r = false ∧ freshDrawn s + l ≤ s.latched.freshAllowance) ∨
      (r = true ∧ d = true ∧ s.latched.freshAllowance < freshDrawn s + l ∧
        freshDrawn s + l ≤ s.latched.freshAllowance + s.latched.freshReserve) := by
  unfold freshAnswer at h
  split at h
  · next hfits => exact Or.inl ⟨(Option.some.inj h).symm, hfits⟩
  · next hover =>
    split at h
    · next hreserve =>
      simp only [Bool.and_eq_true, decide_eq_true_eq] at hreserve
      exact Or.inr ⟨(Option.some.inj h).symm, hreserve.1, Nat.not_le.1 hover, hreserve.2⟩
    · cases h

theorem freshAnswer_eq_none {l : Nat} {d : Bool} {s : State} (h : freshAnswer l d s = none) :
    s.latched.freshAllowance < freshDrawn s + l ∧
      (d = true → s.latched.freshAllowance + s.latched.freshReserve < freshDrawn s + l) := by
  unfold freshAnswer at h
  split at h
  · cases h
  · next hover =>
    split at h
    · cases h
    · next hno =>
      refine ⟨Nat.not_le.1 hover, fun hd => ?_⟩
      simpa [hd] using hno

/-- The answer of a request: from the tank chosen when the class allows it, else from fresh water (R119, R120). -/
theorem answer_eq (w : WaterClass) (l : Nat) (d : Bool) (s : State) : answer w l d s =
    match (if w = .reclaimOk then chooseTank l s else none) with
    | some k => some (.tank k, false)
    | none => (freshAnswer l d s).map fun r => (Source.fresh, r) := by
  cases w with
  | reclaimOk =>
    unfold answer
    cases chooseTank l s <;> rfl
  | freshOnly => rfl
  | none => rfl

theorem answer_tank {w : WaterClass} {l : Nat} {d r : Bool} {k : TankId} {s : State}
    (h : answer w l d s = some (.tank k, r)) : w = .reclaimOk ∧ r = false ∧ chooseTank l s = some k := by
  rw [answer_eq] at h
  split at h
  · next j hj =>
    obtain ⟨hk, hr⟩ := Prod.mk.inj (Option.some.inj h)
    obtain rfl : j = k := Source.tank.inj hk
    split at hj
    · next hw => exact ⟨hw, hr.symm, hj⟩
    · cases hj
  · obtain ⟨x, -, hx⟩ := Option.map_eq_some_iff.1 h
    cases (Prod.mk.inj hx).1

theorem answer_fresh {w : WaterClass} {l : Nat} {d r : Bool} {s : State} (h : answer w l d s = some (.fresh, r)) :
    (w = .reclaimOk → chooseTank l s = none) ∧ freshAnswer l d s = some r := by
  rw [answer_eq] at h
  split at h
  · cases (Prod.mk.inj (Option.some.inj h)).1
  · next hnone =>
    obtain ⟨x, hx, hpair⟩ := Option.map_eq_some_iff.1 h
    refine ⟨fun hw => by rwa [if_pos hw] at hnone, ?_⟩
    rw [hx, (Prod.mk.inj hpair).2]

theorem answer_refused {w : WaterClass} {l : Nat} {d : Bool} {s : State} (h : answer w l d s = none) :
    (w = .reclaimOk → chooseTank l s = none) ∧ freshAnswer l d s = none := by
  rw [answer_eq] at h
  split at h
  · cases h
  · next hnone => exact ⟨fun hw => by rwa [if_pos hw] at hnone, Option.map_eq_none_iff.1 h⟩

theorem issuable_iff {k : TankId} {s : State} : issuable k s = true ↔ tankFitted k s = true ∧
    s.water.tanks[k].quality = .certified ∧ s.water.tanks[k].stale = false ∧
    s.water.tanks[k].pumpPending = false ∧ s.water.tanks[k].pumpRunning = false ∧
    s.ports[plantPort].link = .up := by
  simp [issuable, linkUp, and_assoc]

/-! ### A grant made (R118, R119, R121) -/

/-- What a grant made leaves of the Water Unit. -/
def grantedWater (b : BayId) (src : Source) (m : Grant) (reserve : Bool) (w : WaterUnit) : WaterUnit :=
  { w with
    counter := m.number, grants := w.grants.set b (some m), reserveGiven := w.reserveGiven || reserve
    tanks := match src with
      | .tank k => w.tanks.set k { w.tanks[k] with grants := w.tanks[k].grants ++ [b] }
      | .fresh => w.tanks
      | .none => w.tanks }

theorem alike_noteReserve (b : BayId) (r : Bool) (s : State) :
    Alike (noteReserve b r s) (putWater (fun w => { w with reserveGiven := w.reserveGiven || r }) s) := by
  unfold noteReserve
  split
  · next h =>
    simp only [Bool.and_eq_true, Bool.not_eq_true'] at h
    obtain ⟨rfl, -⟩ := h
    refine (Alike.refl.notify _).trans ?_
    dsimp only [putWater]
    rw [Bool.or_true]
    exact Alike.refl
  · next h =>
    have hsame : (s.water.reserveGiven || r) = s.water.reserveGiven := by
      cases r <;> simp_all
    dsimp only [putWater]
    rw [hsame]
    exact Alike.refl

theorem alike_issueGrant (b : BayId) (src : Source) (l : Nat) (r : Bool) (s : State) :
    Alike (issueGrant b src l r s) (putWater (grantedWater b src (grantMade src l r s) r) s) := by
  rw [issueGrant_eq]
  have hlisted : Alike (listGrant b src { s with water := { s.water with counter := nextGrant s.water.counter } })
      (putWater (fun w => { w with
        counter := nextGrant s.water.counter
        tanks := match src with
          | .tank k => w.tanks.set k { w.tanks[k] with grants := w.tanks[k].grants ++ [b] }
          | .fresh => w.tanks
          | .none => w.tanks }) s) := by
    unfold listGrant
    cases src with
    | tank k => exact Alike.refl.setTankWith k fun t => { t with grants := t.grants ++ [b] }
    | fresh => exact Alike.refl
    | none => exact Alike.refl
  exact (alike_noteReserve b r _).trans ((hlisted.setGrant b (some (grantMade src l r s))).update
    (putWater fun w => { w with reserveGiven := w.reserveGiven || r }))

/-- A grant entered in a place that stood empty: the tank owes its litres, or fresh drawn today counts them (R116, R121). -/
theorem sum_grants_set {f : Option Grant → Nat} (hf : f none = 0) {w : WaterUnit} {b : BayId} (hb : w.grants[b] = none)
    (m : Grant) : ((w.grants.set b (some m)).toList.map f).sum = (w.grants.toList.map f).sum + f (some m) := by
  have hlt : b.val < w.grants.toList.length := by simp
  have hsum := sum_map_set f (some m) w.grants.toList b.val hlt
  have hold : w.grants.toList[b.val] = none := by
    rw [Vector.getElem_toList]
    exact hb
  rw [Vector.toList_set, ← hsum, hold, hf]
  rfl

/-! ### The part that starts, or waits (R100, R122) -/

/-- A bay's record with a part running (R100). -/
def ranBay (r : StageRun) (p : Part) (x : Bay) : Bay :=
  { x.withSession (fun z => { z with part := some p }) with state := .running, timer := some r.remaining }

theorem alike_runPart {b : BayId} {r : StageRun} {p : Part} {s t : State} (h : Alike s t)
    (hup : t.ports[bayPort b].link = .up) (hroom : t.ports[bayPort b].outbound.length < Config.outboundPlaces) :
    Alike (runPart b r p s) (putPort (bayPort b)
      (fun x => { x with outbound := x.outbound ++ [stageStartFrame r.stage.kind p.source r.flow p.granted] })
      (putBay b (ranBay r p) t)) :=
  (h.setBayWith b (ranBay r p)).offer _ hup hroom

/-- A part on a grant of a number, from a source, of some litres. -/
def partOn (n : Nat) (src : Source) (l : Nat) : Part :=
  { grant := some n, source := src, granted := l, last := 0, revoked := false }

theorem partOfGrant_eq {b : BayId} {m : Grant} {s : State} (h : s.water.grants[b] = some m) : partOfGrant b s =
    partOn m.number m.source m.granted := by
  simp only [partOfGrant, h]
  rfl

/-- The state in which a part runs on a grant just made. -/
def startedOn (b : BayId) (r : StageRun) (src : Source) (l : Nat) (reserve : Bool) (s : State) : State :=
  putPort (bayPort b) (fun x => { x with outbound := x.outbound ++ [stageStartFrame r.stage.kind src r.flow l] })
    (putBay b (ranBay r (partOn (grantMade src l reserve s).number src l))
      (putWater (grantedWater b src (grantMade src l reserve s) reserve) s))

/-- The state in which a bay waits for water. -/
def waitingOn (e : WaitEntry) (s : State) : State :=
  putBay e.bay (fun y => { y with state := .waitingWater, timer := none })
    (putWater (fun w => { w with exhaustedGiven := true, waitList := w.waitList ++ [e] }) s)

theorem alike_granted {b : BayId} {r : StageRun} {src : Source} {l : Nat} {reserve : Bool} {s t : State} (h : Alike s t)
    (hup : t.ports[bayPort b].link = .up) (hroom : t.ports[bayPort b].outbound.length < Config.outboundPlaces) :
    Alike (runPart b r (partOfGrant b (issueGrant b src l reserve s)) (issueGrant b src l reserve s))
      (startedOn b r src l reserve t) := by
  have hissued := alike_issueGrant b src l reserve s
  have hplace : (issueGrant b src l reserve s).water.grants[b] = some (grantMade src l reserve s) := by
    rw [hissued.water]
    exact Vector.getElem_set_self ..
  have hmade : grantMade src l reserve s = grantMade src l reserve t := h.reads (grantMade src l reserve)
  have htotal : Alike (issueGrant b src l reserve s) (putWater (grantedWater b src (grantMade src l reserve t) reserve) t) := by
    rw [← hmade]
    exact hissued.trans (h.update (putWater (grantedWater b src (grantMade src l reserve s) reserve)))
  rw [partOfGrant_eq hplace, hmade]
  exact alike_runPart (p := partOn (grantMade src l reserve t).number src l) htotal hup hroom

theorem alike_refuseWater (b : BayId) (l : Nat) (s : State) :
    Alike (refuseWater b l s) (putWater (fun w => { w with exhaustedGiven := true }) s) := by
  unfold refuseWater
  split
  · next h =>
    dsimp only [putWater]
    rw [← h]
    exact Alike.refl
  · exact Alike.refl.notify _

theorem alike_waits {e : WaitEntry} {s t : State} (h : Alike s t) :
    Alike (setBayWith e.bay (fun y => { y with state := .waitingWater, timer := none })
      (joinWaitList e (refuseWater e.bay e.litres s))) (waitingOn e t) := by
  have hrefused := (alike_refuseWater e.bay e.litres s).trans (h.update (putWater fun w => { w with exhaustedGiven := true }))
  exact (hrefused.setWater fun w => { w with waitList := w.waitList ++ [e] }).setBayWith e.bay _

/-- A stage part of a water class starts, or its bay waits (R100). -/
theorem alike_startPart {b : BayId} {z : Session} {r : StageRun} {s t : State} (h : Alike s t)
    (hz : t.bays[b].session = some z) (hr : z.stages[z.current]? = some r) (hwater : r.stage.water ≠ .none)
    (hfallback : t.clock.fallback = false) :
    (∀ src reserve, answer r.stage.water r.litres (decide (0 < z.completed)) t = some (src, reserve) →
      t.ports[bayPort b].link = .up → t.ports[bayPort b].outbound.length < Config.outboundPlaces →
      Alike (startPart b s) (startedOn b r src r.litres reserve t)) ∧
    (answer r.stage.water r.litres (decide (0 < z.completed)) t = none → Alike (startPart b s) (waitingOn
      { bay := b, water := r.stage.water, litres := r.litres, stageDone := decide (0 < z.completed) } t)) := by
  have hask : startPart b s = askWater b z r s := by
    have hz' : s.bays[b].session = some z := by rw [h.bays]; exact hz
    have hf : s.clock.fallback = false := by rw [h.clock]; exact hfallback
    have hstage : z.stage = some r := hr
    unfold startPart
    simp only [hz', hf, hstage, hwater]
    rfl
  have hanswer : answer r.stage.water r.litres (decide (0 < z.completed)) s =
      answer r.stage.water r.litres (decide (0 < z.completed)) t := h.reads (answer _ _ _)
  refine ⟨fun src reserve ha hup hroom => ?_, fun ha => ?_⟩
  · rw [hask]
    unfold askWater
    dsimp only
    rw [hanswer, ha]
    exact alike_granted h hup hroom
  · rw [hask]
    unfold askWater
    dsimp only
    rw [hanswer, ha]
    exact alike_waits (e := ⟨b, r.stage.water, r.litres, decide (0 < z.completed)⟩) h

/-! ### What a part's start is seen by -/

theorem partStarted_startedOn {b : BayId} {r : StageRun} {z : Session} {src : Source} {l : Nat} {reserve : Bool}
    {s : State} (hz : s.bays[b].session = some z) (hwater : r.stage.water ≠ .none) :
    partStarted b r.stage r.remaining l src reserve s (startedOn b r src l reserve s) := by
  have hbay : (startedOn b r src l reserve s).bays[b] = 
      ranBay r (partOn (grantMade src l reserve s).number src l) s.bays[b] := Vector.getElem_set_self ..
  have hport : (startedOn b r src l reserve s).ports[bayPort b].outbound =
      s.ports[bayPort b].outbound ++ [stageStartFrame r.stage.kind src r.flow l] :=
    congrArg Port.outbound (getElem_putPort_self ..)
  have hflow : r.flow = r.stage.flow := if_neg hwater
  have hwu : (startedOn b r src l reserve s).water = grantedWater b src (grantMade src l reserve s) reserve s.water := rfl
  have hdrawn : freshDrawn (startedOn b r src l reserve s) = s.water.settled +
      ((s.water.grants.set b (some (grantMade src l reserve s))).toList.map grantFresh).sum := rfl
  have howed : ∀ k, owed k (startedOn b r src l reserve s) =
      ((s.water.grants.set b (some (grantMade src l reserve s))).toList.map (grantOwes k)).sum := fun _ => rfl
  generalize startedOn b r src l reserve s = t at hbay hport hwu hdrawn howed ⊢
  refine ⟨by rw [hbay]; rfl, by rw [hbay]; rfl, ⟨_, by rw [hbay, ranBay, withSession_some hz], rfl⟩, by rw [hport, hflow], by rw [hwu]; rfl,
    by rw [hwu]; rfl, by rw [hwu]; rfl, by rw [hwu]; rfl, fun k hk => by rw [hwu, hk]; rfl,
    fun hsrc => by rw [hwu, hsrc]; rfl, fun hnone => ⟨fun k hk => ?_, fun hsrc => ?_⟩⟩
  · rw [howed, sum_grants_set rfl hnone, hk]
    congr 1
    simp [grantOwes, grantMade]
  · rw [hdrawn, sum_grants_set rfl hnone, hsrc]
    simp [grantFresh, grantMade, freshDrawn, Nat.add_assoc]

theorem partWaits_waitingOn {b : BayId} {w : WaterClass} {l : Nat} {d : Bool} {s : State} :
    partWaits b w l d s (waitingOn { bay := b, water := w, litres := l, stageDone := d } s) := by
  have hbay : (waitingOn { bay := b, water := w, litres := l, stageDone := d } s).bays[b] =
      { s.bays[b] with state := .waitingWater, timer := none } := Vector.getElem_set_self ..
  exact ⟨by rw [hbay], by rw [hbay], rfl, rfl⟩

/-- What is told of a part's start is told of the bay, its port's queue, the Water Unit and the day alone. -/
theorem partStarted_congr {b : BayId} {g : Stage} {seconds l : Nat} {src : Source} {reserve : Bool} {s s' t t' : State}
    (hout : s'.ports[bayPort b].outbound = s.ports[bayPort b].outbound) (hwater : s'.water = s.water)
    (hday : s'.clock.now.day = s.clock.now.day) (hbay : t'.bays[b] = t.bays[b])
    (hout' : t'.ports[bayPort b].outbound = t.ports[bayPort b].outbound) (hwater' : t'.water = t.water)
    (h : partStarted b g seconds l src reserve s t) : partStarted b g seconds l src reserve s' t' := by
  have hmade : grantMade src l reserve s' = grantMade src l reserve s := by
    unfold grantMade
    rw [hwater, hday]
  have howed : ∀ {u u' : State}, u'.water = u.water → ∀ k, owed k u' = owed k u := fun hu k => by
    unfold owed
    rw [hu]
  have hdrawn : ∀ {u u' : State}, u'.water = u.water → freshDrawn u' = freshDrawn u := fun hu => by
    unfold freshDrawn
    rw [hu]
  simp only [partStarted, hmade, hout, hwater, hbay, hout', hwater', howed hwater, howed hwater', hdrawn hwater,
    hdrawn hwater'] at h ⊢
  exact h

theorem partWaits_congr {b : BayId} {w : WaterClass} {l : Nat} {d : Bool} {s s' t t' : State}
    (hout : s'.ports[bayPort b].outbound = s.ports[bayPort b].outbound) (hwater : s'.water = s.water)
    (hbay : t'.bays[b] = t.bays[b]) (hout' : t'.ports[bayPort b].outbound = t.ports[bayPort b].outbound)
    (hwater' : t'.water = t.water) (h : partWaits b w l d s t) : partWaits b w l d s' t' := by
  simp only [partWaits, hout, hwater, hbay, hout', hwater'] at h ⊢
  exact h

/-- Settles O44. -/
theorem grantsComeFromIssuableTanks : Obligations.GrantsComeFromIssuableTanks := by
  refine ⟨fun k s => issuable_iff, fun w l d r k s h => ?_, fun w l d r s h => ?_, fun w l d s h => ?_,
    fun b z r s hz hr hwater hfallback hup hroom => ⟨fun src reserve ha => ?_, fun ha => ?_⟩⟩
  · obtain ⟨hw, hr, hchosen⟩ := answer_tank h
    exact ⟨hw, hr, chooseTank_eq_some hchosen⟩
  · obtain ⟨hnone, hfresh⟩ := answer_fresh h
    exact ⟨fun hw j hj => chooseTank_eq_none (hnone hw) j hj, freshAnswer_eq_some hfresh⟩
  · obtain ⟨hnone, hfresh⟩ := answer_refused h
    obtain ⟨hover, hreserve⟩ := freshAnswer_eq_none hfresh
    exact ⟨hover, hreserve, fun hw j hj => chooseTank_eq_none (hnone hw) j hj⟩
  · have halike := (alike_startPart Alike.refl hz hr hwater hfallback).1 src reserve ha hup hroom
    exact partStarted_congr rfl rfl rfl (by rw [halike.bays]) (by rw [halike.ports]) halike.water
      (partStarted_startedOn hz hwater)
  · have halike := (alike_startPart Alike.refl hz hr hwater hfallback).2 ha
    exact partWaits_congr rfl rfl (by rw [halike.bays]) (by rw [halike.ports]) halike.water partWaits_waitingOn

end Sys2Proof.Machine

/-! PROOFS. The bay rows BAY_TAG and PRESENCE: a frame taken, a session started or ended (R94 to R100, R107, R109). -/

namespace Sys2Proof.Machine

/-! ### A frame taken at a bay's port (R46) -/

theorem takeInbound_link (l : Latched) (x : Port) : (takeInbound l x).link = x.link := by
  unfold takeInbound
  dsimp only
  split <;> rfl

theorem takeInbound_outbound (l : Latched) (x : Port) : (takeInbound l x).outbound = x.outbound := by
  unfold takeInbound
  dsimp only
  split <;> rfl

theorem takeInbound_inbound (l : Latched) (x : Port) : (takeInbound l x).inbound = x.inbound.tail := by
  unfold takeInbound
  dsimp only
  split <;> rfl

/-- The state with the head frame of a port taken. -/
def frameTaken (p : PortId) (s : State) : State := putPort p (takeInbound s.latched) s

theorem alike_takeFrame (p : PortId) (s : State) : Alike (takeFrame p s) (frameTaken p s) := Alike.refl.takeFrame p

section FrameTaken

variable {p : PortId} {s : State}

theorem link_frameTaken : (frameTaken p s).ports[p].link = s.ports[p].link := by
  unfold frameTaken
  rw [getElem_putPort_self]
  exact takeInbound_link ..

theorem outbound_frameTaken : (frameTaken p s).ports[p].outbound = s.ports[p].outbound := by
  unfold frameTaken
  rw [getElem_putPort_self]
  exact takeInbound_outbound ..

theorem inbound_frameTaken {x : QFrame} {xs : List QFrame} (h : s.ports[p].inbound = x :: xs) :
    (frameTaken p s).ports[p].inbound = xs := by
  unfold frameTaken
  rw [getElem_putPort_self, takeInbound_inbound, h]
  rfl

theorem Ended.frameTaken : Ended s (frameTaken p s) :=
  ⟨rfl, rfl, fun q hq => by unfold Machine.frameTaken; rw [linkUp_putPort (takeInbound_link ..)]; exact hq⟩

end FrameTaken

/-- What follows an update that leaves ports, the pending list and the pause flag alone. -/
theorem Ended.trans_ports {s t u : State} (h : Ended s t) (hports : u.ports = t.ports := by rfl)
    (hpause : u.tally.pause = t.tally.pause := by rfl) (hpending : pendingCount u = pendingCount t := by rfl) : Ended s u :=
  ⟨hpause.trans h.pause, hpending.trans h.pending, fun p hp => by unfold linkUp; rw [hports]; exact h.links p hp⟩

/-- A bay's row on the frame at the head of its queue (R46, R95). -/
theorem bayFrameRow_eq {b : BayId} {x : QFrame} {xs : List QFrame} {s : State} (hq : quiet s)
    (hfit : bayFitted b s = true) (hup : s.ports[bayPort b].link = .up) (hin : s.ports[bayPort b].inbound = x :: xs)
    (act : List Byte → State → State) :
    bayFrameRow b x.kind act s = conclude s (act x.payload (takeFrame (bayPort b) s)) := by
  obtain ⟨-, hpart, -⟩ := hq
  have hhead : headFrame (bayPort b) s = some x := by
    unfold headFrame linkUp working
    rw [hpart, hup, hin]
    rfl
  have hframe : bayFrame b x.kind s = some x := by
    unfold bayFrame
    rw [hhead]
    simp [Option.filter, hfit]
  unfold bayFrameRow
  rw [hframe]

/-! ### A session's end (R107) -/

/-- The state after a session's end, with no visit called. -/
def sessionEnded (b : BayId) (abort : Option AbortReason) (z : Session) (s : State) : State :=
  putVisit z.slot ((s.yard.slots[z.slot]).map (visitAfter abort z)) (putBay b (bayAfter abort) s)

theorem putVisit_self {slot : Slot} {s : State} : putVisit slot s.yard.slots[slot] s = s := by
  have hself : s.yard.slots.set slot s.yard.slots[slot] = s.yard.slots := Vector.set_getElem_self ..
  unfold putVisit
  rw [hself]

/-- SESSION_ABORTED for a session ended with a reason. -/
def noteAbort (b : BayId) (abort : Option AbortReason) (z : Session) (s : State) : State :=
  match abort with
  | none => s
  | some r => notify { kind := .sessionAborted, reason := r.code, subject := b.val, first := z.serial.toNat,
                       second := z.completed } s

/-- The visit of a session ended, when its slot holds one. -/
def washVisit (abort : Option AbortReason) (z : Session) (v : Option Visit) (s : State) : State :=
  match v with
  | none => s
  | some v => setVisit z.slot (some (visitAfter abort z v)) s

theorem endSession_eq {b : BayId} {abort : Option AbortReason} {z : Session} {s : State} (hz : s.bays[b].session = some z) :
    endSession b abort s = arbiterIfFree b (noteAbort b abort z
      (washVisit abort z s.yard.slots[z.slot] (setBayWith b (bayAfter abort) s))) := by
  unfold endSession
  rw [hz] <;> rfl

theorem Alike.noteAbort {s t : State} (h : Alike s t) (b : BayId) (abort : Option AbortReason) (z : Session) :
    Alike (noteAbort b abort z s) t := by
  cases abort with
  | none => exact h
  | some r => exact h.notify _

/-- A run of the arbiter for a bay that is not FREE, or that finds no call (R83). -/
theorem Alike.arbiterIfFree {s t : State} (h : Alike s t) {b : BayId}
    (hcall : t.bays[b].state ≠ .free ∨ nextCall t = none) : Alike (arbiterIfFree b s) t := by
  unfold Machine.arbiterIfFree
  rw [h.bays]
  split
  · next hfree => exact h.arbiter_none (hcall.resolve_left fun hn => hn hfree)
  · exact h

theorem alike_endSession {b : BayId} {abort : Option AbortReason} {z : Session} {s t : State} (h : Alike s t)
    (hz : t.bays[b].session = some z)
    (hcall : (bayAfter abort t.bays[b]).state ≠ .free ∨ nextCall (sessionEnded b abort z t) = none) :
    Alike (endSession b abort s) (sessionEnded b abort z t) := by
  have hbay := h.setBayWith b (bayAfter abort)
  have hvisit : Alike (washVisit abort z s.yard.slots[z.slot] (setBayWith b (bayAfter abort) s)) (sessionEnded b abort z t) := by
    unfold sessionEnded washVisit
    rw [h.yard]
    cases hv : t.yard.slots[z.slot] with
    | none =>
      have hself : putVisit z.slot none (putBay b (bayAfter abort) t) = putBay b (bayAfter abort) t := by
        have hsame := putVisit_self (slot := z.slot) (s := putBay b (bayAfter abort) t)
        rwa [show (putBay b (bayAfter abort) t).yard.slots[z.slot] = none from hv] at hsame
      show Alike _ (putVisit z.slot none (putBay b (bayAfter abort) t))
      rw [hself]
      exact hbay
    | some v => exact hbay.setVisit z.slot (some (visitAfter abort z v))
  rw [endSession_eq (by rw [h.bays]; exact hz)]
  refine (hvisit.noteAbort b abort z).arbiterIfFree ?_
  have hstate : (sessionEnded b abort z t).bays[b] = bayAfter abort t.bays[b] := getElem_putBay_self ..
  rw [hstate]
  exact hcall

/-- A bay with its truck in it is CLEARING after its session (R107). -/
theorem bayAfter_of_on {abort : Option AbortReason} {x : Bay} (ha : abort ≠ some .portLost) (hon : x.presence = .on) :
    bayAfter abort x = { x with bound := none, session := none, timer := none, lastTag := none, state := .clearing } := by
  unfold bayAfter
  dsimp only
  rw [if_neg ha, if_pos hon]

/-! ### A session's start (R96, R99, R100) -/

/-- The state in which a visit's session stands at its start. -/
def sessionBegun (b : BayId) (slot : Slot) (v : Visit) (stages : List Stage) (s : State) : State :=
  putBay b (fun x => { x with session := some (newSession slot v stages), lastTag := none })
    (putVisit slot (some { v with state := .washing, callTimer := none }) s)

theorem getElem_sessionBegun {b : BayId} {slot : Slot} {v : Visit} {stages : List Stage} {s : State} :
    (sessionBegun b slot v stages s).bays[b] =
      { s.bays[b] with session := some (newSession slot v stages), lastTag := none } := getElem_putBay_self ..

/-- A session's first stage. -/
def firstRun (g : Stage) : StageRun := { stage := g, elapsed := 0, short := false, complete := false }

theorem alike_startSession {b : BayId} {slot : Slot} {v : Visit} {p : Programme} {s t : State} (h : Alike s t)
    (hp : v.programme.bind (lookup t.table.programmes) = some p) :
    ∃ u, Alike u (sessionBegun b slot v p.stages t) ∧ startSession b slot v s = startPart b u := by
  refine ⟨_, (h.setVisit slot (some { v with state := .washing, callTimer := none })).setBayWith b
    fun x => { x with session := some (newSession slot v p.stages), lastTag := none }, ?_⟩
  unfold startSession
  rw [h.table, hp]

theorem startSession_unknown {b : BayId} {slot : Slot} {v : Visit} {s : State}
    (hp : v.programme.bind (lookup s.table.programmes) = none) : startSession b slot v s =
      endSession b (some .noProgramme) (setBayWith b (fun x => { x with session := some (newSession slot v []), lastTag := none })
        (setVisit slot (some { v with state := .washing, callTimer := none }) s)) := by
  unfold startSession
  rw [hp]

/-- A stage of class NONE starts at once (R100). -/
theorem alike_startPart_dry {b : BayId} {z : Session} {r : StageRun} {s t : State} (h : Alike s t)
    (hz : t.bays[b].session = some z) (hr : z.stages[z.current]? = some r) (hwater : r.stage.water = .none)
    (hfallback : t.clock.fallback = false) (hup : t.ports[bayPort b].link = .up)
    (hroom : t.ports[bayPort b].outbound.length < Config.outboundPlaces) :
    Alike (startPart b s) (putPort (bayPort b)
      (fun x => { x with outbound := x.outbound ++ [stageStartFrame r.stage.kind .none 0 0] })
      (putBay b (ranBay r dryPart) t)) := by
  have hz' : s.bays[b].session = some z := by rw [h.bays]; exact hz
  have hf : s.clock.fallback = false := by rw [h.clock]; exact hfallback
  have hstage : z.stage = some r := hr
  have hflow : r.flow = 0 := if_pos hwater
  have hrun := alike_runPart (r := r) (p := dryPart) h hup hroom
  rw [hflow] at hrun
  unfold startPart
  simp only [hz', hf, hstage, hwater]
  exact hrun

/-- A session without stages starts none. -/
theorem startPart_of_no_stage {b : BayId} {z : Session} {s : State} (hz : s.bays[b].session = some z)
    (hr : z.stages[z.current]? = none) (hfallback : s.clock.fallback = false) : startPart b s = s := by
  have hstage : z.stage = none := hr
  unfold startPart
  simp only [hz, hfallback, hstage]
  rfl

/-- A row has taken its frame, and its effect leaves an event's end nothing to do. -/
def Took (p : PortId) (xs : List QFrame) (s t : State) : Prop :=
  ∃ u, Alike t u ∧ Ended s u ∧ u.exch.part = .running ∧ u.ports[p].inbound = xs

namespace Took

variable {p : PortId} {xs : List QFrame} {s t : State}

theorem concluded (h : Took p xs s t) (hs : steady s) : conclude s t = t := by
  obtain ⟨u, ha, he, hpart, -⟩ := h
  exact he.conclude ha hs hpart

theorem inbound (h : Took p xs s t) : t.ports[p].inbound = xs := by
  obtain ⟨u, ha, -, -, hin⟩ := h
  rw [ha.ports]
  exact hin

end Took

/-- A bay's row stands before its effect: the frame taken, the port UP with a place free. -/
structure Stood (b : BayId) (xs : List QFrame) (s t : State) : Prop where
  ended : Ended s t
  part : t.exch.part = .running
  inbound : t.ports[bayPort b].inbound = xs
  up : t.ports[bayPort b].link = .up
  fallback : t.clock.fallback = false

namespace Stood

variable {b : BayId} {xs : List QFrame} {s t u : State}

theorem took (h : Stood b xs s t) (ha : Alike u t) : Took (bayPort b) xs s u := ⟨t, ha, h.ended, h.part, h.inbound⟩

/-- An update that leaves ports, the part, the clock and the pending list alone. -/
theorem update (h : Stood b xs s t) (hports : u.ports = t.ports := by rfl) (hpart : u.exch.part = t.exch.part := by rfl)
    (hclock : u.clock = t.clock := by rfl) (hpause : u.tally.pause = t.tally.pause := by rfl)
    (hpending : pendingCount u = pendingCount t := by rfl) : Stood b xs s u :=
  ⟨h.ended.trans_ports hports hpause hpending, hpart.trans h.part, by rw [hports]; exact h.inbound,
    by rw [hports]; exact h.up, by rw [hclock]; exact h.fallback⟩

/-- A frame sent. -/
theorem sent (h : Stood b xs s t) (f : QFrame) :
    Stood b xs s (putPort (bayPort b) (fun x => { x with outbound := x.outbound ++ [f] }) t) :=
  ⟨h.ended.of_sent, h.part, by rw [getElem_putPort_self]; exact h.inbound, by rw [getElem_putPort_self]; exact h.up,
    h.fallback⟩

/-- A session started in a bay with its truck: the row ends with its own effect. -/
theorem startSession (h : Stood b xs s t) (ha : Alike u t) (hroom : t.ports[bayPort b].outbound.length < Config.outboundPlaces)
    (hon : t.bays[b].presence = .on) (slot : Slot) (v : Visit) : Took (bayPort b) xs s (startSession b slot v u) := by
  cases hp : v.programme.bind (lookup t.table.programmes) with
  | none =>
    have hu : v.programme.bind (lookup u.table.programmes) = none := by rw [ha.table]; exact hp
    rw [startSession_unknown hu]
    have hbegun := (ha.setVisit slot (some { v with state := .washing, callTimer := none })).setBayWith b
      fun x => { x with session := some (newSession slot v []), lastTag := none }
    have hz : (sessionBegun b slot v [] t).bays[b].session = some (newSession slot v []) := by rw [getElem_sessionBegun]
    have hstate : (bayAfter (some .noProgramme) (sessionBegun b slot v [] t).bays[b]).state ≠ .free := by
      have hon' : (sessionBegun b slot v [] t).bays[b].presence = .on := by rw [getElem_sessionBegun]; exact hon
      rw [bayAfter_of_on (by simp) hon']
      simp
    exact Stood.took (h.update : Stood b xs s (sessionEnded b (some .noProgramme) (newSession slot v []) (sessionBegun b slot v [] t)))
      (alike_endSession hbegun hz (Or.inl hstate))
  | some p =>
    obtain ⟨w, hw, hstart⟩ := alike_startSession (b := b) (slot := slot) ha hp
    have hbegun : Stood b xs s (sessionBegun b slot v p.stages t) := h.update
    have hz : (sessionBegun b slot v p.stages t).bays[b].session = some (newSession slot v p.stages) := by
      rw [getElem_sessionBegun]
    rw [hstart]
    cases hr : (newSession slot v p.stages).stages[(newSession slot v p.stages).current]? with
    | none =>
      rw [startPart_of_no_stage (by rw [hw.bays]; exact hz) hr (by rw [hw.clock]; exact hbegun.fallback)]
      exact hbegun.took hw
    | some r =>
      by_cases hdry : r.stage.water = .none
      · have hrun := alike_startPart_dry hw hz hr hdry hbegun.fallback hbegun.up hroom
        exact Stood.took (Stood.sent (Stood.update hbegun) _) hrun
      · obtain ⟨hgranted, hrefused⟩ := alike_startPart hw hz hr hdry hbegun.fallback
        cases hans : answer r.stage.water r.litres (decide (0 < (newSession slot v p.stages).completed))
            (sessionBegun b slot v p.stages t) with
        | none => exact Stood.took (Stood.update hbegun) (hrefused hans)
        | some pair => exact Stood.took (Stood.sent (Stood.update hbegun) _) (hgranted pair.1 pair.2 hans hbegun.up hroom)

end Stood

/-! ### What a session's start leaves, seen from the state before the row -/

/-- A request's answer is told of the Water Unit, the parameters and the plant's link alone. -/
theorem answer_congr {s t : State} (hwater : t.water = s.water) (hlatched : t.latched = s.latched)
    (hlink : linkUp plantPort t = linkUp plantPort s) (w : WaterClass) (l : Nat) (d : Bool) :
    answer w l d t = answer w l d s := by
  have hissuable : ∀ k, issuable k t = issuable k s := fun k => by
    simp only [issuable, tankFitted, hwater, hlatched, hlink]
  have hroom : ∀ k, room k t = room k s := fun k => by simp only [room, owed, hwater]
  have hbest : roomier t = roomier s := by
    funext best k
    simp only [roomier, hroom]
  have hdrawn : freshDrawn t = freshDrawn s := by simp only [freshDrawn, hwater]
  have hfresh : freshAnswer l d t = freshAnswer l d s := by
    unfold freshAnswer
    rw [hdrawn, hlatched]
  have hchosen : chooseTank l t = chooseTank l s := by
    simp only [chooseTank, hissuable, hroom, hbest]
  rw [answer_eq, answer_eq, hchosen, hfresh]

/-- A session started on its first stage: of class NONE at once, of any other class on the grant made, or waiting for one
(R99, R100). `t` is the state before the start, `s` the one before the row. -/
theorem started_spec {b : BayId} {slot : Slot} {v : Visit} {p : Programme} {g : Stage} {gs : List Stage} {s t u : State}
    (ha : Alike u t) (hp : v.programme.bind (lookup t.table.programmes) = some p) (hstages : p.stages = g :: gs)
    (hfallback : t.clock.fallback = false) (hup : t.ports[bayPort b].link = .up)
    (hroom : t.ports[bayPort b].outbound.length < Config.outboundPlaces)
    (hout : t.ports[bayPort b].outbound = s.ports[bayPort b].outbound) (hwater : t.water = s.water)
    (hclock : t.clock = s.clock) (hlatched : t.latched = s.latched) (hyard : t.yard = s.yard)
    (hlink : linkUp plantPort t = linkUp plantPort s) {w : State} (hw : w = startSession b slot v u) :
    w.yard.slots = s.yard.slots.set slot (some { v with state := .washing, callTimer := none }) ∧
    (w.bays[b].presence = t.bays[b].presence) ∧
    (g.water = .none → w.bays[b].state = .running ∧ w.bays[b].timer = some g.duration ∧ w.bays[b].lastTag = none ∧
      w.water = s.water ∧
      w.ports[bayPort b].outbound = s.ports[bayPort b].outbound ++ [stageStartFrame g.kind .none 0 0]) ∧
    (g.water ≠ .none →
      (∀ src reserve, answer g.water (ceilDiv (g.flow * g.duration) 60) false s = some (src, reserve) →
        partStarted b g g.duration (ceilDiv (g.flow * g.duration) 60) src reserve s w) ∧
      (answer g.water (ceilDiv (g.flow * g.duration) 60) false s = none →
        partWaits b g.water (ceilDiv (g.flow * g.duration) 60) false s w)) := by
  obtain ⟨u', ha', hstart⟩ := alike_startSession (b := b) (slot := slot) ha hp
  rw [hstart] at hw
  have hz : (sessionBegun b slot v p.stages t).bays[b].session = some (newSession slot v p.stages) := by
    rw [getElem_sessionBegun]
  have hr : (newSession slot v p.stages).stages[(newSession slot v p.stages).current]? = some (firstRun g) := by
    simp only [newSession, hstages, firstRun]
    rfl
  have hslots : (sessionBegun b slot v p.stages t).yard.slots =
      s.yard.slots.set slot (some { v with state := .washing, callTimer := none }) := by
    rw [← hyard]
    rfl
  have hpresence : (sessionBegun b slot v p.stages t).bays[b].presence = t.bays[b].presence := by
    rw [getElem_sessionBegun]
  by_cases hdry : g.water = .none
  · have halike := alike_startPart_dry ha' hz hr hdry hfallback hup hroom
    rw [← hw] at halike
    have hbay : w.bays[b] = ranBay (firstRun g) dryPart (sessionBegun b slot v p.stages t).bays[b] := by
      rw [halike.bays]
      exact getElem_putBay_self ..
    refine ⟨by rw [halike.yard]; exact hslots, ?_, fun _ => ⟨?_, ?_, ?_, ?_, ?_⟩, fun hwet => absurd hdry hwet⟩
    · rw [hbay, ranBay, withSession_some hz]
      exact hpresence
    · rw [hbay]
      rfl
    · rw [hbay]
      rfl
    · rw [hbay, ranBay, withSession_some hz, getElem_sessionBegun]
    · rw [halike.water]
      exact hwater
    · rw [halike.ports, getElem_putPort_self]
      exact congrArg (· ++ _) hout
  · obtain ⟨hgranted, hrefused⟩ := alike_startPart ha' hz hr hdry hfallback
    have hans : ∀ w l d, answer w l d (sessionBegun b slot v p.stages t) = answer w l d s := answer_congr hwater hlatched hlink
    have hday : s.clock.now.day = (sessionBegun b slot v p.stages t).clock.now.day := by rw [← hclock]; rfl
    have hstarted : ∀ src reserve, answer g.water (ceilDiv (g.flow * g.duration) 60) false s = some (src, reserve) →
        Alike w (startedOn b (firstRun g) src (ceilDiv (g.flow * g.duration) 60) reserve (sessionBegun b slot v p.stages t)) :=
      fun src reserve h => by
        rw [hw]
        exact hgranted src reserve ((hans ..).trans h) hup hroom
    have hwaits : answer g.water (ceilDiv (g.flow * g.duration) 60) false s = none → Alike w (waitingOn
        { bay := b, water := g.water, litres := ceilDiv (g.flow * g.duration) 60, stageDone := false }
        (sessionBegun b slot v p.stages t)) := fun h => by
      rw [hw]
      exact hrefused ((hans ..).trans h)
    refine ⟨?_, ?_, fun hno => absurd hno hdry, fun _ => ⟨fun src reserve h => ?_, fun h => ?_⟩⟩
    · cases h : answer g.water (ceilDiv (g.flow * g.duration) 60) false s with
      | none => rw [(hwaits h).yard]; exact hslots
      | some pair => rw [(hstarted pair.1 pair.2 h).yard]; exact hslots
    · cases h : answer g.water (ceilDiv (g.flow * g.duration) 60) false s with
      | none =>
        rw [(hwaits h).bays]
        exact (congrArg Bay.presence (getElem_putBay_self b _ _)).trans hpresence
      | some pair =>
        rw [(hstarted pair.1 pair.2 h).bays]
        refine (congrArg Bay.presence (getElem_putBay_self b _ _)).trans ?_
        show (ranBay _ _ (sessionBegun b slot v p.stages t).bays[b]).presence = _
        rw [ranBay, withSession_some hz]
        exact hpresence
    · have halike := hstarted src reserve h
      exact partStarted_congr hout.symm hwater.symm hday (by rw [halike.bays]) (by rw [halike.ports]) halike.water
        (partStarted_startedOn (r := firstRun g) hz hdry)
    · have halike := hwaits h
      exact partWaits_congr hout.symm hwater.symm (by rw [halike.bays]) (by rw [halike.ports]) halike.water
        partWaits_waitingOn

end Sys2Proof.Machine

/-! PROOFS. BAY_TAG in a CALLING bay (R95, R96). -/

namespace Sys2Proof.Machine

/-- A visit's truck has arrived: its session starts (R96). -/
theorem startIfArrived_start {b : BayId} {slot : Slot} {v : Visit} {s : State} (hv : boundVisit b s = some (slot, v))
    (hon : s.bays[b].presence = .on) (htag : visitTags v s = [] ∨ ∃ g ∈ visitTags v s, s.bays[b].lastTag = some g) :
    startIfArrived b s = startSession b slot v s := by
  have harrived : ((calledTags v s).isEmpty || lastTagMatches b v s) = true := by
    rw [Bool.or_eq_true]
    rcases htag with hnone | ⟨g, hg, hlast⟩
    · exact Or.inl (List.isEmpty_iff.2 hnone)
    · refine Or.inr ?_
      unfold lastTagMatches
      rw [hlast]
      exact List.contains_iff_mem.2 hg
  unfold startIfArrived
  rw [hv]
  dsimp only
  rw [if_pos (by rw [hon, harrived]; rfl)]

/-- A truck that is not there, or whose tag was not read, starts none. -/
theorem startIfArrived_wait {b : BayId} {slot : Slot} {v : Visit} {s : State} (hv : boundVisit b s = some (slot, v))
    (hno : s.bays[b].presence ≠ .on ∨ ¬ (visitTags v s = [] ∨ ∃ g ∈ visitTags v s, s.bays[b].lastTag = some g)) :
    startIfArrived b s = s := by
  unfold startIfArrived
  rw [hv]
  dsimp only
  refine if_neg fun h => ?_
  simp only [Bool.and_eq_true, decide_eq_true_eq, Bool.or_eq_true] at h
  obtain ⟨hon, harrived⟩ := h
  refine (hno.resolve_left fun hn => hn hon) (harrived.imp List.isEmpty_iff.1 fun hlast => ?_)
  unfold lastTagMatches at hlast
  split at hlast
  · cases hlast
  · next g hg => exact ⟨g, List.contains_iff_mem.1 hlast, hg⟩

theorem boundVisit_eq {b : BayId} {slot : Slot} {v : Visit} {s : State} (hbound : s.bays[b].bound = some slot)
    (hv : s.yard.slots[slot] = some v) : boundVisit b s = some (slot, v) := by
  unfold boundVisit
  rw [hbound, Option.bind_some, hv]
  rfl

/-- A bay's record with a tag read. -/
def tagRead (b : BayId) (g : Tag) (s : State) : State := putBay b (fun x => { x with lastTag := some g }) s

theorem calledTag_spec {b : BayId} {slot : Slot} {v : Visit} {g : Tag} {s t : State} (h : Alike s t)
    (hbound : t.bays[b].bound = some slot) (hv : t.yard.slots[slot] = some v) (htags : visitTags v t ≠ []) :
    (g ∉ visitTags v t ∨ t.bays[b].presence ≠ .on → Alike (calledTag b g v s) (tagRead b g t)) ∧
    (g ∈ visitTags v t → t.bays[b].presence = .on →
      ∃ u, Alike u (tagRead b g t) ∧ calledTag b g v s = startSession b slot v u) := by
  have hset : Alike (setBayWith b (fun x => { x with lastTag := some g }) s) (tagRead b g t) := h.setBayWith b _
  have htags' : calledTags v s = visitTags v t := h.reads (visitTags v)
  have hread : (tagRead b g t).bays[b] = { t.bays[b] with lastTag := some g } := getElem_putBay_self ..
  have hbv : boundVisit b (setBayWith b (fun x => { x with lastTag := some g }) s) = some (slot, v) := by
    rw [hset.reads (boundVisit b)]
    exact boundVisit_eq (by rw [hread]; exact hbound) hv
  have hpresence : (setBayWith b (fun x => { x with lastTag := some g }) s).bays[b].presence = t.bays[b].presence := by
    rw [hset.bays, hread]
  have hlast : (setBayWith b (fun x => { x with lastTag := some g }) s).bays[b].lastTag = some g := by
    rw [hset.bays, hread]
  have htags1 : visitTags v (setBayWith b (fun x => { x with lastTag := some g }) s) = visitTags v t :=
    hset.reads (visitTags v)
  have hcalled : calledTag b g v s = if (visitTags v t).contains g then
      startIfArrived b (setBayWith b (fun x => { x with lastTag := some g }) s)
      else wrongVehicle b g (setBayWith b (fun x => { x with lastTag := some g }) s) := by
    unfold calledTag
    rw [htags', if_neg (by simpa using htags)]
  rw [hcalled]
  generalize setBayWith b (fun x => { x with lastTag := some g }) s = u at hset hbv hpresence hlast htags1 ⊢
  refine ⟨fun hno => ?_, fun hg hon => ?_⟩
  · by_cases hg : g ∈ visitTags v t
    · rw [if_pos (List.contains_iff_mem.2 hg), startIfArrived_wait hbv (Or.inl ?_)]
      · exact hset
      · rw [hpresence]
        exact hno.resolve_left fun hn => hn hg
    · rw [if_neg (fun hc => hg (List.contains_iff_mem.1 hc))]
      exact hset.notify _
  · rw [if_pos (List.contains_iff_mem.2 hg), startIfArrived_start hbv (hpresence.trans hon)
      (Or.inr ⟨g, by rw [htags1]; exact hg, hlast⟩)]
    exact ⟨u, hset, rfl⟩

/-- Settles O36. -/
theorem bayTagStartsTheSession : Obligations.BayTagStartsTheSession := by
  intro b slot v x xs s hq hfit hup hin hroom hkind hstate hbound hv htags
  obtain ⟨hcalm, hpart, hfallback⟩ := hq
  have hs := steady_of_calm hcalm
  have hexec : exec (.bayTag b) s = .next (conclude s (bayTagFrame b x.payload (takeFrame (bayPort b) s))) := by
    show Host.Outcome.next (bayFrameRow b Kind.bayTag (bayTagFrame b) s) = _
    rw [← hkind, bayFrameRow_eq ⟨hcalm, hpart, hfallback⟩ hfit hup hin]
  have halike := alike_takeFrame (bayPort b) s
  have hstood : Stood b xs s (frameTaken (bayPort b) s) :=
    ⟨.frameTaken, hpart, inbound_frameTaken hin, link_frameTaken.trans hup, hfallback⟩
  have hroom' : (frameTaken (bayPort b) s).ports[bayPort b].outbound.length < Config.outboundPlaces := by
    rw [outbound_frameTaken]
    exact hroom
  have hlink : linkUp plantPort (frameTaken (bayPort b) s) = linkUp plantPort s := linkUp_putPort (takeInbound_link ..)
  generalize takeFrame (bayPort b) s = a at hexec halike
  by_cases htag : tagOf x.payload = 0
  · have hf : bayTagFrame b x.payload a = sightingInvalid (bayPort b) Kind.bayTag a := if_pos htag
    have hnoted : Alike (bayTagFrame b x.payload a) (frameTaken (bayPort b) s) := by
      rw [hf]
      exact halike.notify _
    have htook := hstood.took hnoted
    refine ⟨_, hexec, ?_⟩
    rw [htook.concluded hs]
    exact ⟨htook.inbound, fun _ => ⟨hnoted.bays, hnoted.yard⟩, fun hno => absurd htag hno,
      fun _ _ _ hno => absurd htag hno, fun _ _ _ hno => absurd htag hno⟩
  · have hf : bayTagFrame b x.payload a = calledTag b (tagOf x.payload) v a := by
      have hbv : boundVisit b a = some (slot, v) := (halike.reads (boundVisit b)).trans (boundVisit_eq hbound hv)
      have hcalling : a.bays[b].state = .calling := by rw [halike.bays]; exact hstate
      unfold bayTagFrame
      rw [if_neg htag, if_pos hcalling, hbv]
    obtain ⟨hwait, hstart⟩ := calledTag_spec (g := tagOf x.payload) halike hbound hv htags
    rw [← hf] at hwait hstart
    refine ⟨_, hexec, ?_⟩
    by_cases hgo : tagOf x.payload ∈ visitTags v s ∧ s.bays[b].presence = .on
    · obtain ⟨hmem, hon⟩ := hgo
      obtain ⟨u, hu, hsession⟩ := hstart hmem hon
      have hon' : (tagRead b (tagOf x.payload) (frameTaken (bayPort b) s)).bays[b].presence = .on := by
        have hread := getElem_putBay_self b (fun x' => { x' with lastTag := some (tagOf x.payload) }) (frameTaken (bayPort b) s)
        exact (congrArg Bay.presence hread).trans hon
      have htook : Took (bayPort b) xs s (bayTagFrame b x.payload a) := by
        rw [hsession]
        exact Stood.startSession (hstood.update : Stood b xs s (tagRead b (tagOf x.payload) (frameTaken (bayPort b) s)))
          hu hroom' hon' slot v
      rw [htook.concluded hs]
      refine ⟨htook.inbound, fun h0 => absurd h0 htag, fun _ hno => absurd hmem hno, fun p g gs _ _ _ hp hstages hdry => ?_,
        fun p g gs _ _ _ hp hstages hwet => ?_⟩
      · obtain ⟨hslots, -, hnone, -⟩ := started_spec (s := s) hu hp hstages hfallback hstood.up hroom' outbound_frameTaken
          rfl rfl rfl rfl hlink hsession
        obtain ⟨hrunning, htimer, hlast, hwater, hsent⟩ := hnone hdry
        exact ⟨hslots, hrunning, htimer, hlast, hsent, hwater⟩
      · obtain ⟨hslots, -, -, hwater⟩ := started_spec (s := s) hu hp hstages hfallback hstood.up hroom' outbound_frameTaken
          rfl rfl rfl rfl hlink hsession
        exact ⟨hslots, hwater hwet⟩
    · have hnot : tagOf x.payload ∉ visitTags v s ∨ s.bays[b].presence ≠ .on := by
        rw [← not_and_or]
        exact hgo
      have hread := hwait hnot
      have htook : Took (bayPort b) xs s (bayTagFrame b x.payload a) :=
        Stood.took (hstood.update : Stood b xs s (tagRead b (tagOf x.payload) (frameTaken (bayPort b) s))) hread
      rw [htook.concluded hs]
      exact ⟨htook.inbound, fun h0 => absurd h0 htag, fun _ _ => ⟨hread.bays, hread.yard⟩,
        fun _ _ _ _ hmem hon => absurd ⟨hmem, hon⟩ hgo, fun _ _ _ _ hmem hon => absurd ⟨hmem, hon⟩ hgo⟩

end Sys2Proof.Machine

/-! PROOFS. PRESENCE by the bay's state (R94, R96, R97, R109, R112). -/

namespace Sys2Proof.Machine

/-! ### The notice of a session's end (R107) -/

theorem arbiterIfFree_eq_self {b : BayId} {s : State} (h : s.bays[b].state ≠ .free ∨ nextCall s = none) :
    arbiterIfFree b s = s := by
  unfold arbiterIfFree
  split
  · next hfree => exact arbiter_of_none (h.resolve_left fun hn => hn hfree)
  · rfl

/-- SESSION_ABORTED stands in its place among the event's notices. -/
theorem ringing_endSession {n k : Nat} {b : BayId} {r : AbortReason} {z : Session} {v : Visit} {s t u : State}
    (ha : Alike t u) (hz : u.bays[b].session = some z) (hv : u.yard.slots[z.slot] = some v)
    (hcall : (bayAfter (some r) u.bays[b]).state ≠ .free ∨ nextCall (sessionEnded b (some r) z u) = none)
    (h : Ringing (n + 4) k s t) :
    noticeNth k { kind := .sessionAborted, reason := r.code, subject := b.val, first := z.serial.toNat,
                  second := z.completed } s.clock.now s (endSession b (some r) t) ∧
      Ringing n (k + 1) s (endSession b (some r) t) := by
  have hz' : t.bays[b].session = some z := by rw [ha.bays]; exact hz
  have hv' : t.yard.slots[z.slot] = some v := by rw [ha.yard]; exact hv
  have hwashed : washVisit (some r) z (some v) (setBayWith b (bayAfter (some r)) t) =
      setVisit z.slot (some (visitAfter (some r) z v)) (setBayWith b (bayAfter (some r)) t) := rfl
  have hring := (h.setBayWith b (bayAfter (some r))).setVisit z.slot (some (visitAfter (some r) z v))
  have hend := endSession_eq (abort := some r) hz'
  rw [hv', hwashed] at hend
  have halike := alike_endSession ha hz hcall
  rw [hend] at halike ⊢
  have hended : Alike (noteAbort b (some r) z (setVisit z.slot (some (visitAfter (some r) z v))
      (setBayWith b (bayAfter (some r)) t))) (sessionEnded b (some r) z u) := by
    have hput := (ha.setBayWith b (bayAfter (some r))).setVisit z.slot (some (visitAfter (some r) z v))
    unfold sessionEnded
    rw [hv]
    exact hput.noteAbort b (some r) z
  have hidle : arbiterIfFree b (noteAbort b (some r) z (setVisit z.slot (some (visitAfter (some r) z v))
      (setBayWith b (bayAfter (some r)) t))) = noteAbort b (some r) z (setVisit z.slot (some (visitAfter (some r) z v))
      (setBayWith b (bayAfter (some r)) t)) := by
    refine arbiterIfFree_eq_self ?_
    have hstate : (sessionEnded b (some r) z u).bays[b] = bayAfter (some r) u.bays[b] := getElem_putBay_self ..
    rw [hended.bays, hended.reads nextCall, hstate]
    exact hcall
  rw [hidle]
  exact ⟨hring.noticed _, hring.notify _⟩

/-! ### A presence that changes (R94) -/

/-- The state with a bay's frame taken and its presence recorded. -/
def seen (b : BayId) (p : Presence) (s : State) : State :=
  putBay b (fun y => { y with presence := p }) (frameTaken (bayPort b) s)

theorem getElem_seen {b : BayId} {p : Presence} {s : State} : (seen b p s).bays[b] = { s.bays[b] with presence := p } :=
  getElem_putBay_self ..

/-- What the row of a presence that changes stands on: the frame taken, the presence recorded. -/
structure Seen (b : BayId) (x : QFrame) (xs : List QFrame) (s u : State) : Prop where
  alike : Alike u (seen b (presenceOf x.payload) s)
  ringing : s.path.queue.length ≤ 32 → Ringing 30 0 s u
  stood : Stood b xs s (seen b (presenceOf x.payload) s)

section Rows

variable {b : BayId} {x : QFrame} {xs : List QFrame} {s : State} (hq : quiet s) (hfit : bayFitted b s = true)
  (hup : s.ports[bayPort b].link = .up) (hin : s.ports[bayPort b].inbound = x :: xs) (hkind : x.kind = Kind.presence)
include hq hfit hup hin hkind

theorem exec_presence : exec (.presence b) s =
    .next (conclude s (presenceFrame b x.payload (takeFrame (bayPort b) s))) := by
  show Host.Outcome.next (bayFrameRow b Kind.presence (presenceFrame b) s) = _
  rw [← hkind, bayFrameRow_eq hq hfit hup hin]

theorem stood_frameTaken : Stood b xs s (frameTaken (bayPort b) s) := by
  obtain ⟨-, hpart, hfallback⟩ := hq
  exact ⟨.frameTaken, hpart, inbound_frameTaken hin, link_frameTaken.trans hup, hfallback⟩

theorem exec_presence_changed (hne : s.bays[b].presence ≠ presenceOf x.payload) : ∃ u, Seen b x xs s u ∧
    (presenceOf x.payload = .on → exec (.presence b) s = .next (conclude s (presenceOn b u))) ∧
    (presenceOf x.payload = .off → exec (.presence b) s = .next (conclude s (presenceOff b u))) := by
  have halike := alike_takeFrame (bayPort b) s
  have hseen : Seen b x xs s (setBayWith b (fun y => { y with presence := presenceOf x.payload }) (takeFrame (bayPort b) s)) :=
    { alike := halike.setBayWith b _
      ringing := fun hlen => ((Ringing.calm hq.1 hq.2.1 hlen).takeFrame _).setBayWith b _
      stood := (stood_frameTaken hq hfit hup hin hkind).update }
  have hne' : (takeFrame (bayPort b) s).bays[b].presence ≠ presenceOf x.payload := by
    rw [halike.bays]
    exact hne
  refine ⟨_, hseen, fun hon => ?_, fun hoff => ?_⟩
  · rw [exec_presence hq hfit hup hin hkind, presenceFrame, if_neg hne', if_pos hon]
  · rw [exec_presence hq hfit hup hin hkind, presenceFrame, if_neg hne', if_neg (by rw [hoff]; simp)]

theorem presence_same (hsame : s.bays[b].presence = presenceOf x.payload) :
    ∃ t, exec (.presence b) s = .next t ∧ t.ports[bayPort b].inbound = xs ∧ t.bays = s.bays ∧
      t.yard = s.yard ∧ t.water = s.water := by
  have halike := alike_takeFrame (bayPort b) s
  have hstay : presenceFrame b x.payload (takeFrame (bayPort b) s) = takeFrame (bayPort b) s := by
    refine if_pos ?_
    rw [halike.bays]
    exact hsame
  have htook := (stood_frameTaken hq hfit hup hin hkind).took halike
  refine ⟨_, exec_presence hq hfit hup hin hkind, ?_⟩
  rw [hstay, htook.concluded (steady_of_calm hq.1)]
  exact ⟨htook.inbound, halike.bays, halike.yard, halike.water⟩

end Rows

/-! ### The bay's state (R96, R97, R107, R109, R112) -/

section States

variable {b : BayId} {x : QFrame} {xs : List QFrame} {s u : State}

/-- A truck in a bay that waits for none is noted. -/
theorem presenceOn_idle (h : Seen b x xs s u) (hstate : s.bays[b].state = .free ∨ s.bays[b].state = .closed) :
    Alike (presenceOn b u) (seen b (presenceOf x.payload) s) := by
  have hbay : u.bays[b].state = s.bays[b].state := by rw [h.alike.bays, getElem_seen]
  unfold presenceOn
  rw [hbay]
  rcases hstate with hfree | hclosed
  · rw [hfree]
    exact h.alike.notify _
  · rw [hclosed]
    exact h.alike.notify _

/-- The truck leaves a CLEARING bay. -/
theorem presenceOff_clearing (h : Seen b x xs s u) (hstate : s.bays[b].state = .clearing) (hqueue : s.yard.queue = []) :
    Alike (presenceOff b u) (putBay b freeOrClosed (seen b (presenceOf x.payload) s)) := by
  have hbay : u.bays[b].state = .clearing := by rw [h.alike.bays, getElem_seen]; exact hstate
  unfold presenceOff
  rw [hbay]
  exact (h.alike.setBayWith b freeOrClosed).arbiterIfFree (Or.inr (nextCall_of_queue_nil hqueue))

theorem presenceOff_calling (h : Seen b x xs s u) (hstate : s.bays[b].state = .calling) :
    Alike (presenceOff b u) (putBay b (fun y => { y with lastTag := none }) (seen b (presenceOf x.payload) s)) := by
  have hbay : u.bays[b].state = .calling := by rw [h.alike.bays, getElem_seen]; exact hstate
  unfold presenceOff
  rw [hbay]
  exact h.alike.setBayWith b _

theorem presenceOff_inSession (h : Seen b x xs s u)
    (hstate : s.bays[b].state = .waitingWater ∨ s.bays[b].state = .running ∨ s.bays[b].state = .settling) :
    presenceOff b u = abortBay b .vehicleLeft u := by
  have hbay : u.bays[b].state = s.bays[b].state := by rw [h.alike.bays, getElem_seen]
  unfold presenceOff
  rw [hbay]
  rcases hstate with hs | hs | hs <;> rw [hs]

theorem bays_putPort (p : PortId) (f : Port → Port) (s : State) : (putPort p f s).bays = s.bays := rfl

theorem bays_putBay_seen (f : Bay → Bay) (p : Presence) :
    (putBay b f (seen b p s)).bays = s.bays.set b (f { s.bays[b] with presence := p }) := by
  unfold seen
  rw [putBay_putBay]
  rfl

/-- A row that ends with a bay's record written on what has been seen. -/
theorem Seen.took (h : Seen b x xs s u) {w : State} {f : Bay → Bay}
    (ha : Alike w (putBay b f (seen b (presenceOf x.payload) s))) : Took (bayPort b) xs s w :=
  Stood.took (h.stood.update : Stood b xs s (putBay b f (seen b (presenceOf x.payload) s))) ha

/-- What a bay with its truck's arrival seen knows of the visit called to it. -/
theorem Seen.bound (h : Seen b x xs s u) {slot : Slot} {v : Visit} (hbound : s.bays[b].bound = some slot)
    (hv : s.yard.slots[slot] = some v) : boundVisit b u = some (slot, v) := by
  rw [h.alike.reads (boundVisit b)]
  exact boundVisit_eq (by rw [getElem_seen]; exact hbound) hv

theorem Seen.presence (h : Seen b x xs s u) : u.bays[b].presence = presenceOf x.payload := by
  rw [h.alike.bays, getElem_seen]

theorem presenceOn_calling (h : Seen b x xs s u) (hstate : s.bays[b].state = .calling) :
    presenceOn b u = startIfArrived b u := by
  have hbay : u.bays[b].state = .calling := by rw [h.alike.bays, getElem_seen]; exact hstate
  unfold presenceOn
  rw [hbay]

/-- The truck leaves a bay whose session waits for water. -/
theorem presenceOff_waiting (h : Seen b x xs s u) (hoff : presenceOf x.payload = .off) {z : Session} {v : Visit}
    (hstate : s.bays[b].state = .waitingWater) (hz : s.bays[b].session = some z) (hv : s.yard.slots[z.slot] = some v)
    (hqueue : s.yard.queue = []) :
    Alike (presenceOff b u) (sessionEnded b (some .vehicleLeft) z
      (putWater (fun w => { w with waitList := w.waitList.filter (fun e => e.bay != b) }) (seen b .off s))) ∧
    (s.path.queue.length ≤ 32 → noticeGiven
      { kind := .sessionAborted, reason := AbortReason.vehicleLeft.code, subject := b.val, first := z.serial.toNat,
        second := z.completed } s (presenceOff b u)) := by
  have hwithdrawn : Alike (withdraw b u)
      (putWater (fun w => { w with waitList := w.waitList.filter (fun e => e.bay != b) }) (seen b .off s)) := by
    rw [← hoff]
    exact h.alike.setWater fun w => { w with waitList := w.waitList.filter (fun e => e.bay != b) }
  have habort : presenceOff b u = endSession b (some .vehicleLeft) (withdraw b u) := by
    rw [presenceOff_inSession h (Or.inl hstate)]
    have hbay : u.bays[b].state = .waitingWater := by rw [h.alike.bays, getElem_seen]; exact hstate
    unfold abortBay
    rw [hbay]
  have hz' : (putWater (fun w => { w with waitList := w.waitList.filter (fun e => e.bay != b) })
      (seen b .off s)).bays[b].session = some z := by
    show (seen b .off s).bays[b].session = some z
    rw [getElem_seen]
    exact hz
  have hcall := Or.inr (a := (bayAfter (some .vehicleLeft) (putWater (fun w => { w with
      waitList := w.waitList.filter (fun e => e.bay != b) }) (seen b .off s)).bays[b]).state ≠ .free)
    (nextCall_of_queue_nil (s := sessionEnded b (some .vehicleLeft) z (putWater (fun w => { w with
      waitList := w.waitList.filter (fun e => e.bay != b) }) (seen b .off s))) hqueue)
  rw [habort]
  refine ⟨alike_endSession hwithdrawn hz' hcall, fun hlen => ?_⟩
  have hring : Ringing (25 + 4) 0 s (withdraw b u) := (h.ringing hlen).setWater _
  obtain ⟨hnth, hafter⟩ := ringing_endSession hwithdrawn hz' hv hcall hring
  exact noticeGiven_of_ringing hnth hafter

/-- The truck leaves a bay whose part runs. -/
theorem presenceOff_running (h : Seen b x xs s u) (hstate : s.bays[b].state = .running)
    (hup : s.ports[bayPort b].link = .up) (hroom : s.ports[bayPort b].outbound.length < Config.outboundPlaces) :
    Alike (presenceOff b u) (putPort (bayPort b) (fun y => { y with outbound := y.outbound ++ [stageStopFrame] })
      (putBay b (fun y => { y with state := .settling, timer := none })
        (putBay b (Bay.withSession (pendAbort .vehicleLeft)) (seen b (presenceOf x.payload) s)))) := by
  have habort : presenceOff b u = stopPart b (setBayWith b (Bay.withSession (pendAbort .vehicleLeft)) u) := by
    have hbay : u.bays[b].state = .running := by rw [h.alike.bays, getElem_seen]; exact hstate
    rw [presenceOff_inSession h (Or.inr (Or.inl hstate))]
    unfold abortBay
    rw [hbay]
  rw [habort]
  exact (h.alike.setBayWith b _).stopPart (link_frameTaken.trans hup)
    ((congrArg List.length outbound_frameTaken).trans_lt hroom)

/-- The truck leaves a bay that settles a part. -/
theorem presenceOff_settling (h : Seen b x xs s u) (hstate : s.bays[b].state = .settling) :
    Alike (presenceOff b u) (putBay b (Bay.withSession (pendAbort .vehicleLeft)) (seen b (presenceOf x.payload) s)) := by
  have hbay : u.bays[b].state = .settling := by rw [h.alike.bays, getElem_seen]; exact hstate
  rw [presenceOff_inSession h (Or.inr (Or.inr hstate))]
  unfold abortBay
  rw [hbay]
  exact h.alike.setBayWith b _

theorem freeOrClosed_eq (y : Bay) :
    freeOrClosed y = { y with holdAfter := false, state := if y.holdAfter then .closed else .free } := by
  unfold freeOrClosed
  cases hhold : y.holdAfter
  · rw [if_neg (by simp), if_neg (by simp), ← hhold]
  · rfl

theorem bayAfter_of_off {r : AbortReason} {y : Bay} (hr : r ≠ .portLost) (hoff : y.presence = .off) :
    bayAfter (some r) y = { y with bound := none, session := none, timer := none, lastTag := none, holdAfter := false,
                                   state := if y.holdAfter then .closed else .free } := by
  unfold bayAfter
  dsimp only
  rw [if_neg (by simpa using hr), if_neg (by rw [hoff]; simp)]
  rw [freeOrClosed_eq]

end States

/-- Settles O35. -/
theorem presenceIsRecorded : Obligations.PresenceIsRecorded := by
  intro b x xs s hq hfit hup hin hkind
  have hs := steady_of_calm hq.1
  have hchanged := exec_presence_changed hq hfit hup hin hkind
  have hput : ∀ f, (putBay b f (seen b (presenceOf x.payload) s)).bays =
      s.bays.set b (f { s.bays[b] with presence := presenceOf x.payload }) := fun f => bays_putBay_seen f _
  refine ⟨presence_same hq hfit hup hin hkind, fun hon hne hstate => ?_, fun hoff hne hstate hqueue => ?_,
    fun slot v hon hne hstate hbound hv hroom => ?_, fun hoff hne hstate => ?_,
    fun z r v hoff hne hstate hz hr hrun hv hqueue => ?_, fun z hoff hne hz => ?_⟩
  · obtain ⟨u, hseen, hexec, -⟩ := hchanged (by rw [hon]; exact hne)
    have halike := presenceOn_idle hseen hstate
    have htook := hseen.stood.took halike
    refine ⟨_, hexec hon, ?_⟩
    rw [htook.concluded hs]
    refine ⟨htook.inbound, ?_, halike.yard, halike.water⟩
    rw [halike.bays, hon]
    rfl
  · obtain ⟨u, hseen, -, hexec⟩ := hchanged (by rw [hoff]; exact hne)
    have halike := presenceOff_clearing hseen hstate hqueue
    have htook := hseen.took halike
    refine ⟨_, hexec hoff, ?_⟩
    rw [htook.concluded hs]
    refine ⟨htook.inbound, ?_, halike.yard⟩
    rw [halike.bays, hput, hoff, freeOrClosed_eq]
  · obtain ⟨u, hseen, hexec, -⟩ := hchanged (by rw [hon]; exact hne)
    have hbv := hseen.bound hbound hv
    have hpresence : u.bays[b].presence = .on := hseen.presence.trans hon
    have htags : visitTags v u = visitTags v s := (hseen.alike.reads (visitTags v) :)
    have hlast : u.bays[b].lastTag = s.bays[b].lastTag := by rw [hseen.alike.bays, getElem_seen]
    have hexec' := hexec hon
    rw [presenceOn_calling hseen hstate] at hexec'
    have hroom' : (seen b (presenceOf x.payload) s).ports[bayPort b].outbound.length < Config.outboundPlaces :=
      (congrArg List.length outbound_frameTaken).trans_lt hroom
    have hlink : linkUp plantPort (seen b (presenceOf x.payload) s) = linkUp plantPort s :=
      linkUp_putPort (takeInbound_link ..)
    have hpresence' : (seen b (presenceOf x.payload) s).bays[b].presence = .on := by rw [getElem_seen]; exact hon
    have hgo : (visitTags v s = [] ∨ ∃ g ∈ visitTags v s, s.bays[b].lastTag = some g) →
        startIfArrived b u = startSession b slot v u ∧ Took (bayPort b) xs s (startSession b slot v u) := fun harrived =>
      ⟨startIfArrived_start hbv hpresence (by rw [htags, hlast]; exact harrived),
        hseen.stood.startSession hseen.alike hroom' hpresence' slot v⟩
    refine ⟨fun hno => ?_, fun p g gs harrived hp hstages hdry => ?_, fun p g gs harrived hp hstages hwet => ?_⟩
    · rw [startIfArrived_wait hbv (Or.inr (by rw [htags, hlast]; exact hno))] at hexec'
      have htook := hseen.stood.took hseen.alike
      refine ⟨_, hexec', ?_⟩
      rw [htook.concluded hs]
      refine ⟨htook.inbound, hseen.alike.yard, ?_, hseen.alike.water⟩
      rw [hseen.alike.bays, hon]
      rfl
    · obtain ⟨hstart, htook⟩ := hgo harrived
      rw [hstart, htook.concluded hs] at hexec'
      obtain ⟨hslots, hstays, hnone, -⟩ := started_spec (s := s) hseen.alike hp hstages hseen.stood.fallback hseen.stood.up
        hroom' outbound_frameTaken rfl rfl rfl rfl hlink rfl
      obtain ⟨hrunning, htimer, hlast, hwater, hsent⟩ := hnone hdry
      exact ⟨_, hexec', htook.inbound, hwater, hslots, hrunning, hstays.trans hpresence', htimer, hlast, hsent⟩
    · obtain ⟨hstart, htook⟩ := hgo harrived
      rw [hstart, htook.concluded hs] at hexec'
      obtain ⟨hslots, hstays, -, hwater⟩ := started_spec (s := s) hseen.alike hp hstages hseen.stood.fallback hseen.stood.up
        hroom' outbound_frameTaken rfl rfl rfl rfl hlink rfl
      exact ⟨_, hexec', htook.inbound, hstays.trans hpresence', hslots, hwater hwet⟩
  · obtain ⟨u, hseen, -, hexec⟩ := hchanged (by rw [hoff]; exact hne)
    have halike := presenceOff_calling hseen hstate
    have htook := hseen.took halike
    refine ⟨_, hexec hoff, ?_⟩
    rw [htook.concluded hs]
    refine ⟨htook.inbound, halike.yard, halike.water, ?_⟩
    rw [halike.bays, hput, hoff]
  · obtain ⟨u, hseen, -, hexec⟩ := hchanged (by rw [hoff]; exact hne)
    obtain ⟨halike, hnoticed⟩ := presenceOff_waiting hseen hoff hstate hz hv hqueue
    have htook : Took (bayPort b) xs s (presenceOff b u) := Stood.took (hoff ▸ hseen.stood.update) halike
    have hsummary : summaryOf z (some .vehicleLeft) =
        { completed := z.completed, total := z.stages.length, fresh := z.fresh, reclaim := z.reclaim,
          detergent := z.detergent + ceilDiv (r.stage.rate * r.elapsed) 60, overrun := z.overrun,
          abort := some .vehicleLeft } := by
      have hdetergent : endDetergent z = ceilDiv (r.stage.rate * r.elapsed) 60 := by
        simp only [endDetergent, Session.stage, hr, hrun]
        rfl
      simp only [summaryOf, hdetergent]
    refine ⟨_, hexec hoff, ?_⟩
    rw [htook.concluded hs]
    refine ⟨htook.inbound, ?_, ?_, halike.water, ?_, hnoticed⟩
    · rw [halike.ports]
      exact outbound_frameTaken
    · rw [halike.bays]
      show (putBay b (bayAfter (some .vehicleLeft)) (seen b .off s)).bays = _
      rw [bays_putBay_seen, bayAfter_of_off (by simp) rfl]
    · rw [halike.yard, ← hsummary]
      show s.yard.slots.set z.slot ((s.yard.slots[z.slot]).map (visitAfter (some .vehicleLeft) z)) = _
      rw [hv]
      rfl
  · have hz' : ({ s.bays[b] with presence := .off } : Bay).session = some z := hz
    refine ⟨fun hstate hroom => ?_, fun hstate => ?_⟩
    · obtain ⟨u, hseen, -, hexec⟩ := hchanged (by rw [hoff]; exact hne)
      have halike := presenceOff_running hseen hstate hup hroom
      have htook : Took (bayPort b) xs s (presenceOff b u) := Stood.took (hseen.stood.update.update.sent _) halike
      refine ⟨_, hexec hoff, ?_⟩
      rw [htook.concluded hs]
      refine ⟨htook.inbound, halike.yard, halike.water, ?_, ?_⟩
      · rw [halike.bays, bays_putPort, putBay_putBay, hput, hoff]
        exact congrArg (s.bays.set b) (congrArg (fun y : Bay => { y with state := .settling, timer := none })
          (withSession_some hz' _))
      · rw [halike.ports, getElem_putPort_self]
        exact congrArg (· ++ _) outbound_frameTaken
    · obtain ⟨u, hseen, -, hexec⟩ := hchanged (by rw [hoff]; exact hne)
      have halike := presenceOff_settling hseen hstate
      have htook := hseen.took halike
      refine ⟨_, hexec hoff, ?_⟩
      rw [htook.concluded hs]
      refine ⟨htook.inbound, halike.yard, halike.water, ?_, ?_⟩
      · rw [halike.bays, hput, hoff]
        exact congrArg (s.bays.set b) (withSession_some hz' _)
      · rw [halike.ports]
        exact outbound_frameTaken

end Sys2Proof.Machine

/-! PROOFS. Pairs at the entry gate: a pair decided, the visit it makes, and what the gates' rows leave (R56, R58 to R63). -/

namespace Sys2Proof.Machine

/-! ### A visit made, held or admitted (R63, R64, R78) -/

/-- The state with the next visit's numbers taken. -/
def numbered (s : State) : State :=
  { s with yard := { s.yard with serial := s.yard.serial + 1, created := s.yard.created + 1 } }

/-- The record of a visit as it joins the queue. -/
def queuedVisit (v : Visit) (s : State) : Visit :=
  { v with state := .queued, reason := none, admitted := some s.clock.now, admission := s.yard.admitted }

/-- The state with a visit QUEUED, no visit called. -/
def queuedUp (slot : Slot) (v : Visit) (s : State) : State :=
  enqueue slot (queuedVisit v s) (putVisit slot (some (queuedVisit v s))
    (putYard (fun y => { y with admitted := y.admitted + 1 }) s))

/-- The state with a visit admitted and the entry barrier told. -/
def admitted (slot : Slot) (v : Visit) (s : State) : State :=
  putPort entryPort (fun x => { x with outbound := x.outbound ++ [raiseFrame v.serial] }) (queuedUp slot v s)

/-- The state with a visit held for a reason. -/
def heldVisit (slot : Slot) (v : Visit) (r : VisitReason) (s : State) : State :=
  putVisit slot (some { v with state := .atGate, reason := some r }) s

theorem createVisit_identified {p : Pair} {b : Basis} {e : Nat} {slot : Slot} {s : State} :
    createVisit p (.identified b e) slot s = settleAdmission slot (newVisit p (.identified b e) s) (numbered s) := rfl

/-- The reason for which a vehicle not identified is held. -/
def heldFor : Ident → VisitReason
  | .unknown => .unknown
  | .uncertain => .uncertain
  | .conflict => .conflict
  | .identified _ _ => .unknown

theorem createVisit_not_identified {p : Pair} {o : Ident} {slot : Slot} {s : State} (ho : ∀ b e, o ≠ .identified b e) :
    createVisit p o slot s = holdVisit slot (newVisit p o s) (heldFor o) (numbered s) := by
  cases o with
  | identified b e => exact absurd rfl (ho b e)
  | unknown => rfl
  | uncertain => rfl
  | conflict => rfl

/-- A visit made is held or admitted. -/
theorem createVisit_cases (p : Pair) (o : Ident) (slot : Slot) (s : State) :
    (∃ r, createVisit p o slot s = holdVisit slot (newVisit p o s) r (numbered s)) ∨
      createVisit p o slot s = admitVisit slot (newVisit p o s) (numbered s) := by
  by_cases ho : ∀ b e, o ≠ .identified b e
  · exact Or.inl ⟨_, createVisit_not_identified ho⟩
  · simp only [ne_eq, not_forall, not_not] at ho
    obtain ⟨b, e, rfl⟩ := ho
    rw [createVisit_identified]
    unfold settleAdmission
    split
    · exact Or.inl ⟨_, rfl⟩
    · exact Or.inr rfl

/-- The admission decision reads the visit, the register and the accounts. -/
theorem admission_numbered (v : Visit) (s : State) : admission v (numbered s) = admission v s := rfl

namespace Alike

variable {s t : State}

theorem holdVisit (h : Alike s t) (slot : Slot) (v : Visit) (r : VisitReason) :
    Alike (holdVisit slot v r s) (heldVisit slot v r t) := (h.setVisit slot _).notify _

theorem queueVisit (h : Alike s t) {slot : Slot} {v : Visit} (hcall : nextCall (queuedUp slot v t) = none) :
    Alike (queueVisit slot v s) (queuedUp slot v t) := by
  have hcheck : ∀ {w : Visit} {u : State}, Alike u (queuedUp slot v t) →
      Alike (unservableCheck slot w u) (queuedUp slot v t) := fun hu => by
    unfold unservableCheck
    split
    · exact hu
    · exact hu.notify _
  have hqueued : Alike (queuedUp slot v s) (queuedUp slot v t) := h.update (queuedUp slot v)
  exact ((hcheck hqueued).arbiter_none hcall).postVisit slot

theorem raiseBarrier (h : Alike s t) {g : Gate} (n : Count) (hup : t.ports[gatePort g].link = .up)
    (hroom : t.ports[gatePort g].outbound.length < Config.outboundPlaces) :
    Alike (raiseBarrier g n s) (putPort (gatePort g) (fun x => { x with outbound := x.outbound ++ [raiseFrame n] }) t) := by
  have hlink : linkUp (gatePort g) s = true := by
    unfold linkUp
    rw [h.ports, hup]
    rfl
  unfold Machine.raiseBarrier
  rw [if_pos hlink]
  exact h.offer _ hup hroom

theorem admitVisit (h : Alike s t) {slot : Slot} {v : Visit} (hcall : nextCall (queuedUp slot v t) = none)
    (hup : t.ports[entryPort].link = .up) (hroom : t.ports[entryPort].outbound.length < Config.outboundPlaces) :
    Alike (admitVisit slot v s) (admitted slot v t) :=
  Alike.raiseBarrier (g := .entry) (h.queueVisit hcall) v.serial hup hroom

end Alike

/-! ### A pair decided (R59 to R62) -/

/-- The gate BLOCKED with a pair. -/
def blockedWith (p : Pair) (s : State) : State :=
  putGate { s.gate with entry := .blocked, pair := some p, outcome := some (identify p s), timer := none } s

theorem freeSlot_eq_some {slot : Slot} {s : State} (hfree : s.yard.slots[slot] = none)
    (hlower : ∀ j : Slot, j < slot → (s.yard.slots[j]).isSome) : freeSlot s = some slot := by
  unfold freeSlot allSlots
  rw [List.find?_eq_some_iff_getElem]
  refine ⟨by rw [hfree]; rfl, slot.val, by simp, by simp, fun j hj => ?_⟩
  have hsome := hlower ⟨j, by omega⟩ hj
  simpa using hsome

theorem freeSlot_eq_none {s : State} (hfull : ∀ slot : Slot, (s.yard.slots[slot]).isSome) : freeSlot s = none := by
  unfold freeSlot
  refine List.find?_eq_none.2 fun slot _ => ?_
  simpa using Option.isSome_iff_ne_none.1 (hfull slot)

theorem exists_freeSlot {s : State} (hfree : ∃ slot : Slot, s.yard.slots[slot] = none) : ∃ slot, freeSlot s = some slot := by
  obtain ⟨slot, hslot⟩ := hfree
  refine Option.isSome_iff_exists.1 (List.find?_isSome.2 ⟨slot, List.mem_finRange slot, ?_⟩)
  rw [hslot]
  rfl

section Decided

variable {p : Pair} {s : State}

theorem decidePair_of_repeat (h : isRepeat p (identify p s) s = true) : decidePair p s = gateWith .ready s := by
  unfold decidePair
  rw [if_pos h]

theorem decidePair_of_full (h : isRepeat p (identify p s) s = false) (hfull : ∀ slot : Slot, (s.yard.slots[slot]).isSome) :
    decidePair p s = notify { kind := .gateBlocked, subject := entryPort.val, first := openVisits s } (blockedWith p s) := by
  unfold decidePair
  rw [if_neg (by rw [h]; simp), freeSlot_eq_none hfull]
  rfl

theorem decidePair_of_free {slot : Slot} (h : isRepeat p (identify p s) s = false) (hfree : freeSlot s = some slot) :
    decidePair p s = createVisit p (identify p s) slot (gateWith .ready s) := by
  unfold decidePair
  rw [if_neg (by rw [h]; simp), hfree]

end Decided

/-! ### What calls and ports lost leave of the entry gate -/

/-- The gate's state, pair and timer, the serial counter, and the entry gate's port. -/
def gateView (s : State) : EntryState × Option Pair × Option Nat × Count × Port :=
  (s.gate.entry, s.gate.pair, s.gate.timer, s.yard.serial, s.ports[entryPort])

theorem getElem_set_ne_entry {p : PortId} {x : Port} {s : State} (hp : p ≠ entryPort) :
    (s.ports.set p x)[entryPort] = s.ports[entryPort] := by
  have hv : p.val ≠ entryPort.val := fun h => hp (Fin.ext h)
  exact Vector.getElem_set_ne _ _ hv

theorem loose_gateView (g : EntryState × Option Pair × Option Nat × Count × Port) : Loose fun t => gateView t = g where
  besides := fun {s t} hb h => by
    have hview : gateView t = gateView s := by
      unfold gateView
      rw [gate_of_besides hb, yard_of_besides hb, ports_of_besides hb]
    exact hview.trans h
  port := fun {s p x} hp h => by
    rw [← h]
    unfold gateView
    dsimp only
    rw [getElem_set_ne_entry hp]
  bay := id
  yard := fun {s y} hy h => by
    rw [← h]
    unfold gateView
    dsimp only
    rw [hy]
  water := fun _ => id
  free := id

theorem borne_gateView {g : EntryState × Option Pair × Option Nat × Count × Port} (hup : g.2.2.2.2.link = .up) :
    Borne fun t => gateView t = g where
  entry := fun {s} hdown h => by
    have hport : s.ports[entryPort].link = .up := by rw [← hup, ← h]; rfl
    unfold linkUp at hdown
    rw [hport] at hdown
    cases hdown
  exit := id
  plant := fun _ h => (loose_gateView g).plantLost h

theorem Frame.queueVisit {I : State → Prop} (F : Frame I) {slot : Slot} {v : Visit} {s : State} (h : I s) :
    I (queueVisit slot v s) := by
  have hcheck : ∀ {w : Visit} {u : State}, I u → I (unservableCheck slot w u) := fun hu => by
    unfold unservableCheck
    split
    · exact hu
    · exact F.notify _ hu
  have hqueued : I (queuedUp slot v s) := by
    refine F.yard ?_ (F.yard ?_ (F.yard ?_ h)) <;> rfl
  exact F.postVisit slot (F.arbiter (hcheck hqueued))

theorem gateView_holdVisit (slot : Slot) (v : Visit) (r : VisitReason) (s : State) :
    gateView (holdVisit slot v r s) = gateView s :=
  (Alike.refl.holdVisit slot v r).reads gateView

/-- A visit admitted with a place free at the gate's port: of what stands at the gate its port's frames alone change. -/
theorem gateView_admitVisit {slot : Slot} {v : Visit} {s : State} (hup : s.ports[entryPort].link = .up)
    (hroom : s.ports[entryPort].outbound.length < Config.outboundPlaces) : gateView (admitVisit slot v s) =
      (s.gate.entry, s.gate.pair, s.gate.timer, s.yard.serial,
        { s.ports[entryPort] with outbound := s.ports[entryPort].outbound ++ [raiseFrame v.serial] }) := by
  have hqueued : gateView (queueVisit slot v s) = gateView s := (loose_gateView _).frame.queueVisit rfl
  have hport : (queueVisit slot v s).ports[entryPort] = s.ports[entryPort] := (congrArg (fun g => g.2.2.2.2) hqueued :)
  have hraised : Alike (admitVisit slot v s) _ := Alike.raiseBarrier (g := .entry) (Alike.refl (s := queueVisit slot v s))
    v.serial (by rw [← hup, ← hport]; rfl) ((congrArg (fun x : Port => x.outbound.length) hport).trans_lt hroom)
  rw [hraised.reads gateView]
  refine Eq.trans ?_ (congrArg (fun g => (g.1, g.2.1, g.2.2.1, g.2.2.2.1,
    { g.2.2.2.2 with outbound := g.2.2.2.2.outbound ++ [raiseFrame v.serial] })) hqueued)
  unfold gateView
  rw [show (putPort (gatePort .entry) (fun x => { x with outbound := x.outbound ++ [raiseFrame v.serial] })
    (queueVisit slot v s)).ports[entryPort] = _ from getElem_putPort_self ..]
  rfl

/-- A visit made: the gate and the serial counter, and the frames at the gate's port. -/
theorem gateView_createVisit {p : Pair} {o : Ident} {slot : Slot} {s : State} (hup : s.ports[entryPort].link = .up)
    (hroom : s.ports[entryPort].outbound.length < Config.outboundPlaces) : ∃ x : Port,
      gateView (createVisit p o slot s) = (s.gate.entry, s.gate.pair, s.gate.timer, s.yard.serial + 1, x) ∧
      x.link = .up ∧ x.inbound = s.ports[entryPort].inbound := by
  rcases createVisit_cases p o slot s with ⟨r, hheld⟩ | hadmitted
  · rw [hheld, gateView_holdVisit]
    exact ⟨_, rfl, hup, rfl⟩
  · rw [hadmitted, gateView_admitVisit (s := numbered s) hup hroom]
    exact ⟨_, rfl, hup, rfl⟩

/-- The end of an event that leaves the Tally Unit's record: the ports lost settled (R43). -/
theorem conclude_eq_settleLost {s t : State} (hs : steady s) (htally : t.tally = s.tally) (hpart : t.exch.part = .running) :
    conclude s t = settleLost (upPorts s) t := by
  have hsteady : steady t := by
    unfold steady pendingCount
    rw [htally]
    exact hs
  unfold conclude
  rw [tidy, pauseCheck_of_steady hsteady, windDown_eq_self (windDownMet_eq_false
    (by rw [part_of_kept (kept_settleLost ..), hpart]; simp))]

/-- The entry gate stands at its event's end, its port UP. -/
theorem gateView_conclude {s t : State} (hs : steady s) (htally : t.tally = s.tally) (hpart : t.exch.part = .running)
    (hup : t.ports[entryPort].link = .up) : gateView (conclude s t) = gateView t := by
  rw [conclude_eq_settleLost hs htally hpart]
  exact (loose_gateView (gateView t)).frame.settleLost (borne_gateView hup) _ rfl

theorem tally_decidePair (p : Pair) (s : State) : (decidePair p s).tally = s.tally := tally_of_stores (stores_decidePair p s)

end Sys2Proof.Machine

/-! PROOFS. PAIRING_TIMER run out (R59 to R64, R75). -/

namespace Sys2Proof.Machine

/-! ### The next visit's fields and its admission (R63, R64) -/

theorem newVisit_spec {p : Pair} {b : Basis} {e : Nat} {x : Vehicle} {s : State}
    (hx : lookup s.table.vehicles e = some x) : newVisit p (.identified b e) s =
      { serial := s.yard.serial + 1, state := .atGate, reason := none, outcome := none, vehicle := some e,
        account := some x.account, programme := some x.programme, axles := some x.axles, tag := p.tag,
        plate := p.plate.map fun y => y.1,
        priority := match accountEntry x.account s with | none => false | some a => a.priority
        bay := none, callCount := 0, entered := s.clock.now, admitted := none, summary := none, left := none,
        callTimer := none, basis := some b, created := s.yard.created, admission := 0 } := by
  unfold newVisit
  simp only [hx]
  rfl

/-- The hold reasons in their order (R64). -/
theorem admission_spec {p : Pair} {b : Basis} {e : Nat} {x : Vehicle} {s : State}
    (hx : lookup s.table.vehicles e = some x) : admission (newVisit p (.identified b e) s) s =
      (if x.barred = true then some .barred
       else if s.tally.accounts[x.account].hostStop = true then some .accountStopped
       else if s.tally.accounts[x.account].creditStop = true ∨
           (match lookup s.table.accounts x.account.val with
             | none => false
             | some a => match lookup s.table.tariffs a.tariff with
               | none => false
               | some f => decide (a.limit < s.tally.accounts[x.account].balance + f.gateFee +
                   f.prices.getD x.programme 0)) = true then
         some .credit
       else if s.tally.pause = true ∨ s.clock.fallback = true then some .depotPaused
       else none) := by
  have hlinked : linkedEntry (newVisit p (.identified b e) s) s = some x := by
    rw [newVisit_spec hx]
    exact hx
  have hvisit := newVisit_spec (p := p) (b := b) hx
  have hcredit : creditFails x.account x.programme s = true ↔ s.tally.accounts[x.account].creditStop = true ∨
      (match lookup s.table.accounts x.account.val with
        | none => false
        | some a => match lookup s.table.tariffs a.tariff with
          | none => false
          | some f => decide (a.limit < s.tally.accounts[x.account].balance + f.gateFee +
              f.prices.getD x.programme 0)) = true := by
    unfold creditFails tariffOfAccount accountEntry Tariff.price
    rw [Bool.or_eq_true]
    refine or_congr Iff.rfl ?_
    cases lookup s.table.accounts x.account.val with
    | none => rfl
    | some a =>
      dsimp only
      rw [Option.bind_some]
      cases lookup s.table.tariffs a.tariff <;> rfl
  have hpaused : paused s = true ↔ s.tally.pause = true ∨ s.clock.fallback = true := by
    unfold paused
    rw [Bool.or_eq_true]
  unfold admission
  rw [hlinked, hvisit]
  simp only [Option.getD_some, hcredit, hpaused]

/-! ### The pair that the timer decides -/

/-- The pair due is decided (R59). -/
theorem exec_pairingTimer {p : Pair} {s : State} (hpart : s.exch.part = .running) (hentry : s.gate.entry = .pairing)
    (htimer : s.gate.timer = some 0) (hpair : s.gate.pair = some p) :
    exec .pairingTimer s = .next (conclude s (decidePair p s)) := by
  have hdue : pairDue s = some p := by
    unfold pairDue working
    rw [hpart, hentry, htimer, hpair]
    rfl
  show execPairingTimer s = _
  unfold execPairingTimer
  rw [hdue]

theorem mem_enqueueAt (slots : Vector (Option Visit) 64) (slot : Slot) (v : Visit) (queue : List Slot) :
    slot ∈ enqueueAt slots slot v queue := by
  obtain ⟨pre, post, -, hput, -⟩ := enqueueAt_split slots slot v queue
  rw [hput]
  exact List.mem_append_right _ (List.mem_cons_self ..)

section Identified

variable {p : Pair} {b : Basis} {e : Nat} {slot : Slot} {s : State} (hq : quiet s) (hident : identify p s = .identified b e)
  (hno : isRepeat p (.identified b e) s = false) (hfree : freeSlot s = some slot)
include hq hident hno hfree

theorem decidePair_identified : decidePair p s =
    settleAdmission slot (newVisit p (.identified b e) s) (numbered (gateWith .ready s)) := by
  rw [decidePair_of_free (by rw [hident]; exact hno) hfree, hident, createVisit_identified]
  rfl

/-- The visit is held (R64). -/
theorem pair_held {r : VisitReason} (hheld : admission (newVisit p (.identified b e) s) s = some r) :
    Alike (conclude s (decidePair p s))
      (heldVisit slot (newVisit p (.identified b e) s) r (numbered (gateWith .ready s))) := by
  have hadmission : admission (newVisit p (.identified b e) s) (numbered (gateWith .ready s)) = some r := hheld
  have hdecided : decidePair p s = holdVisit slot (newVisit p (.identified b e) s) r (numbered (gateWith .ready s)) := by
    rw [decidePair_identified hq hident hno hfree]
    unfold settleAdmission
    rw [hadmission]
  have halike := (Alike.refl (s := numbered (gateWith .ready s))).holdVisit slot (newVisit p (.identified b e) s) r
  rw [hdecided, Ended.conclude .of_ports halike (steady_of_calm hq.1) hq.2.1]
  exact halike

/-- The visit is admitted, and no bay takes one (R64, R75). -/
theorem pair_admitted (hadmitted : admission (newVisit p (.identified b e) s) s = none)
    (hbays : ∀ c : BayId, s.bays[c].state ≠ .free) (hup : s.ports[entryPort].link = .up)
    (hroom : s.ports[entryPort].outbound.length < Config.outboundPlaces) :
    Alike (conclude s (decidePair p s))
      (admitted slot (newVisit p (.identified b e) s) (numbered (gateWith .ready s))) := by
  have hadmission : admission (newVisit p (.identified b e) s) (numbered (gateWith .ready s)) = none := hadmitted
  have hdecided : decidePair p s = admitVisit slot (newVisit p (.identified b e) s) (numbered (gateWith .ready s)) := by
    rw [decidePair_identified hq hident hno hfree]
    unfold settleAdmission
    rw [hadmission]
  have hcall : nextCall (queuedUp slot (newVisit p (.identified b e) s) (numbered (gateWith .ready s))) = none :=
    nextCall_of_no_free hbays
  have halike := (Alike.refl (s := numbered (gateWith .ready s))).admitVisit hcall hup hroom
  rw [hdecided, Ended.conclude (Ended.of_sent .of_ports) halike (steady_of_calm hq.1) hq.2.1]
  exact halike

end Identified

/-! ### The gate after the pair (R59, R62) -/

theorem gate_raiseBarrier (g : Gate) (n : Count) (s : State) : (raiseBarrier g n s).gate = s.gate := by
  have hoffer : (offer (gatePort g) (raiseFrame n) s).gate = s.gate :=
    (congrArg State.gate (besidesPorts_offer (gatePort g) (raiseFrame n) s) :)
  unfold raiseBarrier
  split
  · exact hoffer
  · exact (gate_of_besides (besides_notify ..)).trans hoffer

/-- No pair is open and no timer runs at the entry gate. -/
def atRest (s : State) : Prop := s.gate.timer = none ∧ s.gate.entry ≠ .pairing

theorem loose_atRest : Loose atRest where
  besides := fun hb h => by
    unfold atRest
    rw [gate_of_besides hb]
    exact h
  port := fun _ => id
  bay := id
  yard := fun _ => id
  water := fun _ => id
  free := id

theorem borne_atRest : Borne atRest where
  entry := fun {s} _ _ => by
    have hdown : atRest (gateWith .down s) := ⟨rfl, nofun⟩
    unfold entryLost discardPair pairDiscarded
    split
    · exact hdown
    · exact loose_atRest.notify _ hdown
  exit := id
  plant := fun _ => loose_atRest.plantLost

theorem atRest_createVisit {p : Pair} {o : Ident} {slot : Slot} {s : State} (h : atRest s) :
    atRest (createVisit p o slot s) := by
  rcases createVisit_cases p o slot s with ⟨r, hheld⟩ | hadmitted
  · rw [hheld]
    exact loose_atRest.notify _ (loose_atRest.frame.setVisit slot _ (s := numbered s) h)
  · have hqueued : atRest (queueVisit slot (newVisit p o s) (numbered s)) :=
      loose_atRest.frame.queueVisit (s := numbered s) h
    unfold atRest at hqueued ⊢
    rw [hadmitted, admitVisit, gate_raiseBarrier]
    exact hqueued

theorem atRest_decidePair (p : Pair) (s : State) : atRest (decidePair p s) := by
  have hready : atRest (gateWith .ready s) := ⟨rfl, nofun⟩
  unfold decidePair
  dsimp only
  split
  · exact hready
  · split
    · exact atRest_createVisit hready
    · refine loose_atRest.notify _ ?_
      exact ⟨rfl, nofun⟩

theorem atRest_conclude_decidePair {p : Pair} {s : State} (hq : quiet s) : atRest (conclude s (decidePair p s)) := by
  have hpart : (decidePair p s).exch.part = .running := (part_of_kept (kept_decidePair p s)).trans hq.2.1
  rw [conclude_eq_settleLost (steady_of_calm hq.1) (tally_decidePair p s) hpart]
  exact loose_atRest.frame.settleLost borne_atRest _ (atRest_decidePair p s)

/-- A pair that comes to nothing. -/
theorem pair_repeat {p : Pair} {s : State} (hq : quiet s) (h : isRepeat p (identify p s) s = true) :
    Alike (conclude s (decidePair p s)) (gateWith .ready s) := by
  rw [decidePair_of_repeat h, Ended.conclude (u := gateWith .ready s) .of_ports Alike.refl (steady_of_calm hq.1) hq.2.1]
  exact Alike.refl

/-- A pair for which no slot is free. -/
theorem pair_blocked {p : Pair} {s : State} (hq : quiet s) (h : isRepeat p (identify p s) s = false)
    (hfull : ∀ slot : Slot, (s.yard.slots[slot]).isSome) : Alike (conclude s (decidePair p s)) (blockedWith p s) := by
  have halike := (Alike.refl (s := blockedWith p s)).notify
    { kind := .gateBlocked, subject := entryPort.val, first := openVisits s }
  rw [decidePair_of_full h hfull, Ended.conclude (u := blockedWith p s) .of_ports halike (steady_of_calm hq.1) hq.2.1]
  exact halike

/-- A pair whose vehicle is not identified is held for it (R63). -/
theorem pair_unidentified {p : Pair} {slot : Slot} {s : State} (hq : quiet s) (h : isRepeat p (identify p s) s = false)
    (hfree : freeSlot s = some slot) (ho : ∀ b e, identify p s ≠ .identified b e) :
    Alike (conclude s (decidePair p s))
      (heldVisit slot (newVisit p (identify p s) s) (heldFor (identify p s)) (numbered (gateWith .ready s))) := by
  have halike := (Alike.refl (s := numbered (gateWith .ready s))).holdVisit slot (newVisit p (identify p s) s)
    (heldFor (identify p s))
  have hdecided : decidePair p s = holdVisit slot (newVisit p (identify p s) s) (heldFor (identify p s))
      (numbered (gateWith .ready s)) := by
    rw [decidePair_of_free h hfree, createVisit_not_identified ho]
    rfl
  rw [hdecided, Ended.conclude .of_ports halike (steady_of_calm hq.1) hq.2.1]
  exact halike

/-- Settles O29. -/
theorem pairingTimerDecidesThePair : Obligations.PairingTimerDecidesThePair := by
  refine ⟨fun p b e x s hx => ?_, fun p b e slot s hq hentry htimer hpair hident hno hslot hlower => ?_,
    fun p s hq hentry htimer hpair => ?_⟩
  · have hadmission := admission_spec (p := p) (b := b) hx
    have hvisit := newVisit_spec (p := p) (b := b) hx
    refine ⟨?_, ?_, ?_, ?_, ?_, ?_, ?_, ?_, ?_, ?_, ?_, ?_, ?_, ?_, hadmission⟩ <;> rw [hvisit] <;> rfl
  · have hfree := freeSlot_eq_some hslot hlower
    have hexec := exec_pairingTimer hq.2.1 hentry htimer hpair
    refine ⟨fun r hheld => ?_, fun hadmitted hbays hup hroom => ?_⟩
    · have halike := pair_held hq hident hno hfree hheld
      refine ⟨_, hexec, ?_, ?_, ?_, halike.ports, ?_⟩
      · rw [halike.gate]
        rfl
      all_goals
        rw [halike.yard]
        rfl
    · have halike := pair_admitted hq hident hno hfree hadmitted hbays hup hroom
      refine ⟨_, hexec, ?_, ?_, ?_, halike.bays, ?_, ?_, ?_⟩
      · rw [halike.gate]
        rfl
      · rw [halike.yard]
        rfl
      · rw [halike.yard]
        exact mem_enqueueAt ..
      · rw [halike.yard]
        rfl
      · rw [halike.ports, admitted, getElem_putPort_self]
        rfl
      · rw [halike.yard]
        rfl
  · obtain ⟨htimer', hentry'⟩ := atRest_conclude_decidePair (p := p) hq
    refine ⟨_, exec_pairingTimer hq.2.1 hentry htimer hpair, htimer', hentry', fun hrep => ?_, fun hno hfull => ?_,
      fun slot hno hslot hlower hkind => ?_⟩
    · have halike := pair_repeat hq hrep
      rw [halike.gate, halike.yard]
      exact ⟨rfl, rfl⟩
    · have halike := pair_blocked hq hno hfull
      rw [halike.gate, halike.yard]
      exact ⟨rfl, rfl, rfl⟩
    · have ho : ∀ b e, identify p s ≠ .identified b e := fun b e hident => by
        rw [hident] at hkind
        simp at hkind
      have halike := pair_unidentified hq hno (freeSlot_eq_some hslot hlower) ho
      rw [halike.gate, halike.yard]
      refine ⟨rfl, rfl, rfl, _, rfl, rfl, rfl, rfl, rfl, (newVisit_of_not_identified p s ho).1, rfl, ?_⟩
      show some (heldFor (identify p s)) = _
      cases hident : identify p s with
      | identified b e => exact absurd hident (ho b e)
      | unknown => rfl
      | uncertain => rfl
      | conflict => rfl

end Sys2Proof.Machine

/-! PROOFS. SIGHT_TAG and SIGHT_PLATE at the entry gate (R46, R56, R58, R61, R62). -/

namespace Sys2Proof.Machine

/-! ### A sighting taken (R46, R56, R69) -/

/-- A gate that takes sightings. -/
def gateOpen (g : Gate) (s : State) : Bool :=
  match g with
  | .entry => s.gate.entry == .ready || s.gate.entry == .pairing
  | .exit => s.gate.exitReady

/-- A sighting's row on the frame at the head of its gate's queue. -/
theorem sightingRow_eq {g : Gate} {x : QFrame} {xs : List QFrame} {s : State} (hpart : s.exch.part = .running)
    (hup : s.ports[gatePort g].link = .up) (hin : s.ports[gatePort g].inbound = x :: xs) (hopen : gateOpen g s = true) :
    sightingRow g x.kind s = conclude s (gateSighting g x (takeFrame (gatePort g) s)) := by
  have hhead : headFrame (gatePort g) s = some x := by
    unfold headFrame linkUp working
    rw [hpart, hup, hin]
    rfl
  have hsight : sightingAt g x.kind s = some x := by
    unfold sightingAt
    rw [hhead]
    have hkeep : (x.kind == x.kind && gateOpen g s) = true := by rw [hopen, beq_self_eq_true]; rfl
    exact Option.filter_eq_some_iff.2 ⟨rfl, hkeep⟩
  unfold sightingRow
  rw [hsight]

theorem took_frameTaken {p : PortId} {xs : List QFrame} {x : QFrame} {s t u : State} (hpart : s.exch.part = .running)
    (hin : s.ports[p].inbound = x :: xs) (ha : Alike t u) (hports : u.ports = (frameTaken p s).ports := by rfl)
    (hpause : u.tally.pause = s.tally.pause := by rfl) (hpending : pendingCount u = pendingCount s := by rfl)
    (hexch : u.exch.part = s.exch.part := by rfl) : Took p xs s t :=
  ⟨u, ha, Ended.frameTaken.trans_ports hports hpause hpending, hexch.trans hpart, by rw [hports]; exact inbound_frameTaken hin⟩

/-! ### A pair opened, joined or repeated (R58) -/

theorem pairSighting_none {x : Sighting} {s : State} (h : s.gate.pair = none) : pairSighting x s = openPair x s := by
  unfold pairSighting
  rw [h]

theorem pairSighting_joined {x : Sighting} {p q : Pair} {s : State} (h : s.gate.pair = some p) (hq : p.joined x = some q) :
    pairSighting x s = decidePair q s := by
  unfold pairSighting
  rw [h]
  cases x with
  | tag t =>
    cases htag : p.tag with
    | none =>
      simp only [Pair.joined, htag, Option.isNone_none, if_true, Option.some.injEq] at hq
      simp only [htag, hq]
    | some u => simp [Pair.joined, htag] at hq
  | plate text n =>
    cases hplate : p.plate with
    | none =>
      simp only [Pair.joined, hplate, Option.isNone_none, if_true, Option.some.injEq] at hq
      simp only [hplate, hq]
    | some u => simp [Pair.joined, hplate] at hq

theorem pairSighting_sameKind {x : Sighting} {p : Pair} {s : State} (h : s.gate.pair = some p) (hq : p.joined x = none) :
    pairSighting x s = sameKind (p.holdsValue x) p x s := by
  unfold pairSighting
  rw [h]
  cases x with
  | tag t =>
    cases htag : p.tag with
    | none => simp [Pair.joined, htag] at hq
    | some u =>
      simp only [htag, Pair.holdsValue]
      congr 1
      exact Bool.beq_comm
  | plate text n =>
    cases hplate : p.plate with
    | none => simp [Pair.joined, hplate] at hq
    | some u =>
      simp only [hplate, Pair.holdsValue, Option.map_some]
      congr 1
      exact Bool.beq_comm

/-! ### What a decided pair leaves (R58, R61, R62) -/

/-- The gate, the serial counter and the gate's port after a pair decided. -/
theorem gateView_decidePair {p : Pair} {s : State} (hup : s.ports[entryPort].link = .up)
    (hroom : s.ports[entryPort].outbound.length < Config.outboundPlaces) :
    ∃ x : Port, x.link = .up ∧ x.inbound = s.ports[entryPort].inbound ∧
      (isRepeat p (identify p s) s = true → gateView (decidePair p s) = (.ready, none, none, s.yard.serial, x)) ∧
      (isRepeat p (identify p s) s = false → (∃ slot : Slot, s.yard.slots[slot] = none) →
        gateView (decidePair p s) = (.ready, none, none, s.yard.serial + 1, x)) ∧
      (isRepeat p (identify p s) s = false → (∀ slot : Slot, (s.yard.slots[slot]).isSome) →
        gateView (decidePair p s) = (.blocked, some p, none, s.yard.serial, x)) := by
  by_cases hfull : ∀ slot : Slot, (s.yard.slots[slot]).isSome
  · refine ⟨s.ports[entryPort], hup, rfl, fun hrep => ?_, fun _ ⟨slot, hslot⟩ => ?_, fun hno _ => ?_⟩
    · rw [decidePair_of_repeat hrep]
      rfl
    · have hsome := hfull slot
      rw [hslot] at hsome
      cases hsome
    · rw [decidePair_of_full hno hfull]
      exact (Alike.refl.notify _).reads gateView
  · have hexists : ∃ slot : Slot, s.yard.slots[slot] = none := by
      simp only [not_forall, Option.not_isSome_iff_eq_none] at hfull
      exact hfull
    obtain ⟨slot, hslot⟩ := exists_freeSlot hexists
    cases hrep : isRepeat p (identify p s) s with
    | true =>
      refine ⟨s.ports[entryPort], hup, rfl, fun _ => ?_, nofun, nofun⟩
      rw [decidePair_of_repeat hrep]
      rfl
    | false =>
      obtain ⟨x, hview, hlink, hin⟩ := gateView_createVisit (p := p) (o := identify p s) (slot := slot)
        (s := gateWith .ready s) hup hroom
      refine ⟨x, hlink, hin, nofun, fun _ _ => ?_, fun _ h => absurd h hfull⟩
      rw [decidePair_of_free hrep hslot, hview]
      rfl

/-- The yard stands when a pair comes to nothing or blocks the gate. -/
theorem alike_decidePair {p : Pair} {s t : State} (h : Alike s t) :
    (isRepeat p (identify p t) t = true → Alike (decidePair p s) (gateWith .ready t)) ∧
    (isRepeat p (identify p t) t = false → (∀ slot : Slot, (t.yard.slots[slot]).isSome) →
      Alike (decidePair p s) (blockedWith p t)) := by
  have hrepeat : isRepeat p (identify p s) s = isRepeat p (identify p t) t := h.reads fun x => isRepeat p (identify p x) x
  refine ⟨fun hrep => ?_, fun hno hfull => ?_⟩
  · rw [decidePair_of_repeat (hrepeat.trans hrep)]
    exact h.update (gateWith .ready)
  · rw [decidePair_of_full (hrepeat.trans hno) (by rw [h.yard]; exact hfull)]
    exact (h.update (blockedWith p)).notify _

theorem gate_of_gateView {e : EntryState} {p : Option Pair} {m : Option Nat} {n : Count} {x : Port} {s : State}
    (h : gateView s = (e, p, m, n, x)) :
    s.gate.entry = e ∧ s.gate.pair = p ∧ s.gate.timer = m ∧ s.yard.serial = n ∧ s.ports[entryPort] = x := by
  simpa only [gateView, Prod.mk.injEq] using h

/-! ### The rows at the entry gate -/

section Row

variable {x : QFrame} {xs : List QFrame} {s : State} (hq : quiet s) (hup : s.ports[entryPort].link = .up)
  (hin : s.ports[entryPort].inbound = x :: xs)
include hq hup hin

theorem exec_sighting {c : Instr} {kind : Byte}
    (hc : (c, kind) ∈ [(Instr.sightTag .entry, Kind.sightTag), (.sightPlate .entry, Kind.sightPlate)]) (hkind : x.kind = kind)
    (hopen : s.gate.entry = .ready ∨ s.gate.entry = .pairing) :
    exec c s = .next (conclude s (entrySighting x (takeFrame entryPort s))) := by
  have hgate : gateOpen .entry s = true := by
    unfold gateOpen
    rcases hopen with h | h <;> rw [h] <;> rfl
  have hrow : sightingRow .entry kind s = conclude s (entrySighting x (takeFrame entryPort s)) := by
    rw [← hkind]
    exact sightingRow_eq hq.2.1 hup hin hgate
  rw [← hrow]
  simp only [List.mem_cons, Prod.mk.injEq, List.not_mem_nil, or_false] at hc
  rcases hc with ⟨rfl, rfl⟩ | ⟨rfl, rfl⟩ <;> rfl

/-- A sighting identification can use is paired; another is noted. -/
theorem entrySighting_eq : entrySighting x (takeFrame entryPort s) =
    if (sightingOf x).usable then pairSighting (sightingOf x) (takeFrame entryPort s)
    else sightingInvalid entryPort x.kind (takeFrame entryPort s) := by
  have hpart : (takeFrame entryPort s).exch.part ≠ .stopping := by
    rw [(alike_takeFrame entryPort s).part]
    exact (show s.exch.part ≠ .stopping by rw [hq.2.1]; simp)
  unfold entrySighting
  rw [if_neg hpart]

/-- A sighting at a READY gate. -/
theorem sighting_opens (hpair : s.gate.pair = none) :
    ((sightingOf x).usable = true → ∃ t, conclude s (entrySighting x (takeFrame entryPort s)) = t ∧
      Took entryPort xs s t ∧ Alike t (openPair (sightingOf x) (frameTaken entryPort s))) ∧
    ((sightingOf x).usable = false → ∃ t, conclude s (entrySighting x (takeFrame entryPort s)) = t ∧
      Took entryPort xs s t ∧ Alike t (frameTaken entryPort s)) := by
  have halike := alike_takeFrame entryPort s
  rw [entrySighting_eq hq hup hin]
  refine ⟨fun hyes => ?_, fun hno => ?_⟩
  · have hopened : Alike (openPair (sightingOf x) (takeFrame entryPort s)) (openPair (sightingOf x) (frameTaken entryPort s)) :=
      halike.update (openPair (sightingOf x))
    have htook := took_frameTaken hq.2.1 hin hopened
    rw [if_pos hyes, pairSighting_none (by rw [halike.gate]; exact hpair)]
    exact ⟨_, htook.concluded (steady_of_calm hq.1), htook, hopened⟩
  · have hnoted : Alike (sightingInvalid entryPort x.kind (takeFrame entryPort s)) (frameTaken entryPort s) :=
      halike.notify _
    have htook := took_frameTaken hq.2.1 hin hnoted
    rw [if_neg (by rw [hno]; simp)]
    exact ⟨_, htook.concluded (steady_of_calm hq.1), htook, hnoted⟩

/-- A row whose effect ends on a pair decided. -/
theorem row_decided {q : Pair} (hroom : s.ports[entryPort].outbound.length < Config.outboundPlaces) :
    ∃ t, conclude s (decidePair q (takeFrame entryPort s)) = t ∧ t.ports[entryPort].inbound = xs ∧ t.gate.timer = none ∧
      (isRepeat q (identify q s) s = true → t.gate.entry = .ready ∧ t.gate.pair = none ∧ t.yard = s.yard) ∧
      (isRepeat q (identify q s) s = false → (∃ slot : Slot, s.yard.slots[slot] = none) →
        t.gate.entry = .ready ∧ t.gate.pair = none ∧ t.yard.serial = s.yard.serial + 1) ∧
      (isRepeat q (identify q s) s = false → (∀ slot : Slot, (s.yard.slots[slot]).isSome) →
        t.gate.entry = .blocked ∧ t.gate.pair = some q ∧ t.yard = s.yard) := by
  have halike := alike_takeFrame entryPort s
  have hs := steady_of_calm hq.1
  obtain ⟨hrep, hfull⟩ := alike_decidePair (p := q) halike
  by_cases hfree : isRepeat q (identify q s) s = false ∧ ∃ slot : Slot, s.yard.slots[slot] = none
  · obtain ⟨hno, hslot⟩ := hfree
    have hno' : isRepeat q (identify q (takeFrame entryPort s)) (takeFrame entryPort s) = false :=
      (halike.reads fun z => isRepeat q (identify q z) z).trans hno
    have hport : (takeFrame entryPort s).ports[entryPort] = (frameTaken entryPort s).ports[entryPort] := by
      rw [halike.ports]
    obtain ⟨y, hlink, hinb, -, hmade, -⟩ := gateView_decidePair (p := q) (s := takeFrame entryPort s)
      (by rw [hport, link_frameTaken]; exact hup) (by rw [hport, outbound_frameTaken]; exact hroom)
    have hview := hmade hno' (by rw [halike.yard]; exact hslot)
    have hpart : (decidePair q (takeFrame entryPort s)).exch.part = .running :=
      (part_of_kept (kept_decidePair ..)).trans (halike.part.trans hq.2.1)
    have hup' : (decidePair q (takeFrame entryPort s)).ports[entryPort].link = .up := by
      rw [(gate_of_gateView hview).2.2.2.2]
      exact hlink
    have hend := (gateView_conclude hs ((tally_decidePair ..).trans halike.tally) hpart hup').trans hview
    obtain ⟨hentry, hpair, htimer, hserial, hentryPort⟩ := gate_of_gateView hend
    refine ⟨_, rfl, ?_, htimer, fun h => ?_, fun _ _ => ⟨hentry, hpair, ?_⟩, fun _ h => ?_⟩
    · rw [hentryPort, hinb, hport]
      exact inbound_frameTaken hin
    · rw [hno] at h
      cases h
    · rw [hserial, halike.yard]
      rfl
    · obtain ⟨slot, hnone⟩ := hslot
      have hsome := h slot
      rw [hnone] at hsome
      cases hsome
  · cases hno : isRepeat q (identify q s) s with
    | true =>
      have halike := hrep hno
      have htook := took_frameTaken hq.2.1 hin halike
      refine ⟨_, htook.concluded hs, htook.inbound, ?_, fun _ => ?_, nofun, nofun⟩
      · rw [halike.gate]
        rfl
      · rw [halike.gate]
        exact ⟨rfl, rfl, halike.yard⟩
    | false =>
      have hall : ∀ slot : Slot, (s.yard.slots[slot]).isSome := fun slot =>
        Option.isSome_iff_ne_none.2 fun hnone => hfree ⟨hno, slot, hnone⟩
      have halike := hfull hno hall
      have htook := took_frameTaken hq.2.1 hin halike
      refine ⟨_, htook.concluded hs, htook.inbound, ?_, nofun, fun _ h => absurd ⟨hno, h⟩ hfree, fun _ _ => ?_⟩
      · rw [halike.gate]
        rfl
      · rw [halike.gate]
        exact ⟨rfl, rfl, halike.yard⟩

/-- A sighting of another value decides the pair held, and opens one in a gate that is not BLOCKED. -/
theorem row_reopened {p : Pair} {z : Sighting} (hroom : s.ports[entryPort].outbound.length < Config.outboundPlaces)
    (hopen : isRepeat p (identify p s) s = true ∨ ∃ slot : Slot, s.yard.slots[slot] = none) :
    ∃ t, conclude s (sameKind false p z (takeFrame entryPort s)) = t ∧ t.ports[entryPort].inbound = xs ∧
      t.gate.entry = .pairing ∧ t.gate.timer = some s.latched.pairWindow ∧ t.gate.pair = some z.pair ∧
      t.yard.serial = if isRepeat p (identify p s) s = true then s.yard.serial else s.yard.serial + 1 := by
  have halike := alike_takeFrame entryPort s
  have hport : (takeFrame entryPort s).ports[entryPort] = (frameTaken entryPort s).ports[entryPort] := by rw [halike.ports]
  have hrepeat : isRepeat p (identify p (takeFrame entryPort s)) (takeFrame entryPort s) = isRepeat p (identify p s) s :=
    halike.reads fun z => isRepeat p (identify p z) z
  have hserial' : (takeFrame entryPort s).yard.serial = s.yard.serial := by rw [halike.yard]; rfl
  obtain ⟨y, hlink, hinb, hrep, hmade, -⟩ := gateView_decidePair (p := p) (s := takeFrame entryPort s)
    (by rw [hport, link_frameTaken]; exact hup) (by rw [hport, outbound_frameTaken]; exact hroom)
  have hview : gateView (decidePair p (takeFrame entryPort s)) = (.ready, none, none,
      if isRepeat p (identify p s) s = true then s.yard.serial else s.yard.serial + 1, y) := by
    split
    · next h => rw [hrep (hrepeat.trans h), hserial']
    · next h =>
      have hslot := hopen.resolve_left h
      rw [hmade (hrepeat.trans (by simpa using h)) (by rw [halike.yard]; exact hslot), hserial']
  have hlatched : (decidePair p (takeFrame entryPort s)).latched = s.latched :=
    (latched_of_kept (kept_decidePair ..)).trans halike.latched
  have hpart : (decidePair p (takeFrame entryPort s)).exch.part = .running :=
    (part_of_kept (kept_decidePair ..)).trans (halike.part.trans hq.2.1)
  have htally : (decidePair p (takeFrame entryPort s)).tally = s.tally := (tally_decidePair ..).trans halike.tally
  obtain ⟨hentry, -, -, hserial, hentryPort⟩ := gate_of_gateView hview
  have hsame : sameKind false p z (takeFrame entryPort s) = openPair z (decidePair p (takeFrame entryPort s)) := by
    unfold sameKind
    dsimp only
    rw [if_neg (by simp), if_neg (by rw [hentry]; simp)]
  generalize decidePair p (takeFrame entryPort s) = u at hlatched hpart htally hserial hentryPort hsame
  have hend : gateView (conclude s (openPair z u)) = gateView (openPair z u) :=
    gateView_conclude (steady_of_calm hq.1) htally hpart (hentryPort ▸ hlink)
  obtain ⟨hentry', hpair', htimer', hserial'', hport''⟩ := gate_of_gateView hend
  refine ⟨_, rfl, ?_⟩
  rw [hsame]
  refine ⟨?_, hentry', htimer'.trans (congrArg (fun l : Latched => some l.pairWindow) hlatched), hpair', hserial''.trans hserial⟩
  rw [hport'']
  show u.ports[entryPort].inbound = xs
  rw [hentryPort, hinb, hport]
  exact inbound_frameTaken hin

end Row

/-- Settles O26. -/
theorem sightingsMakePairs : Obligations.SightingsMakePairs := by
  refine ⟨fun x xs s hq hup hin hkind hready hpair => ?_, fun x xs s hq hup hin hkind hready hpair => ?_,
    fun c kind x xs p s hc hq hup hin hkind hroom husable hpairing hpair => ?_⟩
  · have hsight : sightingOf x = .tag (tagOf x.payload) := if_pos hkind
    obtain ⟨hopens, hnoted⟩ := sighting_opens hq hup hin hpair
    have hexec := exec_sighting (c := .sightTag .entry) hq hup hin (List.mem_cons_self ..) hkind (Or.inl hready)
    by_cases htag : tagOf x.payload = 0
    · obtain ⟨t, ht, htook, halike⟩ := hnoted (by rw [hsight, htag]; rfl)
      exact ⟨t, hexec.trans (congrArg _ ht), htook.inbound, halike.yard, fun hno => absurd htag hno, fun _ => halike.gate⟩
    · obtain ⟨t, ht, htook, halike⟩ := hopens (by rw [hsight]; simpa [Sighting.usable] using htag)
      refine ⟨t, hexec.trans (congrArg _ ht), htook.inbound, halike.yard, fun _ => ?_, fun hno => absurd hno htag⟩
      rw [halike.gate, hsight]
      exact ⟨rfl, rfl, rfl⟩
  · have hsight : sightingOf x = .plate (x.payload.drop 1) (field 0 1 x.payload) := if_neg (by rw [hkind]; decide)
    obtain ⟨hopens, hnoted⟩ := sighting_opens hq hup hin hpair
    have hexec := exec_sighting (c := .sightPlate .entry) hq hup hin (List.mem_cons_of_mem _ (List.mem_cons_self ..)) hkind
      (Or.inl hready)
    have husable : (sightingOf x).usable = (decide (field 0 1 x.payload ≤ 100) && (x.payload.drop 1).all plateChar) := by
      rw [hsight]
      rfl
    by_cases hgood : field 0 1 x.payload ≤ 100 ∧ (x.payload.drop 1).all plateChar = true
    · obtain ⟨t, ht, htook, halike⟩ := hopens (by rw [husable, hgood.2, decide_eq_true hgood.1]; rfl)
      refine ⟨t, hexec.trans (congrArg _ ht), htook.inbound, halike.yard, fun _ _ => ?_, fun hno => ?_⟩
      · rw [halike.gate, hsight]
        exact ⟨rfl, rfl, rfl⟩
      · rcases hno with hbig | hchar
        · exact absurd hgood.1 (by omega)
        · rw [hgood.2] at hchar
          cases hchar
    · obtain ⟨t, ht, htook, halike⟩ := hnoted (by
        rw [husable, Bool.eq_false_iff]
        simpa only [ne_eq, Bool.and_eq_true, decide_eq_true_eq] using hgood)
      exact ⟨t, hexec.trans (congrArg _ ht), htook.inbound, halike.yard, fun hle hall => absurd ⟨hle, hall⟩ hgood,
        fun _ => halike.gate⟩
  · have halike := alike_takeFrame entryPort s
    have hexec := exec_sighting hq hup hin hc hkind (Or.inr hpairing)
    have hpair' : (takeFrame entryPort s).gate.pair = some p := by rw [halike.gate]; exact hpair
    rw [entrySighting_eq hq hup hin, if_pos husable] at hexec
    cases hjoined : p.joined (sightingOf x) with
    | some q =>
      rw [pairSighting_joined hpair' hjoined] at hexec
      obtain ⟨t, ht, hinb, htimer, hrest⟩ := row_decided (q := q) hq hup hin hroom
      refine ⟨t, hexec.trans (congrArg _ ht), hinb, ?_, nofun, nofun⟩
      rintro _ ⟨⟩
      exact ⟨htimer, hrest⟩
    | none =>
      rw [pairSighting_sameKind hpair' hjoined] at hexec
      cases hholds : p.holdsValue (sightingOf x) with
      | true =>
        have hstays : sameKind true p (sightingOf x) (takeFrame entryPort s) = takeFrame entryPort s := rfl
        have htook := took_frameTaken hq.2.1 hin halike
        rw [hholds, hstays, htook.concluded (steady_of_calm hq.1)] at hexec
        exact ⟨_, hexec, htook.inbound, nofun, fun _ _ => ⟨halike.gate, halike.yard⟩, nofun⟩
      | false =>
        rw [hholds] at hexec
        by_cases hopen : isRepeat p (identify p s) s = true ∨ ∃ slot : Slot, s.yard.slots[slot] = none
        · obtain ⟨t, ht, hinb, hentry, htimer, hpair, hserial⟩ := row_reopened (z := sightingOf x) hq hup hin hroom hopen
          refine ⟨t, hexec.trans (congrArg _ ht), hinb, nofun, nofun, fun _ _ => ⟨fun _ => ⟨hentry, htimer, hpair, hserial⟩,
            fun hno hfull => ?_⟩⟩
          rcases hopen with hrep | ⟨slot, hnone⟩
          · rw [hno] at hrep
            cases hrep
          · have hsome := hfull slot
            rw [hnone] at hsome
            cases hsome
        · rw [not_or] at hopen
          obtain ⟨hno, hslots⟩ := hopen
          rw [Bool.not_eq_true] at hno
          have hfull : ∀ slot : Slot, (s.yard.slots[slot]).isSome := fun slot =>
            Option.isSome_iff_ne_none.2 fun hnone => hslots ⟨slot, hnone⟩
          have hblocked := (alike_decidePair halike).2 hno hfull
          have hsame : sameKind false p (sightingOf x) (takeFrame entryPort s) = decidePair p (takeFrame entryPort s) := by
            unfold sameKind
            dsimp only
            rw [if_neg (by simp), if_pos (by rw [hblocked.gate]; rfl)]
          have htook := took_frameTaken hq.2.1 hin hblocked
          rw [hsame, htook.concluded (steady_of_calm hq.1)] at hexec
          refine ⟨_, hexec, htook.inbound, nofun, nofun, fun _ _ => ⟨fun h => ?_, fun _ _ => ?_⟩⟩
          · rw [hno] at h
            exact absurd h (by simpa using hslots)
          · rw [hblocked.gate]
            exact ⟨rfl, rfl, rfl, hblocked.yard⟩

end Sys2Proof.Machine

/-! PROOFS. ADMIT_VISIT (R67). -/

namespace Sys2Proof.Machine

/-! ### The checks in their order -/

section Checks

variable {v : Visit} {a : AdmitArgs} {s : State}

theorem admitCheck_state (h : v.state ≠ .atGate) : admitCheck v a s = some .refusedState := if_pos h

theorem admitCheck_paused (hgate : v.state = .atGate) (h : paused s = true) : admitCheck v a s = some .depotPaused := by
  unfold admitCheck
  rw [if_neg (not_not.2 hgate), if_pos h]

theorem admitCheck_range (hgate : v.state = .atGate) (hp : paused s = false)
    (h : admitInRange a = false ∨ admitComplete v a = false) : admitCheck v a s = some .refusedRange := by
  unfold admitCheck
  rw [if_neg (not_not.2 hgate), if_neg (by rw [hp]; simp)]
  split
  · rfl
  · next hin =>
    rw [if_pos (by simpa using h.resolve_left (by simpa using hin))]

variable (hgate : v.state = .atGate) (hp : paused s = false) (hin : admitInRange a = true) (hc : admitComplete v a = true)
include hgate hp hin hc

theorem admitCheck_committed (h : admitCommitted a s = false) : admitCheck v a s = some .referenced := by
  unfold admitCheck
  rw [if_neg (not_not.2 hgate), if_neg (by rw [hp]; simp), if_neg (by rw [hin]; simp), if_neg (by rw [hc]; simp),
    if_pos (by rw [h]; rfl)]

theorem admitCheck_linkable (hk : admitCommitted a s = true) :
    admitCheck v a s = if admitLinkable v a s then none else some .refusedState := by
  unfold admitCheck
  rw [if_neg (not_not.2 hgate), if_neg (by rw [hp]; simp), if_neg (by rw [hin]; simp), if_neg (by rw [hc]; simp),
    if_neg (by rw [hk]; simp)]
  cases admitLinkable v a s <;> rfl

end Checks

/-- A vehicle named that is not the visit's own, or that another visit has, is not linkable. -/
theorem admitLinkable_eq_false {v : Visit} {a : AdmitArgs} {i : Nat} {s : State} (hi : a.vehicle = some i)
    (h : (∃ j, v.vehicle = some j ∧ i ≠ j) ∨ (v.vehicle = none ∧
      ∃ (other : Slot) (w : Visit), s.yard.slots[other] = some w ∧ w.vehicle = some i)) : admitLinkable v a s = false := by
  unfold admitLinkable
  rw [hi]
  dsimp only
  rcases h with ⟨j, hj, hne⟩ | ⟨hnone, other, w, hw, hwi⟩
  · rw [hj]
    exact beq_eq_false_iff_ne.2 hne
  · rw [hnone]
    have hmem : some w ∈ s.yard.slots.toList := by
      rw [← hw]
      exact Vector.mem_toList_iff.2 (Vector.getElem_mem other.isLt)
    have hany : anyVisit (fun w => w.vehicle == some i) s = true :=
      List.any_eq_true.2 ⟨some w, hmem, by simpa using hwi⟩
    show (!anyVisit (fun w => w.vehicle == some i) s) = false
    rw [hany]
    rfl

/-- An order that gives every argument but the vehicle is complete, in range and linkable. -/
theorem admitCheck_full {v : Visit} {entry : List Byte} {a p n : Nat} {s : State} (hgate : v.state = .atGate)
    (hp : paused s = false) (hvehicle : optArg 8 entry = none) (ha : optArg 10 entry = some a)
    (hprog : optArg 12 entry = some p) (hn : optArg 14 entry = some n) (ha' : a < 256) (hp' : p < 16) (hn2 : 2 ≤ n)
    (hn9 : n ≤ 9) (hacc : (lookup s.table.accounts a).isSome) (hpro : (lookup s.table.programmes p).isSome) :
    admitCheck v (admitArgs entry) s = none := by
  have hargs : admitArgs entry = { vehicle := none, account := some a, programme := some p, axles := some n } := by
    unfold admitArgs
    rw [hvehicle, ha, hprog, hn]
  rw [hargs, admitCheck_linkable hgate hp]
  · rfl
  · simp [admitInRange, argIn]
    omega
  · simp [admitComplete]
  · simp only [admitCommitted, namedCommitted, hacc, hpro]
    rfl

/-- Settles O31: the checks in their order, and the visit admitted while no bay takes one. -/
theorem admitVisitByItsChecks : Obligations.AdmitVisitByItsChecks := by
  refine ⟨fun entry slot v s h hslot hv hserial => ?_, fun entry slot v a p n s h hslot hv hserial hgate hfallback hvehicle ha
    hprog hn ha' hp' hn2 hn9 hacc hpro hbays hup hroom => ?_⟩
  · have hnamed : onVisit admitOrder entry (orderTakenUp entry s) = admitOrder slot v entry (orderTakenUp entry s) :=
      onVisit_named hslot hv hserial
    have hrefused : ∀ {r}, admitCheck v (admitArgs entry) s = some r →
        ∃ t, exec .admitVisit s = .next t ∧ answered r s t ∧ sameUnits s t := fun {r} hr => by
      have hcheck : admitCheck v (admitArgs entry) (orderTakenUp entry s) = some r := hr
      have hf : onVisit admitOrder entry (orderTakenUp entry s) = (r, orderTakenUp entry s) := by
        rw [hnamed]
        unfold admitOrder
        rw [hcheck]
      obtain ⟨ha, hs, -⟩ := orderRow_refused h (want := fun k => k == 1) rfl hf
      exact ⟨_, rfl, ha, hs⟩
    refine ⟨fun hstate => hrefused (admitCheck_state hstate), fun hgate hp => hrefused (admitCheck_paused hgate hp),
      fun hgate hp hrange => hrefused (admitCheck_range hgate hp (Or.inl hrange)),
      fun hgate hp hrange hcomplete hcommitted => hrefused (admitCheck_committed hgate hp hrange hcomplete hcommitted),
      fun hgate hp hrange hnone hvehicle hmissing => hrefused (admitCheck_range hgate hp (Or.inr ?_)),
      fun i hgate hp hrange hcommitted hi hother => hrefused ?_⟩
    · rw [Bool.eq_false_iff]
      unfold admitComplete admitArgs
      rw [hnone, hvehicle]
      rcases hmissing with h | h | h <;> rw [h] <;> simp
    · have hcomplete : admitComplete v (admitArgs entry) = true := by
        unfold admitComplete admitArgs
        rw [hi]
        simp
      rw [admitCheck_linkable hgate hp hrange hcomplete hcommitted, admitLinkable_eq_false hi hother]
      rfl
  · have hpaused : paused s = false := by
      obtain ⟨⟨-, -, -, hpause, -⟩, -⟩ := h
      unfold paused
      rw [hpause, hfallback]
      rfl
    have hcheck : admitCheck v (admitArgs entry) (orderTakenUp entry s) = none :=
      admitCheck_full (s := s) hgate hpaused hvehicle ha hprog hn ha' hp' hn2 hn9 hacc hpro
    have hf : onVisit admitOrder entry (orderTakenUp entry s) = (.done,
        admitVisit slot (admittedVisit v (admitArgs entry) s) (orderTakenUp entry s)) := by
      rw [onVisit_named (s := orderTakenUp entry s) hslot hv hserial]
      unfold admitOrder
      rw [hcheck]
      rfl
    have hcall : nextCall (queuedUp slot (admittedVisit v (admitArgs entry) s) (orderTakenUp entry s)) = none :=
      nextCall_of_no_free hbays
    have halike := (Alike.refl (s := orderTakenUp entry s)).admitVisit hcall hup hroom
    obtain ⟨hanswer, -, -, hports, -, hyard, hbays', -⟩ := Ended.orderRow h (want := fun k => k == 1) rfl hf halike
      (Ended.of_sent .of_ports) h.2.1 rfl rfl
    have hargs : admitArgs entry = { vehicle := none, account := some a, programme := some p, axles := some n } := by
      unfold admitArgs
      rw [hvehicle, ha, hprog, hn]
    refine ⟨_, rfl, hanswer, ?_, ?_, hbays', queuedVisit (admittedVisit v (admitArgs entry) s) (orderTakenUp entry s), ?_,
      rfl, rfl, rfl, ?_, rfl, ?_, ?_, ?_, ?_, rfl, rfl, rfl⟩
    · rw [hyard]
      exact mem_enqueueAt ..
    · rw [hports, admitted, getElem_putPort_self]
      rfl
    · rw [hyard]
      rfl
    · rw [hyard]
      rfl
    · rw [hargs]
      rfl
    · rw [hargs]
      have hcode : accountOf a = some ⟨a, ha'⟩ := dif_pos ha'
      unfold queuedVisit admittedVisit
      dsimp only
      rw [Option.bind_some, hcode]
      rfl
    · rw [hargs]
      rfl
    · rw [hargs]
      rfl

end Sys2Proof.Machine

/-! PROOFS. Calls ended by CANCEL_VISIT and by the call timer (R83, R85, R86, R89, R98). -/

namespace Sys2Proof.Machine

/-! ### What a call's end and a call leave -/

/-- The state with a call ended at its bay and its station told. -/
def callEnded (b : BayId) (s : State) : State :=
  putPort (bayPort b) (fun x => { x with outbound := x.outbound ++ [stageStopFrame] })
    (putBay b (fun x => { freeOrClosed x with bound := none, lastTag := none }) s)

/-- The state with a visit RELEASED. -/
def releasedVisit (slot : Slot) (v : Visit) (r : VisitReason) (s : State) : State :=
  putVisit slot (some { v with state := .released, outcome := some .released, reason := some r, callTimer := none }) s

/-- The state with a visit called to a bay. -/
def calledTo (slot : Slot) (v : Visit) (b : BayId) (s : State) : State :=
  putPort (bayPort b) (fun x => { x with outbound := x.outbound ++ [signFrame v.serial (signPlate v s)] })
    (putBay b (fun x => { x with state := .calling, bound := some slot, lastTag := none })
      (putVisit slot (some { v with state := .called, bay := some b, callTimer := some s.latched.callLimit })
        (leaveQueue slot s)))

namespace Alike

variable {s t : State} {b : BayId} {slot : Slot} {v : Visit}

theorem endCallAtBay (h : Alike s t) (hup : t.ports[bayPort b].link = .up)
    (hroom : t.ports[bayPort b].outbound.length < Config.outboundPlaces) : Alike (endCallAtBay b s) (callEnded b t) := by
  have hsent := (h.setBayWith b fun x => { freeOrClosed x with bound := none, lastTag := none }).offer stageStopFrame
    (p := bayPort b) hup hroom
  unfold Machine.endCallAtBay
  dsimp only
  split
  · exact hsent.notify _
  · exact hsent

theorem release (h : Alike s t) (slot : Slot) (v : Visit) (r : VisitReason) :
    Alike (release slot v r s) (releasedVisit slot v r t) := (h.setVisit slot _).notify _

theorem callVisit (h : Alike s t) (hup : t.ports[bayPort b].link = .up)
    (hroom : t.ports[bayPort b].outbound.length < Config.outboundPlaces) :
    Alike (callVisit slot v b s) (calledTo slot v b t) := by
  have hleft : Alike (leaveQueue slot s) (leaveQueue slot t) := h.update (leaveQueue slot)
  have hplate : signPlate v s = signPlate v t := h.reads (signPlate v)
  unfold Machine.callVisit
  rw [hplate, h.latched]
  exact ((hleft.setVisit slot _).setBayWith b _).offer _ hup hroom

end Alike

theorem link_callEnded {b : BayId} {s : State} : (callEnded b s).ports[bayPort b].link = s.ports[bayPort b].link := by
  rw [callEnded, getElem_putPort_self]
  rfl

theorem outbound_callEnded {b : BayId} {s : State} :
    (callEnded b s).ports[bayPort b].outbound = s.ports[bayPort b].outbound ++ [stageStopFrame] := by
  rw [callEnded, getElem_putPort_self]
  rfl

theorem outbound_calledTo {slot : Slot} {v : Visit} {b : BayId} {s : State} :
    (calledTo slot v b s).ports[bayPort b].outbound =
      s.ports[bayPort b].outbound ++ [signFrame v.serial (signPlate v s)] := by
  rw [calledTo, getElem_putPort_self]
  rfl

theorem bay_callEnded {b : BayId} {s : State} :
    (callEnded b s).bays[b] = { freeOrClosed s.bays[b] with bound := none, lastTag := none } :=
  getElem_putBay_self b (fun x => { freeOrClosed x with bound := none, lastTag := none }) s

/-- The bay's record after a call's end, field by field. -/
theorem bay_callEnded_spec {b : BayId} {s : State} : (callEnded b s).bays[b].bound = none ∧
    (callEnded b s).bays[b].lastTag = none ∧ (callEnded b s).bays[b].holdAfter = false ∧
    (callEnded b s).bays[b].state = (if s.bays[b].holdAfter then .closed else .free) ∧
    (callEnded b s).bays[b].presence = s.bays[b].presence := by
  rw [bay_callEnded, freeOrClosed_eq]
  exact ⟨rfl, rfl, rfl, rfl, rfl⟩

theorem getElem_putBay_ne {b c : BayId} (h : c ≠ b) (f : Bay → Bay) (s : State) : (putBay b f s).bays[c] = s.bays[c] := by
  have hv : b.val ≠ c.val := fun hv => h (Fin.ext hv.symm)
  exact Vector.getElem_set_ne b.isLt c.isLt hv

theorem ended_callEnded {b : BayId} {s : State} : Ended s (callEnded b s) := Ended.of_sent .of_ports

/-! ### CALL_TIMER (R86) -/

theorem callDue_eq {slot : Slot} {v : Visit} {b : BayId} {s : State} (hv : s.yard.slots[slot] = some v)
    (hcalled : v.state = .called) (htimer : v.callTimer = some 0) (hbay : v.bay = some b) : callDue slot s = some (v, b) := by
  unfold callDue
  rw [hv]
  dsimp only
  rw [if_pos ⟨hcalled, htimer⟩, hbay]
  rfl

theorem exec_callTimer {slot : Slot} {v : Visit} {b : BayId} {s : State} (h : callDue slot s = some (v, b)) :
    exec (.callTimer slot) s = .next (conclude s (expireCall slot v b s)) := by
  show execCallTimer slot s = _
  unfold execCallTimer
  rw [h]

/-- The visit's record with one more call counted. -/
def countedCall (v : Visit) : Visit := { v with callCount := v.callCount + 1, callTimer := none }

section Expiry

variable {slot : Slot} {v : Visit} {b : BayId} {s : State} (hup : s.ports[bayPort b].link = .up)
  (hroom : s.ports[bayPort b].outbound.length < Config.outboundPlaces)
include hup hroom

/-- At the third expiry the visit is released. -/
theorem alike_expireCall_last (hqueue : s.yard.queue = []) (hlast : 3 ≤ v.callCount + 1) :
    Alike (expireCall slot v b s) (releasedVisit slot (countedCall v) .noShow (callEnded b s)) := by
  have halike := ((Alike.refl (s := s)).endCallAtBay hup hroom).release slot (countedCall v) .noShow
  have hlast' : ¬ v.callCount + 1 < 3 := by omega
  unfold expireCall
  dsimp only
  rw [if_neg hlast']
  exact halike.arbiter_none (nextCall_of_queue_nil hqueue)

/-- Below the third expiry the visit is QUEUED again, and the arbiter runs. -/
theorem expireCall_again (hmore : v.callCount + 1 < 3) : ∃ u,
    Alike u (requeue slot (countedCall v) (callEnded b s)) ∧ expireCall slot v b s = postVisit slot (arbiter u) := by
  have halike : Alike _ (requeue slot (countedCall v) (callEnded b s)) :=
    ((Alike.refl (s := s)).endCallAtBay hup hroom).update (requeue slot (countedCall v))
  refine ⟨_, halike.notify { kind := .callExpired, subject := slot.val, first := v.serial.toNat,
                             second := twoItems b.val (countedCall v).callCount }, ?_⟩
  unfold expireCall
  dsimp only
  rw [if_pos hmore]
  rfl

end Expiry

/-- No bay takes a visit: the one whose call has ended is not FREE with its truck gone, the others are not FREE. -/
theorem nextCall_requeued_none {slot : Slot} {w : Visit} {b : BayId} {s : State}
    (hothers : ∀ c : BayId, c ≠ b → s.bays[c].state ≠ .free)
    (hbay : s.bays[b].presence ≠ .off ∨ s.bays[b].holdAfter = true) : nextCall (requeue slot w (callEnded b s)) = none := by
  refine nextCall_eq_none_iff.2 fun q _ v _ c => ?_
  obtain ⟨-, -, -, hstate, hpresence⟩ := bay_callEnded_spec (b := b) (s := s)
  by_cases hc : c = b
  · refine Bool.eq_false_iff.2 fun helig => ?_
    obtain ⟨-, hfree, -, hoff, -⟩ := eligible_iff.1 helig
    rw [hc] at hfree hoff
    rcases hbay with hpres | hhold
    · exact hpres (hpresence.symm.trans hoff)
    · have hclosed := hstate.symm.trans hfree
      rw [hhold] at hclosed
      cases hclosed
  · refine eligible_of_not_free ?_ v
    have hsame := getElem_putBay_ne hc (fun x => { freeOrClosed x with bound := none, lastTag := none }) s
    exact fun hfree => hothers c hc ((congrArg Bay.state hsame).symm.trans hfree)

/-! ### The visit called again (R83, R85, R86) -/

section Again

variable {slot : Slot} {v : Visit} {b : BayId} {s : State} (hqueue : s.yard.queue = [])
  (hothers : ∀ c : BayId, c ≠ b → s.bays[c].state ≠ .free)

include hqueue in
theorem queue_requeued (w : Visit) : (requeue slot w (callEnded b s)).yard.queue = [slot] := by
  show enqueueAt _ slot _ s.yard.queue = [slot]
  rw [hqueue]
  rfl

include hqueue hothers in
/-- The one visit waiting is the next called, to the bay its call ended at. -/
theorem nextCall_requeued_some {n p : Nat} (hoff : s.bays[b].presence = .off) (hhold : s.bays[b].holdAfter = false)
    (hup : s.ports[bayPort b].link = .up) (hfit : bayFitted b s = true) (hn : v.axles = some n) (hp : v.programme = some p)
    (hlimit : n ≤ s.latched.bays[b].axleLimit) (hmask : s.latched.bays[b].mask.getLsbD p = true)
    (hcommitted : (lookup s.table.programmes p).isSome = true) :
    nextCall (requeue slot (countedCall v) (callEnded b s)) =
      some (slot, { countedCall v with state := .queued, bay := none, callTimer := none }, b) := by
  have hslot : (requeue slot (countedCall v) (callEnded b s)).yard.slots[slot] =
      some { countedCall v with state := .queued, bay := none, callTimer := none } := Vector.getElem_set_self ..
  obtain ⟨-, -, -, hstate, hpresence⟩ := bay_callEnded_spec (b := b) (s := s)
  have hfree : (callEnded b s).bays[b].state = .free := by rw [hstate, hhold]; rfl
  have helig : eligible b { countedCall v with state := .queued, bay := none, callTimer := none }
      (requeue slot (countedCall v) (callEnded b s)) = true :=
    eligible_iff.2 ⟨hfit, hfree, link_callEnded.trans hup, hpresence.trans hoff, n, p, hn, hp, hlimit, hmask, hcommitted⟩
  refine nextCall_eq_some_iff.2 ⟨[], [], queue_requeued hqueue _, hslot, helig, fun c hc => ?_, nofun⟩
  refine eligible_of_not_free ?_ _
  have hsame := getElem_putBay_ne (ne_of_lt hc) (fun x => { freeOrClosed x with bound := none, lastTag := none }) s
  exact fun hfree => hothers c (ne_of_lt hc) ((congrArg Bay.state hsame).symm.trans hfree)

include hothers in
/-- No bay is FREE once the one bay is called to. -/
theorem not_free_calledTo (w w' : Visit) (c : BayId) :
    (calledTo slot w b (requeue slot w' (callEnded b s))).bays[c].state ≠ .free := by
  by_cases hc : c = b
  · have hself := getElem_putBay_self b (fun x => { x with state := .calling, bound := some slot, lastTag := none })
      (callEnded b s)
    subst hc
    exact fun hfree => BayState.noConfusion ((congrArg Bay.state hself).symm.trans hfree)
  · have hcalled := getElem_putBay_ne hc (fun x => { x with state := .calling, bound := some slot, lastTag := none })
      (callEnded b s)
    have hended := getElem_putBay_ne hc (fun x => { freeOrClosed x with bound := none, lastTag := none }) s
    exact fun hfree => hothers c hc ((congrArg Bay.state (hcalled.trans hended)).symm.trans hfree)

end Again

/-- CANCEL_VISIT (R89). -/
theorem cancelVisit_spec {entry : List Byte} {slot : Slot} {v : Visit} {s : State} (h : orderReady 4 entry s)
    (hslot : slot.val = arg16 4 entry) (hv : s.yard.slots[slot] = some v) (hserial : v.serial.toNat = arg16 6 entry) :
    (v.state = .queued → ∃ t, exec .cancelVisit s = .next t ∧ answered .done s t ∧
      t.yard.queue = s.yard.queue.erase slot ∧ t.yard.slots = s.yard.slots.set slot (some { v with
        state := .released, outcome := some .released, reason := some .cancelled, callTimer := none }) ∧
      t.bays = s.bays ∧ t.ports = s.ports) ∧
    (∀ b : BayId, v.state = .called → v.bay = some b → s.yard.queue = [] →
      s.ports[bayPort b].link = .up → s.ports[bayPort b].outbound.length < 16 →
      ∃ t, exec .cancelVisit s = .next t ∧ answered .done s t ∧
        t.yard.slots = s.yard.slots.set slot (some { v with
          state := .released, outcome := some .released, reason := some .cancelled, callTimer := none }) ∧
        t.bays[b].bound = none ∧ t.bays[b].lastTag = none ∧ t.bays[b].holdAfter = false ∧
        t.bays[b].state = (if s.bays[b].holdAfter then .closed else .free) ∧
        t.ports[bayPort b].outbound = s.ports[bayPort b].outbound ++ [stageStopFrame]) ∧
    (v.state ≠ .queued → v.state ≠ .called →
      ∃ t, exec .cancelVisit s = .next t ∧ answered .refusedState s t ∧ sameUnits s t) := by
  have hnamed : onVisit cancelOrder entry (orderTakenUp entry s) = cancelOrder slot v entry (orderTakenUp entry s) :=
    onVisit_named hslot hv hserial
  refine ⟨fun hqueued => ?_, fun b hcalled hbay hqueue hup hroom => ?_, fun hno hno' => ?_⟩
  · have hf : onVisit cancelOrder entry (orderTakenUp entry s) =
        (.done, release slot v .cancelled (leaveQueue slot (orderTakenUp entry s))) := by
      rw [hnamed]
      unfold cancelOrder
      rw [hqueued]
    have halike := (Alike.refl (s := leaveQueue slot (orderTakenUp entry s))).release slot v .cancelled
    obtain ⟨ha, -, -, hports, -, hyard, hbays, -⟩ := Ended.orderRow h (want := fun k => k == 4) rfl hf halike .of_ports h.2.1
      rfl rfl
    exact ⟨_, rfl, ha, congrArg YardUnit.queue hyard, congrArg YardUnit.slots hyard, hbays, hports⟩
  · have hf : onVisit cancelOrder entry (orderTakenUp entry s) =
        (.done, arbiter (release slot v .cancelled (endCallAtBay b (orderTakenUp entry s)))) := by
      rw [hnamed]
      unfold cancelOrder cancelCall
      rw [hcalled, hbay]
    have halike := (((Alike.refl (s := orderTakenUp entry s)).endCallAtBay (b := b) hup hroom).release slot v
      .cancelled).arbiter_none (nextCall_of_queue_nil hqueue)
    have hended : Ended s (callEnded b (orderTakenUp entry s)) := Ended.of_sent .of_ports
    obtain ⟨ha, -, -, hports, -, hyard, hbays, -⟩ := Ended.orderRow h (want := fun k => k == 4) rfl hf halike
      hended.trans_ports h.2.1 rfl rfl
    obtain ⟨hbound, htag, hhold, hstate, -⟩ := bay_callEnded_spec (b := b) (s := orderTakenUp entry s)
    refine ⟨_, rfl, ha, congrArg YardUnit.slots hyard, ?_⟩
    rw [hbays, hports]
    exact ⟨hbound, htag, hhold, hstate, outbound_callEnded⟩
  · have hf : onVisit cancelOrder entry (orderTakenUp entry s) = (.refusedState, orderTakenUp entry s) := by
      rw [hnamed]
      unfold cancelOrder
      cases hstate : v.state with
      | queued => exact absurd hstate hno
      | called => exact absurd hstate hno'
      | atGate => rfl
      | washing => rfl
      | washed => rfl
      | released => rfl
      | closing => rfl
    obtain ⟨ha, hs, -⟩ := orderRow_refused h (want := fun k => k == 4) rfl hf
    exact ⟨_, rfl, ha, hs⟩

section Timer

variable {slot : Slot} {v : Visit} {b : BayId} {s : State} (hq : quiet s) (hv : s.yard.slots[slot] = some v)
  (hcalled : v.state = .called) (htimer : v.callTimer = some 0) (hbay : v.bay = some b) (hqueue : s.yard.queue = [])
  (hothers : ∀ c : BayId, c ≠ b → s.bays[c].state ≠ .free) (hup : s.ports[bayPort b].link = .up)
include hq hv hcalled htimer hbay hqueue hothers hup

/-- CALL_TIMER with no bay for the visit (R86, R98). -/
theorem callTimer_ends (hroom : s.ports[bayPort b].outbound.length < 16)
    (hwaits : s.bays[b].presence ≠ .off ∨ s.bays[b].holdAfter = true ∨ 3 ≤ v.callCount + 1) :
    ∃ t, exec (.callTimer slot) s = .next t ∧ t.bays[b].bound = none ∧
      t.bays[b].state = (if s.bays[b].holdAfter then .closed else .free) ∧
      t.ports[bayPort b].outbound = s.ports[bayPort b].outbound ++ [stageStopFrame] ∧
      (v.callCount + 1 < 3 → t.yard.queue = [slot] ∧ t.yard.slots = s.yard.slots.set slot (some { v with
        state := .queued, bay := none, callCount := v.callCount + 1, callTimer := none })) ∧
      (3 ≤ v.callCount + 1 → t.yard.queue = [] ∧ t.yard.slots = s.yard.slots.set slot (some { v with
        state := .released, outcome := some .released, reason := some .noShow,
        callCount := v.callCount + 1, callTimer := none })) := by
  have hexec := exec_callTimer (callDue_eq hv hcalled htimer hbay)
  have hs := steady_of_calm hq.1
  obtain ⟨hbound, -, -, hstate, -⟩ := bay_callEnded_spec (b := b) (s := s)
  by_cases hmore : v.callCount + 1 < 3
  · obtain ⟨u, hu, heffect⟩ := expireCall_again (slot := slot) hup hroom hmore
    have hnone : nextCall (requeue slot (countedCall v) (callEnded b s)) = none :=
      nextCall_requeued_none hothers (by
        rcases hwaits with hpres | hhold | hlast
        · exact Or.inl hpres
        · exact Or.inr hhold
        · exact absurd hlast (by omega))
    have halike := (hu.arbiter_none hnone).postVisit slot
    rw [heffect, Ended.conclude ended_callEnded.trans_ports halike hs hq.2.1] at hexec
    refine ⟨_, hexec, ?_⟩
    rw [halike.bays, halike.ports, halike.yard]
    exact ⟨hbound, hstate, outbound_callEnded, fun _ => ⟨queue_requeued hqueue _, rfl⟩, fun hlast => absurd hmore (by omega)⟩
  · have halike := alike_expireCall_last (slot := slot) (v := v) hup hroom hqueue (by omega)
    rw [Ended.conclude ended_callEnded.trans_ports halike hs hq.2.1] at hexec
    refine ⟨_, hexec, ?_⟩
    rw [halike.bays, halike.ports, halike.yard]
    exact ⟨hbound, hstate, outbound_callEnded, fun h => absurd h hmore, fun _ => ⟨hqueue, rfl⟩⟩

/-- CALL_TIMER with the bay FREE again and no truck in it: the visit is called to it again (R83, R85, R86). -/
theorem callTimer_calls {n p : Nat} (hoff : s.bays[b].presence = .off) (hhold : s.bays[b].holdAfter = false)
    (hmore : v.callCount + 1 < 3) (hroom : s.ports[bayPort b].outbound.length < 15) (hfit : bayFitted b s = true)
    (hn : v.axles = some n) (hp : v.programme = some p) (hlimit : n ≤ s.latched.bays[b].axleLimit)
    (hmask : s.latched.bays[b].mask.getLsbD p = true) (hcommitted : (lookup s.table.programmes p).isSome = true) :
    ∃ t, exec (.callTimer slot) s = .next t ∧ t.bays[b].state = .calling ∧ t.bays[b].bound = some slot ∧
      t.yard.queue = [] ∧ t.yard.slots = s.yard.slots.set slot (some { v with
        callCount := v.callCount + 1, callTimer := some s.latched.callLimit }) ∧
      t.ports[bayPort b].outbound = s.ports[bayPort b].outbound ++
        [stageStopFrame, signFrame v.serial (signPlate v s)] := by
  have hexec := exec_callTimer (callDue_eq hv hcalled htimer hbay)
  have hroom' : s.ports[bayPort b].outbound.length < Config.outboundPlaces :=
    Nat.lt_trans hroom (by decide)
  obtain ⟨u, hu, heffect⟩ := expireCall_again (slot := slot) hup hroom' hmore
  have hnext := nextCall_requeued_some (slot := slot) hqueue hothers hoff hhold hup hfit hn hp hlimit hmask hcommitted
  have hrun : arbiter u = arbiter (callVisit slot { countedCall v with state := .queued, bay := none, callTimer := none } b u) :=
    arbiter_of_some (by rw [hu.clock]; exact hq.2.2) ((hu.reads nextCall).trans hnext)
  have hcalledTo : Alike (callVisit slot { countedCall v with state := .queued, bay := none, callTimer := none } b u)
      (calledTo slot { countedCall v with state := .queued, bay := none, callTimer := none } b
        (requeue slot (countedCall v) (callEnded b s))) := by
    refine hu.callVisit (link_callEnded.trans hup) ?_
    refine (congrArg List.length outbound_callEnded).trans_lt ?_
    rw [List.length_append]
    exact Nat.add_lt_add_right hroom 1
  have halike := (hcalledTo.arbiter_none (nextCall_of_no_free (not_free_calledTo hothers _ _))).postVisit slot
  have hended : Ended s (calledTo slot { countedCall v with state := .queued, bay := none, callTimer := none } b
      (requeue slot (countedCall v) (callEnded b s))) := by
    refine Ended.of_sent (Ended.trans_ports ended_callEnded rfl rfl rfl)
  rw [heffect, hrun, Ended.conclude hended halike (steady_of_calm hq.1) hq.2.1] at hexec
  have hbay' := getElem_putBay_self b (fun x => { x with state := .calling, bound := some slot, lastTag := none })
    (callEnded b s)
  refine ⟨_, hexec, ?_⟩
  rw [halike.bays, halike.ports, halike.yard]
  refine ⟨congrArg Bay.state hbay', congrArg Bay.bound hbay', ?_, ?_, ?_⟩
  · show (requeue slot (countedCall v) (callEnded b s)).yard.queue.erase slot = []
    rw [queue_requeued hqueue, List.erase_cons_head]
  · show (s.yard.slots.set slot _).set slot _ = _
    rw [Vector.set_set, ← hcalled, ← hbay]
    rfl
  · have hports : (requeue slot (countedCall v) (callEnded b s)).ports = (callEnded b s).ports := rfl
    have hplate : signPlate { countedCall v with state := .queued, bay := none, callTimer := none }
        (requeue slot (countedCall v) (callEnded b s)) = signPlate v s := rfl
    rw [outbound_calledTo, hports, hplate, outbound_callEnded, List.append_assoc]
    rfl

end Timer

/-- Settles O34. -/
theorem callsEndByOrderAndTimer : Obligations.CallsEndByOrderAndTimer := by
  refine ⟨fun entry slot v s h hslot hv hserial => cancelVisit_spec h hslot hv hserial,
    fun slot v b s hq hv hcalled htimer hbay hqueue hothers hwaits hup hroom =>
      callTimer_ends hq hv hcalled htimer hbay hqueue hothers hup hroom hwaits,
    fun slot v b n p s hq hv hcalled htimer hbay hqueue hothers hoff hhold hmore hup hroom hfit hn hp hlimit hmask hcommitted =>
      callTimer_calls hq hv hcalled htimer hbay hqueue hothers hup hoff hhold hmore hroom hfit hn hp hlimit hmask hcommitted,
    fun slot s hnone => ?_⟩
  show execCallTimer slot s = _
  unfold execCallTimer
  rw [hnone]

end Sys2Proof.Machine

/-! PROOFS. A sighting at the exit gate of a visit it closes, while the gate's outbound queue is full (R43, R49, R73). -/

namespace Sys2Proof.Machine

/-- A SIGHT_TAG frame. -/
def tagFrame (tag : Nat) : QFrame := { kind := Kind.sightTag, payload := le 8 tag }

/-- A visit washed, with a tag read at the entry gate. -/
def washedVisit : Visit :=
  { serial := 1, state := .washed, reason := none, outcome := some .complete, vehicle := none, account := none,
    programme := some 0, axles := some 2, tag := some 1, plate := none, priority := false, bay := none, callCount := 0,
    entered := ⟨0, 0⟩, admitted := none, summary := none, left := none, callTimer := none, basis := none, created := 0,
    admission := 0 }

/-- A quiet part in RUNNING with a washed visit; the exit gate's port holds the sighting of its tag, one frame more behind
it, and sixteen frames to be sent. The closing's RAISE finds no place, so that the port goes DOWN and loses the frame that
stands behind (R43). -/
def sightedAtFullExit : State :=
  { State.reset with
    exch := { ExchangeUnit.reset with part := .running }
    yard := { YardUnit.reset with slots := YardUnit.reset.slots.set (0 : Slot) (some washedVisit) }
    gate := { GateUnit.reset with exitReady := true }
    ports := State.reset.ports.set exitPort { Port.reset with
      link := .up, inbound := [tagFrame 1, tagFrame 2], outbound := List.replicate 16 (raiseFrame 0) }
    clock := { ClockUnit.reset with running := true } }

/-- The frames that wait at the exit gate's port in the next state. -/
def waitingAtExit : Host.Outcome State Fault Refusal → List QFrame
  | .next t => t.ports[exitPort].inbound
  | .fault _ | .refused _ => []

theorem quiet_sightedAtFullExit : quiet sightedAtFullExit ∧ sightedAtFullExit.ports[exitPort].link = .up ∧
    sightedAtFullExit.ports[exitPort].inbound = [tagFrame 1, tagFrame 2] ∧ sightedAtFullExit.gate.exitReady = true ∧
    (sightingOf (tagFrame 1)).usable = true := by decide +kernel

theorem waitingAtExit_sightedAtFullExit : waitingAtExit (exec (.sightTag .exit) sightedAtFullExit) = [] := by decide +kernel

/-- Refutes O27: its first part claims that the frames behind the one taken stay in the gate's queue, whatever the sighting
brings about. -/
theorem not_unmatchedAndRecentExits : ¬ Obligations.UnmatchedAndRecentExits := by
  rintro ⟨hrow, -⟩
  obtain ⟨hquiet, hup, hin, hready, husable⟩ := quiet_sightedAtFullExit
  obtain ⟨t, ht, hinbound, -⟩ := hrow (.sightTag .exit) Kind.sightTag (tagFrame 1) [tagFrame 2] sightedAtFullExit
    (List.mem_cons_self ..) hquiet hup hin rfl hready husable
  have hwaiting := waitingAtExit_sightedAtFullExit
  rw [ht] at hwaiting
  exact absurd (hinbound.symm.trans hwaiting) (by simp)

end Sys2Proof.Machine

/-! PROOFS. A visit's closing composed: its line, its charge, its slot freed (R72, R73, R90, R152, R155, R156). -/

namespace Sys2Proof.Machine

/-! ### The line and its charge -/

/-- An account's record with a line's total charged. -/
def AccountState.charged (x : AccountState) (total : Nat) (stop : Bool) : AccountState :=
  { x with balance := x.balance + total, charges := x.charges + total, visitCount := x.visitCount + 1, creditStop := stop }

/-- CREDIT_STOP's condition for a balance (R152). -/
def stopAt (a : AccountId) (balance : Nat) (s : State) : Bool :=
  match lookup s.table.accounts a.val with
  | none => false
  | some e => decide (e.limit ≤ balance)

/-- The accounts with a visit's line charged to the one it names. -/
def chargedAccounts (v : Visit) (total : Nat) (s : State) : Vector AccountState 256 :=
  match v.account with
  | none => s.tally.accounts
  | some a => s.tally.accounts.set a (s.tally.accounts[a].charged total (stopAt a (s.tally.accounts[a].balance + total) s))

theorem alike_chargeAccount (a : AccountId) (total : Nat) (s : State) : Alike (chargeAccount a total s)
    (putAccount a (s.tally.accounts[a].charged total (stopAt a (s.tally.accounts[a].balance + total) s)) s) := by
  have hcharged := alike_charged a { s.tally.accounts[a] with
    balance := s.tally.accounts[a].balance + total
    charges := s.tally.accounts[a].charges + total
    visitCount := s.tally.accounts[a].visitCount + 1 } s
  rw [creditStopNow_putAccount] at hcharged
  exact hcharged

theorem putAccount_eq {a : AccountId} {x : AccountState} {u : State} {T : TallyUnit} (h : u.tally = T) :
    putAccount a x u = putTally (fun _ => { T with accounts := T.accounts.set a x }) u := by
  subst h
  rfl

/-- The Tally Unit's record written again. -/
theorem alike_rewritten {u s : State} {T : TallyUnit} (h : Alike u (putTally (fun _ => T) s)) (C : TallyUnit) :
    Alike (putTally (fun _ => C) u) (putTally (fun _ => C) s) := h.update (putTally fun _ => C)

/-- The Tally Unit's record after a visit's line: the counter advanced, the account charged, the pause flag as it was. -/
structure LineMade (v : Visit) (total : Nat) (s : State) (T : TallyUnit) : Prop where
  number : T.lineNumber = s.tally.lineNumber + 1
  accounts : T.accounts = chargedAccounts v total s
  pause : T.pause = s.tally.pause

theorem composeVisitLine_spec (v : Visit) (s : State) :
    ∃ T, Alike (composeVisitLine v s.tally s) (putTally (fun _ => T) s) ∧ LineMade v (lineTotal (pricedItems v s)) s T ∧
      ∀ a, v.account = some a → refreshAsked (.balance a) (composeVisitLine v s.tally s) = true := by
  have hline : Lined (s.tally.composed false) s (composeLine s.tally false (visitHeader v (pricedItems v s) s.clock.now)
      (itemsBytes (pricedItems v s)) s) := Lined.refl.composeLine ..
  unfold composeVisitLine
  dsimp only
  generalize lineTotal (pricedItems v s) = total
  cases hacc : v.account with
  | none =>
    obtain ⟨T, ha, hT⟩ := hline
    refine ⟨T, ha, ⟨(congrArg TallyUnit.lineNumber hT :), ?_, (congrArg TallyUnit.pause hT :)⟩, nofun⟩
    unfold chargedAccounts
    rw [hacc]
    exact (congrArg TallyUnit.accounts hT :)
  | some a =>
    obtain ⟨T, ha, hT⟩ := hline.tellOfLine (.balance a) s
    dsimp only
    generalize tellOfLine (.balance a) s _ = u at ha
    have htally : u.tally = T := ha.tally
    have haccounts : T.accounts = s.tally.accounts := (congrArg TallyUnit.accounts hT :)
    have hstop : stopAt a (s.tally.accounts[a].balance + total) u = stopAt a (s.tally.accounts[a].balance + total) s :=
      ha.reads (stopAt a _)
    have hcharged := alike_chargeAccount a total u
    rw [htally, haccounts, hstop, putAccount_eq htally] at hcharged
    refine ⟨_, hcharged.trans (alike_rewritten ha _),
      ⟨(congrArg TallyUnit.lineNumber hT :), ?_, (congrArg TallyUnit.pause hT :)⟩, ?_⟩
    · unfold chargedAccounts
      rw [hacc, haccounts]
    · rintro _ ⟨⟩
      exact refreshAsked_post ..

/-! ### The closing (R73, R90) -/

/-- The record of a visit as it closes. -/
def closingVisit (v : Visit) (o : Option Outcome) (s : State) : Visit :=
  { v with state := .closing, outcome := o, left := some s.clock.now }

/-- The slot freed by a closing and the Tally Unit's record that its line leaves. -/
def closedSlot (slot : Slot) (T : TallyUnit) (s : State) : State := putVisit slot none (putTally (fun _ => T) s)

theorem offerSlot_of_not_blocked {slot : Slot} {s : State} (h : s.gate.entry ≠ .blocked) : offerSlot slot s = s := by
  unfold offerSlot
  split
  · next hb _ => exact absurd hb h
  · rfl

/-- A closing taken with room for it: the line made, the slot freed, the barrier told of a visit not turned away. -/
theorem takeClosing_spec {slot : Slot} {v : Visit} {s : State} (hv : s.yard.slots[slot] = some v)
    (hfew : tallyFull s = false) (hnone : s.tally.closings = []) (hgate : s.gate.entry ≠ .blocked) :
    ∃ T u, LineMade v (lineTotal (pricedItems v s)) s T ∧ Alike u (closedSlot slot T s) ∧ takeClosing slot s =
        (if v.outcome = some .turnedAway then u else raiseBarrier .exit v.serial u) ∧
      ∀ a, v.account = some a → refreshAsked (.balance a) u = true := by
  obtain ⟨T, ha, hmade, hasked⟩ := composeVisitLine_spec v s
  have htold : Alike (tellOfLine (.visit slot) s (composeVisitLine v s.tally s)) (putTally (fun _ => T) s) :=
    (Alike.refl.of_posted (besides_tellOfLine ..) (kept_tellOfLine ..)).trans ha
  have hfreed : Alike (setVisit slot none (tellOfLine (.visit slot) s (composeVisitLine v s.tally s))) (closedSlot slot T s) :=
    htold.setVisit slot none
  refine ⟨T, _, hmade, hfreed, ?_, fun a hacc => ?_⟩
  · unfold takeClosing closeVisit
    rw [hfew, hnone, if_neg (by simp), hv]
    dsimp only
    rw [offerSlot_of_not_blocked (by rw [hfreed.gate]; exact hgate)]
  · exact (Run.refl (L := {})).tellOfLine.setVisit.refreshAsked rfl rfl rfl (hasked a hacc)

/-! ### The pause with its flag clear (R168) -/

theorem alike_pauseCheck {s : State} (h : s.tally.pause = false) :
    ∃ flag, Alike (pauseCheck s) (putTally (fun x => { x with pause := flag }) s) := by
  unfold pauseCheck
  dsimp only
  rw [h]
  split
  · exact ⟨true, (Alike.refl.setTally fun x => { x with pause := true }).notify _⟩
  · refine ⟨false, ?_⟩
    have hself : putTally (fun x => { x with pause := false }) s = s := by
      unfold putTally
      rw [← h]
    rw [hself]
    exact Alike.refl

/-- The end of an event that loses no port, the pause flag clear before it. -/
theorem alike_tidy {s t u : State} (ha : Alike t u) (hpause : u.tally.pause = false)
    (hlinks : ∀ p, linkUp p s = true → linkUp p u = true) :
    ∃ flag, Alike (tidy s t) (putTally (fun x => { x with pause := flag }) u) := by
  obtain ⟨flag, hflag⟩ := alike_pauseCheck (s := t) (by rw [ha.tally]; exact hpause)
  have halike := hflag.trans (ha.update (putTally fun x => { x with pause := flag }))
  refine ⟨flag, ?_⟩
  rw [tidy, settleLost_eq_self fun p hp => ?_]
  · exact halike
  · rw [halike.reads (linkUp p)]
    exact hlinks p (List.mem_filter.1 hp).2

theorem alike_conclude {s t u : State} (ha : Alike t u) (hpause : u.tally.pause = false)
    (hlinks : ∀ p, linkUp p s = true → linkUp p u = true) (hpart : u.exch.part = .running) :
    ∃ flag, Alike (conclude s t) (putTally (fun x => { x with pause := flag }) u) := by
  obtain ⟨flag, halike⟩ := alike_tidy ha hpause hlinks
  refine ⟨flag, ?_⟩
  have hrunning : (tidy s t).exch.part = .running := halike.part.trans hpart
  rw [conclude, windDown_eq_self (windDownMet_eq_false (by rw [hrunning]; simp))]
  exact halike

/-- A line charged, read at the end of the event. -/
theorem lineCharged_of_alike {v w : Visit} {total : Nat} {s u t : State} {T : TallyUnit} (hmade : LineMade w total u T)
    (hacc : w.account = v.account) (haccounts : u.tally.accounts = s.tally.accounts) (htable : u.table = s.table)
    (ht : t.tally.accounts = T.accounts) (hasked : ∀ a, w.account = some a → refreshAsked (.balance a) t = true) :
    lineCharged v total s t := by
  have hcharged := ht.trans hmade.accounts
  unfold chargedAccounts stopAt at hcharged
  rw [haccounts, htable, hacc] at hcharged
  refine ⟨fun hnone => ?_, fun a ha => ⟨hasked a (hacc.trans ha), ?_⟩⟩
  · rw [hcharged, hnone]
  · rw [hcharged, ha]
    rfl

/-! ### The exit action's row (R70, R72, R73) -/

/-- A usable sighting's row at the exit gate. -/
theorem exec_exitSighting {c : Instr} {kind : Byte} {x : QFrame} {xs : List QFrame} {s : State}
    (hc : (c, kind) ∈ [(Instr.sightTag .exit, Kind.sightTag), (.sightPlate .exit, Kind.sightPlate)]) (hq : quiet s)
    (hup : s.ports[exitPort].link = .up) (hin : s.ports[exitPort].inbound = x :: xs) (hkind : x.kind = kind)
    (hready : s.gate.exitReady = true) (husable : (sightingOf x).usable = true) :
    exec c s = .next (conclude s (exitSighting (sightingOf x) (takeFrame exitPort s))) := by
  have htaken : gateSighting .exit x (takeFrame exitPort s) = exitSighting (sightingOf x) (takeFrame exitPort s) :=
    if_pos husable
  have hrow : sightingRow .exit kind s = conclude s (exitSighting (sightingOf x) (takeFrame exitPort s)) := by
    rw [← hkind, sightingRow_eq (g := .exit) hq.2.1 hup hin hready]
    exact congrArg (conclude s) htaken
  rw [← hrow]
  simp only [List.mem_cons, Prod.mk.injEq, List.not_mem_nil, or_false] at hc
  rcases hc with ⟨rfl, rfl⟩ | ⟨rfl, rfl⟩ <;> rfl

/-- The state in which a washed visit's closing is handed on. -/
def leaving (slot : Slot) (v : Visit) (s : State) : State :=
  enterClosing slot v v.outcome (addRecent (visitTags v s) (visitPlates v s) (some v.serial) s)

/-- The same, from the state before its row. -/
def left (slot : Slot) (v : Visit) (s : State) : State :=
  putVisit slot (some (closingVisit v v.outcome s))
    (addRecent (visitTags v s) (visitPlates v s) (some v.serial) (frameTaken exitPort s))

theorem alike_leaving (slot : Slot) (v : Visit) (s : State) : Alike (leaving slot v (takeFrame exitPort s)) (left slot v s) := by
  have halike := alike_takeFrame exitPort s
  have htags : visitTags v (takeFrame exitPort s) = visitTags v s := halike.reads (visitTags v)
  have hplates : visitPlates v (takeFrame exitPort s) = visitPlates v s := halike.reads (visitPlates v)
  have hrecent : Alike (addRecent (visitTags v s) (visitPlates v s) (some v.serial) (takeFrame exitPort s))
      (addRecent (visitTags v s) (visitPlates v s) (some v.serial) (frameTaken exitPort s)) :=
    halike.update (addRecent (visitTags v s) (visitPlates v s) (some v.serial))
  have hclosing := hrecent.setVisit slot (some (closingVisit v v.outcome s))
  have hclock : (takeFrame exitPort s).clock = s.clock := halike.clock
  unfold leaving enterClosing
  rw [htags, hplates]
  show Alike (setVisit slot (some { v with state := .closing, outcome := v.outcome, left := some (takeFrame exitPort s).clock.now })
    (addRecent (visitTags v s) (visitPlates v s) (some v.serial) (takeFrame exitPort s))) (left slot v s)
  rw [hclock]
  exact hclosing

/-- The one visit matched, WASHED, is handed on for closing. -/
theorem exitSighting_washed {x : Sighting} {slot : Slot} {v : Visit} {s : State} (hrecent : inRecent x s = false)
    (hconf : lowConfidence x s = false) (hmatch : matchedSlots x s = [slot]) (hv : s.yard.slots[slot] = some v)
    (hwashed : v.state = .washed) : exitSighting x s = handClosing slot (leaving slot v s) := by
  unfold exitSighting
  rw [if_neg (by rw [hrecent]; simp), if_neg (by rw [hconf]; simp)]
  unfold matchExit
  rw [hmatch]
  dsimp only
  rw [hv]
  dsimp only
  unfold exitAction
  rw [hwashed]
  rfl

theorem handClosing_of_free {slot : Slot} {s : State} (h : busy .tally s = false) :
    handClosing slot s = takeClosing slot s := if_neg (by rw [h]; simp)

theorem slots_left (slot : Slot) (v : Visit) (s : State) :
    (left slot v s).yard.slots = s.yard.slots.set slot (some (closingVisit v v.outcome s)) := rfl

/-- SIGHT_TAG at the exit gate closes the one visit that it names (R72, R73, R90). -/
theorem sightTag_closes {x : QFrame} {xs : List QFrame} {slot : Slot} {v : Visit} {s : State} (hq : quiet s)
    (hlen : s.path.queue.length ≤ 32) (hup : s.ports[exitPort].link = .up) (hin : s.ports[exitPort].inbound = x :: xs)
    (hroom : s.ports[exitPort].outbound.length < 16) (hkind : x.kind = Kind.sightTag) (htag : tagOf x.payload ≠ 0)
    (hready : s.gate.exitReady = true) (hgate : s.gate.entry ≠ .blocked) (hrecent : inRecent (sightingOf x) s = false)
    (hmatch : matchedSlots (sightingOf x) s = [slot]) (hv : s.yard.slots[slot] = some v) (hwashed : v.state = .washed)
    (houtcome : v.outcome ≠ some .turnedAway) :
    ∃ t, exec (.sightTag .exit) s = .next t ∧ t.yard.slots = s.yard.slots.set slot none ∧
      t.tally.lineNumber = s.tally.lineNumber + 1 ∧ lineCharged v (lineTotal (pricedItems v s)) s t ∧
      t.ports[exitPort].outbound = s.ports[exitPort].outbound ++ [raiseFrame v.serial] ∧ t.bays = s.bays := by
  have hsight : sightingOf x = .tag (tagOf x.payload) := if_pos hkind
  have husable : (sightingOf x).usable = true := by rw [hsight]; simpa [Sighting.usable] using htag
  have hconf : lowConfidence (sightingOf x) (takeFrame exitPort s) = false := by rw [hsight]; rfl
  have halike := alike_takeFrame exitPort s
  have hexec := exec_exitSighting (c := .sightTag .exit) (List.mem_cons_self ..) hq hup hin hkind hready husable
  rw [exitSighting_washed ((halike.reads (inRecent (sightingOf x))).trans hrecent) hconf
    ((halike.reads (matchedSlots (sightingOf x))).trans hmatch) (by rw [halike.yard]; exact hv) hwashed] at hexec
  have hfree : busy .tally (leaving slot v (takeFrame exitPort s)) = false := by
    have hring : Ringing 31 0 s (takeFrame exitPort s) := (Ringing.calm hq.1 hq.2.1 hlen).takeFrame exitPort
    have hrecent : Ringing 31 0 s (addRecent (visitTags v (takeFrame exitPort s)) (visitPlates v (takeFrame exitPort s))
        (some v.serial) (takeFrame exitPort s)) := hring.update rfl rfl rfl
    exact (Ringing.setVisit hrecent slot _).free .tally
  rw [handClosing_of_free hfree] at hexec
  have hleft := alike_leaving slot v s
  generalize leaving slot v (takeFrame exitPort s) = c at hleft hexec
  obtain ⟨T, u, hmade, hclosed, htaken, hasked⟩ := takeClosing_spec (slot := slot) (v := closingVisit v v.outcome s) (s := c)
    (by rw [hleft.yard]; exact Vector.getElem_set_self ..)
    ((hleft.reads tallyFull).trans (tallyFull_of_calm hq.1)) ((hleft.reads fun z => z.tally.closings).trans hq.1.2.2.1)
    (by rw [hleft.gate]; exact hgate)
  have houtcome' : (closingVisit v v.outcome s).outcome ≠ some .turnedAway := houtcome
  have htaken' : takeClosing slot c = raiseBarrier .exit v.serial u := htaken.trans (if_neg houtcome')
  rw [htaken'] at hexec
  have hfreed : Alike u (closedSlot slot T (left slot v s)) := hclosed.trans (hleft.update (closedSlot slot T))
  have hraised := hfreed.raiseBarrier (g := .exit) v.serial (link_frameTaken.trans hup)
    ((congrArg List.length outbound_frameTaken).trans_lt hroom)
  have hpause : T.pause = false := hmade.pause.trans ((hleft.reads fun z => z.tally.pause).trans hq.1.2.2.2.1)
  obtain ⟨flag, hend⟩ := alike_conclude (s := s) hraised hpause
    (fun p hp => by
      rw [linkUp_putPort (by rfl)]
      exact (Ended.frameTaken (p := exitPort) (s := s)).links p hp) hq.2.1
  have hprice : pricedItems (closingVisit v v.outcome s) c = pricedItems v s := hleft.reads (pricedItems _)
  have htally : c.tally = s.tally := hleft.tally
  rw [hprice] at hmade
  refine ⟨_, hexec, ?_, ?_, lineCharged_of_alike hmade rfl (congrArg TallyUnit.accounts htally)
    (hleft.table) ?_ fun a ha => ?_, ?_, ?_⟩
  · rw [hend.yard]
    show (s.yard.slots.set slot _).set slot none = _
    rw [Vector.set_set]
  · rw [hend.tally]
    exact hmade.number.trans (congrArg (fun z => TallyUnit.lineNumber z + 1) htally)
  · rw [hend.tally]
    rfl
  · exact ((Run.refl (L := {})).raiseBarrier.conclude).refreshAsked rfl rfl rfl (hasked a ha)
  · rw [hend.ports]
    refine (congrArg Port.outbound (getElem_putPort_self (gatePort .exit)
      (fun x => { x with outbound := x.outbound ++ [raiseFrame v.serial] }) (closedSlot slot T (left slot v s)))).trans ?_
    exact congrArg (· ++ _) (outbound_frameTaken (p := exitPort) (s := s))
  · rw [hend.bays]
    rfl

/-! ### TURN_AWAY (R68) -/

theorem pricedItems_turnedAway (v : Visit) (s u : State) :
    pricedItems (closingVisit v (some .turnedAway) s) u = [] := by
  unfold pricedItems
  split <;> rfl

/-- A visit turned away is closed with a total of 0 and no barrier raised. -/
theorem turnAway_done {entry : List Byte} {slot : Slot} {v : Visit} {s : State} (h : orderReady 2 entry s)
    (hslot : slot.val = arg16 4 entry) (hv : s.yard.slots[slot] = some v) (hserial : v.serial.toNat = arg16 6 entry)
    (hat : v.state = .atGate) (hgate : s.gate.entry ≠ .blocked) :
    ∃ t, exec .turnAway s = .next t ∧ answered .done s t ∧ t.yard.slots = s.yard.slots.set slot none ∧
      t.tally.lineNumber = s.tally.lineNumber + 1 ∧ lineCharged v 0 s t ∧ t.ports = s.ports ∧ t.bays = s.bays := by
  have hcalm := calm_orderTakenUp h.1 entry
  have hfew := tallyFull_of_calm hcalm
  have hnone : (orderTakenUp entry s).tally.closings = [] := hcalm.2.2.1
  have hf : onVisit turnAwayOrder entry (orderTakenUp entry s) = (.done, takeClosing slot
      (enterClosing slot v (some .turnedAway) (orderTakenUp entry s))) := by
    rw [onVisit_named (s := orderTakenUp entry s) hslot hv hserial]
    unfold turnAwayOrder
    rw [if_neg (not_not.2 hat), hfew, hnone]
    rfl
  have hclosing : Alike (enterClosing slot v (some .turnedAway) (orderTakenUp entry s))
      (putVisit slot (some (closingVisit v (some .turnedAway) s)) (orderTakenUp entry s)) := Alike.refl.setVisit ..
  generalize enterClosing slot v (some .turnedAway) (orderTakenUp entry s) = c at hclosing hf
  obtain ⟨T, u, hmade, hclosed, htaken, hasked⟩ := takeClosing_spec (slot := slot)
    (v := closingVisit v (some .turnedAway) s) (s := c) (by rw [hclosing.yard]; exact Vector.getElem_set_self ..)
    ((hclosing.reads tallyFull).trans hfew) ((hclosing.reads fun z => z.tally.closings).trans hnone)
    (by rw [hclosing.gate]; exact hgate)
  have hturned : (closingVisit v (some .turnedAway) s).outcome = some .turnedAway := rfl
  rw [htaken, if_pos hturned] at hf
  have hfreed : Alike u (closedSlot slot T (putVisit slot (some (closingVisit v (some .turnedAway) s)) (orderTakenUp entry s))) :=
    hclosed.trans (hclosing.update (closedSlot slot T))
  have hpause : T.pause = false := hmade.pause.trans ((hclosing.reads fun z => z.tally.pause).trans hcalm.2.2.2.1)
  obtain ⟨flag, hend⟩ := alike_tidy (s := orderTakenUp entry s) hfreed hpause fun p hp => hp
  have hpart : (tidy (orderTakenUp entry s) u).exch.part = .running := hend.part.trans h.2.1
  have hrow := orderRow_eq h.2 (want := fun k => k == 2) rfl hf hpart
  obtain ⟨hanswered, hunits⟩ := orderRow_ends h.2 (want := fun k => k == 2) rfl hf (hfreed.part.trans h.2.1)
    hfreed.orderTaken hfreed.bases
  have htotal : lineTotal (pricedItems (closingVisit v (some .turnedAway) s) c) = 0 := by
    rw [pricedItems_turnedAway]
    rfl
  have htally : c.tally = s.tally := hclosing.tally
  rw [htotal] at hmade
  have hrowTally := (tally_of_besides hunits).trans hend.tally
  refine ⟨_, rfl, hanswered, ?_, ?_, lineCharged_of_alike hmade rfl (congrArg TallyUnit.accounts htally)
    (hclosing.table) ?_ fun a ha => ?_, ?_, ?_⟩
  · rw [yard_of_besides hunits, hend.yard]
    show (s.yard.slots.set slot _).set slot none = _
    rw [Vector.set_set]
  · rw [hrowTally]
    exact hmade.number.trans (congrArg (fun z => TallyUnit.lineNumber z + 1) htally)
  · rw [hrowTally]
    rfl
  · rw [hrow]
    exact refreshAsked_order_end ((Run.refl (L := {})).tidy.refreshAsked rfl rfl rfl (hasked a ha)) .done
  · exact (ports_of_besides hunits).trans hend.ports
  · exact (bays_of_besides hunits).trans hend.bays

/-- Settles O28. -/
theorem closedVisitsFreeTheirSlot : Obligations.ClosedVisitsFreeTheirSlot := by
  refine ⟨fun x xs slot v s hq _ hlen hup hin hroom hkind htag hready hgate hrecent hmatch hv hwashed houtcome =>
      sightTag_closes hq hlen hup hin hroom hkind htag hready hgate hrecent hmatch hv hwashed houtcome,
    fun entry slot v s h hslot hv hserial => ⟨fun hstate => ?_, fun hat _ hgate _ => turnAway_done h hslot hv hserial hat hgate⟩⟩
  have hf : onVisit turnAwayOrder entry (orderTakenUp entry s) = (.refusedState, orderTakenUp entry s) := by
    rw [onVisit_named (s := orderTakenUp entry s) hslot hv hserial]
    exact if_pos hstate
  obtain ⟨ha, hs, -⟩ := orderRow_refused h (want := fun k => k == 2) rfl hf
  exact ⟨_, rfl, ha, hs⟩

end Sys2Proof.Machine

/-! PROOFS. METER: the litres read, a part settled, and what follows it (R103, R104, R105, R107, R124). -/

namespace Sys2Proof.Machine

/-! ### The litres read (R103, R124) -/

/-- The state with a bay's session changed by a function. -/
def putSession (b : BayId) (f : Session → Session) (s : State) : State := putBay b (Bay.withSession f) s

theorem putBay_eq_of_session {b : BayId} {f : Session → Session} {z : Session} {s : State}
    (hz : s.bays[b].session = some z) : (putSession b f s).bays = s.bays.set b { s.bays[b] with session := some (f z) } := by
  unfold putSession putBay
  rw [withSession_some hz]

theorem partOf_eq {b : BayId} {z : Session} {p : Part} {s : State} (hz : s.bays[b].session = some z) (hp : z.part = some p) :
    partOf b s = some p := by
  unfold partOf
  rw [hz]
  exact hp

theorem noteLitres_eq {z : Session} {p : Part} (hp : z.part = some p) (l : Nat) :
    noteLitres l 0 z = { z with part := some { p with last := l } } := by
  unfold noteLitres
  rw [hp]
  rfl

/-- Litres no more than the part's own change nothing. -/
theorem alike_applyMeter_still {b : BayId} {l : Nat} {p : Part} {s t : State} (h : Alike s t) (hp : partOf b t = some p)
    (hl : l ≤ p.last) : Alike (applyMeter b l s) t := by
  have hp' : partOf b s = some p := (h.reads (partOf b)).trans hp
  unfold applyMeter
  rw [hp']
  dsimp only
  rw [if_neg (by omega)]
  split
  · exact h.notify _
  · exact h

theorem applyMeter_same {b : BayId} {p : Part} {s : State} (hp : partOf b s = some p) : applyMeter b p.last s = s := by
  unfold applyMeter
  rw [hp]
  dsimp only
  rw [if_neg (lt_irrefl _), if_neg (lt_irrefl _)]

/-- Litres metered against an active grant are owed no more (R116, R124). -/
theorem sum_owes_metered {b : BayId} {g : Grant} {k : TankId} {x : Nat} {w : Vector (Option Grant) 8} (hg : w[b] = some g)
    (hsource : g.source = .tank k) (hactive : g.revoked = false) (hfits : g.metered + x ≤ g.granted) :
    ((w.set b (some { g with metered := g.metered + x })).toList.map (grantOwes k)).sum =
      (w.toList.map (grantOwes k)).sum - x := by
  have hlt : b.val < w.toList.length := by simp
  have hsum := sum_map_set (grantOwes k) (some { g with metered := g.metered + x }) w.toList b.val hlt
  have hold : w.toList[b.val] = some g := by
    rw [Vector.getElem_toList]
    exact hg
  have howes : grantOwes k (some g) = g.granted - g.metered := by simp [grantOwes, hsource, hactive]
  have howes' : grantOwes k (some { g with metered := g.metered + x }) = g.granted - (g.metered + x) := by
    simp [grantOwes, hsource, hactive]
  rw [hold, howes, howes'] at hsum
  rw [Vector.toList_set]
  omega

/-- The state with more litres metered against a grant. -/
def metered (b : BayId) (l x : Nat) (g : Grant) (s : State) : State :=
  putWater (fun w => { w with grants := w.grants.set b (some { g with metered := g.metered + x }) })
    (putSession b (noteLitres l 0) s)

theorem grantNumbered_eq {b : BayId} {g : Grant} {s : State} (hg : s.water.grants[b] = some g) :
    grantNumbered b g.number s = some g := by
  unfold grantNumbered
  rw [hg]
  exact Option.filter_eq_some_iff.2 ⟨rfl, beq_self_eq_true _⟩

theorem applyMeter_granted {b : BayId} {l : Nat} {p : Part} {g : Grant} {s : State} (hp : partOf b s = some p)
    (hl : p.last < l) (hgrant : p.grant = some g.number) : applyMeter b l s =
      reportMeter b g.number (l - p.last) (setBayWith b (Bay.withSession (noteLitres l 0)) s) := by
  unfold applyMeter
  rw [hp]
  dsimp only
  rw [if_pos hl, hgrant]

section Granted

variable {b : BayId} {l : Nat} {p : Part} {g : Grant} {s t : State} (h : Alike s t) (hp : partOf b t = some p)
  (hl : p.last < l) (hgrant : p.grant = some g.number) (hg : t.water.grants[b] = some g)
include h hp hl hgrant hg

theorem alike_applyMeter_fresh (hsource : g.source = .fresh) :
    Alike (applyMeter b l s) (metered b l (l - p.last) g t) := by
  have hp' : partOf b s = some p := (h.reads (partOf b)).trans hp
  have hnoted : Alike (setBayWith b (Bay.withSession (noteLitres l 0)) s) (putSession b (noteLitres l 0) t) := h.setBayWith b _
  rw [applyMeter_granted hp' hl hgrant]
  generalize setBayWith b (Bay.withSession (noteLitres l 0)) s = u at hnoted
  have hg' : u.water.grants[b] = some g := by rw [hnoted.water]; exact hg
  unfold reportMeter
  rw [grantNumbered_eq hg']
  dsimp only
  split
  · next hs => exact absurd (hsource.symm.trans hs) (by simp)
  · exact hnoted.setGrant b _
  · next hs => exact absurd (hsource.symm.trans hs) (by simp)

/-- Litres within what the tank owes bring no shortfall (R123, R124). -/
theorem alike_applyMeter_tank {k : TankId} (hsource : g.source = .tank k) (hactive : g.revoked = false)
    (hfits : g.metered + (l - p.last) ≤ g.granted) (howed : owed k t ≤ t.water.tanks[k].book) :
    Alike (applyMeter b l s) (putTank k (fun x => { x with book := x.book - (l - p.last) })
      (metered b l (l - p.last) g t)) := by
  have hp' : partOf b s = some p := (h.reads (partOf b)).trans hp
  have hnoted : Alike (setBayWith b (Bay.withSession (noteLitres l 0)) s) (putSession b (noteLitres l 0) t) := h.setBayWith b _
  rw [applyMeter_granted hp' hl hgrant]
  generalize setBayWith b (Bay.withSession (noteLitres l 0)) s = u at hnoted
  have hg' : u.water.grants[b] = some g := by rw [hnoted.water]; exact hg
  have hset : Alike (setTankWith k (fun x => { x with book := x.book - (l - p.last) })
      (setGrant b (some { g with metered := g.metered + (l - p.last) }) u)) (putTank k
        (fun x => { x with book := x.book - (l - p.last) }) (metered b l (l - p.last) g t)) :=
    (hnoted.setGrant b _).setTankWith k _
  have hreport : reportMeter b g.number (l - p.last) u = meetShortfall k (setTankWith k
      (fun x => { x with book := x.book - (l - p.last) }) (setGrant b (some { g with metered := g.metered + (l - p.last) }) u)) := by
    unfold reportMeter
    rw [grantNumbered_eq hg']
    dsimp only
    split
    · next j hs =>
      cases hsource.symm.trans hs
      rfl
    · next hs => exact absurd (hsource.symm.trans hs) (by simp)
    · next hs => exact absurd (hsource.symm.trans hs) (by simp)
  rw [hreport]
  generalize setTankWith k (fun x => { x with book := x.book - (l - p.last) })
    (setGrant b (some { g with metered := g.metered + (l - p.last) }) u) = c at hset ⊢
  have henough : ¬ c.water.tanks[k].book < owed k c := by
    have hbook : c.water.tanks[k].book = t.water.tanks[k].book - (l - p.last) := by
      rw [hset.water]
      exact congrArg Tank.book (Vector.getElem_set_self ..)
    have howes : owed k c = owed k t - (l - p.last) := by
      have hwater : c.water.grants = t.water.grants.set b (some { g with metered := g.metered + (l - p.last) }) := by
        rw [hset.water]
        rfl
      unfold owed
      rw [hwater]
      exact sum_owes_metered hg hsource hactive hfits
    rw [hbook, howes]
    omega
  unfold meetShortfall
  rw [if_neg henough]
  exact hset

end Granted

/-! ### A part settled (R105, R124) -/

/-- The Water Unit's record with a grant settled. -/
def removedGrant (b : BayId) (g : Grant) (total : Nat) (w : WaterUnit) : WaterUnit :=
  match g.source with
  | .tank k => { w with grants := w.grants.set b none,
                        tanks := w.tanks.set k { w.tanks[k] with grants := w.tanks[k].grants.erase b } }
  | .fresh => { w with grants := w.grants.set b none, settled := w.settled + min total g.granted }
  | .none => { w with grants := w.grants.set b none }

theorem alike_removeGrant {b : BayId} {g : Grant} {total : Nat} {s t : State} (h : Alike s t) :
    Alike (removeGrant b g total s) (putWater (removedGrant b g total) t) := by
  unfold removeGrant removedGrant
  cases g.source with
  | tank k => exact ((h.setTankWith k fun x => { x with grants := x.grants.erase b }).setGrant b none).postChangedLines _ _
  | fresh =>
    exact ((h.update (putWater fun w => { w with settled := w.settled + min total g.granted })).setGrant b
      none).postChangedLines _ _
  | none => exact (h.setGrant b none).postChangedLines _ _

/-- The state with a part's grant settled, when it has one in its bay's place. -/
def handed (b : BayId) (p : Part) (s : State) : State :=
  match p.grant.bind fun n => grantNumbered b n s with
  | none => s
  | some g => putWater (removedGrant b g p.last) s

theorem retry_of_nil {s : State} (h : s.water.waitList = []) : retry s = s := by
  unfold retry
  rw [h]
  rfl

theorem pumpLook_of_nil {s : State} (h : s.water.pumpQueue = []) : pumpLook s = s := by
  have hnone : sendable s = none := by
    unfold sendable
    rw [h]
    rfl
  unfold pumpLook
  rw [hnone]
  split <;> rfl

theorem waitList_removedGrant (b : BayId) (g : Grant) (n : Nat) (w : WaterUnit) :
    (removedGrant b g n w).waitList = w.waitList := by
  unfold removedGrant
  split <;> rfl

theorem pumpQueue_removedGrant (b : BayId) (g : Grant) (n : Nat) (w : WaterUnit) :
    (removedGrant b g n w).pumpQueue = w.pumpQueue := by
  unfold removedGrant
  split <;> rfl

section HandSettlement

variable {b : BayId} {p : Part} {s : State} (hwait : s.water.waitList = []) (hpump : s.water.pumpQueue = [])
include hwait hpump

/-- No request for water waits and no pump run: the settlement is the grant's own. -/
theorem handSettlement_eq : handSettlement b p s =
    match p.grant.bind fun n => grantNumbered b n s with
    | none => s
    | some g => removeGrant b g p.last s := by
  unfold handSettlement settleGrant
  cases p.grant with
  | none => rfl
  | some n =>
    dsimp only
    rw [Option.bind_some]
    cases grantNumbered b n s with
    | none => rfl
    | some g =>
      have hremoved := (alike_removeGrant (b := b) (g := g) (total := p.last) (Alike.refl (s := s))).water
      dsimp only
      rw [retry_of_nil (by rw [hremoved]; exact (waitList_removedGrant ..).trans hwait),
        pumpLook_of_nil (by rw [hremoved]; exact (pumpQueue_removedGrant ..).trans hpump)]

theorem ringing_handSettlement {n k : Nat} {a : State} (h : Ringing (n + 8) k a s) :
    Ringing n k a (handSettlement b p s) := by
  rw [handSettlement_eq hwait hpump]
  split
  · exact h.mono (by omega)
  · next g _ =>
    unfold removeGrant
    refine Ringing.postChanged ?_ 20 s
    refine Ringing.setGrant ?_ b none
    split
    · exact h.setTank _ _
    · exact (h.mono (by omega)).update rfl rfl rfl
    · exact h.mono (by omega)

end HandSettlement

theorem alike_handSettlement {b : BayId} {p : Part} {s t : State} (h : Alike s t) (hwait : t.water.waitList = [])
    (hpump : t.water.pumpQueue = []) : Alike (handSettlement b p s) (handed b p t) := by
  have hnumbered : (p.grant.bind fun n => grantNumbered b n s) = p.grant.bind fun n => grantNumbered b n t :=
    h.reads fun x => p.grant.bind fun n => grantNumbered b n x
  rw [handSettlement_eq (by rw [h.water]; exact hwait) (by rw [h.water]; exact hpump), hnumbered]
  unfold handed
  split
  · exact h
  · exact alike_removeGrant h

end Sys2Proof.Machine

/-! PROOFS. The METER row by the bay's state (R103, R104, R105, R107). -/

namespace Sys2Proof.Machine

theorem stood_taken {b : BayId} {x : QFrame} {xs : List QFrame} {s : State} (hq : quiet s)
    (hup : s.ports[bayPort b].link = .up) (hin : s.ports[bayPort b].inbound = x :: xs) :
    Stood b xs s (frameTaken (bayPort b) s) :=
  ⟨.frameTaken, hq.2.1, inbound_frameTaken hin, link_frameTaken.trans hup, hq.2.2⟩

theorem exec_meter {b : BayId} {x : QFrame} {xs : List QFrame} {s : State} (hq : quiet s) (hfit : bayFitted b s = true)
    (hup : s.ports[bayPort b].link = .up) (hin : s.ports[bayPort b].inbound = x :: xs) (hkind : x.kind = Kind.meter) :
    exec (.meter b) s = .next (conclude s (meterFrame b x.payload (takeFrame (bayPort b) s))) := by
  show Host.Outcome.next (bayFrameRow b Kind.meter (meterFrame b) s) = _
  rw [← hkind, bayFrameRow_eq hq hfit hup hin]

/-- The litres a METER shows. -/
def shownLitres (b : BayId) (payload : List Byte) (s : State) : Nat := litresOf (field 0 4 payload) b s

theorem meterFrame_running {b : BayId} {payload : List Byte} {s : State} (hstate : s.bays[b].state = .running) :
    meterFrame b payload s = if field 4 1 payload % 2 = 1 then
        finalInRunning b (shownLitres b payload s) (field 4 1 payload / 2 % 2 == 1) s
      else applyMeter b (shownLitres b payload s) s := by
  unfold meterFrame
  dsimp only
  rw [hstate]
  simp only [beq_iff_eq]
  rfl

theorem meterFrame_settling {b : BayId} {payload : List Byte} {s : State} (hstate : s.bays[b].state = .settling)
    (hfinal : field 4 1 payload % 2 = 1) :
    meterFrame b payload s = settlePart b false (applyMeter b (shownLitres b payload s) s) := by
  unfold meterFrame
  dsimp only
  rw [hstate]
  simp only [hfinal]
  rfl

theorem alike_meterFrame_idle {b : BayId} {payload : List Byte} {s t : State} (h : Alike s t)
    (hrun : t.bays[b].state ≠ .running) (hset : t.bays[b].state ≠ .settling) : Alike (meterFrame b payload s) t := by
  have hbays := h.bays
  unfold meterFrame meterUnexpected
  dsimp only
  split
  · next hs => exact absurd (hbays ▸ hs) hrun
  · next hs => exact absurd (hbays ▸ hs) hset
  all_goals exact h.notify _

/-- A METER with no part in flight is noted. -/
theorem meter_idle {b : BayId} {x : QFrame} {xs : List QFrame} {s : State} (hq : quiet s) (hfit : bayFitted b s = true)
    (hup : s.ports[bayPort b].link = .up) (hin : s.ports[bayPort b].inbound = x :: xs) (hkind : x.kind = Kind.meter)
    (hrun : s.bays[b].state ≠ .running) (hset : s.bays[b].state ≠ .settling) :
    ∃ t, exec (.meter b) s = .next t ∧ t.ports[bayPort b].inbound = xs ∧ t.bays = s.bays ∧ t.yard = s.yard ∧
      t.water = s.water := by
  have halike := alike_meterFrame_idle (payload := x.payload) (alike_takeFrame (bayPort b) s) hrun hset
  have htook := (stood_taken hq hup hin).took halike
  refine ⟨_, exec_meter hq hfit hup hin hkind, ?_⟩
  rw [htook.concluded (steady_of_calm hq.1)]
  exact ⟨htook.inbound, halike.bays, halike.yard, halike.water⟩

/-! ### A reading while the part runs (R103, R124) -/

section Running

variable {b : BayId} {x : QFrame} {xs : List QFrame} {z : Session} {p : Part} {g : Grant} {s : State} (hq : quiet s)
  (hfit : bayFitted b s = true) (hup : s.ports[bayPort b].link = .up) (hin : s.ports[bayPort b].inbound = x :: xs)
  (hkind : x.kind = Kind.meter) (hstate : s.bays[b].state = .running) (hnot : field 4 1 x.payload % 2 = 0)
include hq hfit hup hin hkind hstate hnot

/-- The row ends on the litres read against the part. -/
theorem exec_meter_running {w : State} (hw : Stood b xs s w)
    (ha : Alike (applyMeter b (shownLitres b x.payload s) (takeFrame (bayPort b) s)) w) :
    ∃ t, exec (.meter b) s = .next t ∧ Alike t w := by
  have htaken := alike_takeFrame (bayPort b) s
  have hlitres : shownLitres b x.payload (takeFrame (bayPort b) s) = shownLitres b x.payload s :=
    htaken.reads (shownLitres b x.payload)
  have hframe : meterFrame b x.payload (takeFrame (bayPort b) s) =
      applyMeter b (shownLitres b x.payload s) (takeFrame (bayPort b) s) := by
    rw [meterFrame_running (by rw [htaken.bays]; exact hstate), if_neg (by omega), hlitres]
  have hexec := exec_meter hq hfit hup hin hkind
  rw [hframe, (hw.took ha).concluded (steady_of_calm hq.1)] at hexec
  exact ⟨_, hexec, ha⟩

variable (hz : s.bays[b].session = some z) (hp : z.part = some p) (hgrant : p.grant = some g.number)
  (hg : s.water.grants[b] = some g)
include hz hp hgrant hg

theorem meter_running {l : Nat} (hl : shownLitres b x.payload s = l) :
    let bays := s.bays.set b { s.bays[b] with session := some { z with part := some { p with last := l } } }
    let grants := s.water.grants.set b (some { g with metered := g.metered + (l - p.last) })
    (p.last < l → g.source = .fresh →
      ∃ t, exec (.meter b) s = .next t ∧ t.water = { s.water with grants := grants } ∧ t.bays = bays) ∧
    (∀ k, p.last < l → g.source = .tank k → g.revoked = false → g.metered + (l - p.last) ≤ g.granted →
      owed k s ≤ s.water.tanks[k].book →
      ∃ t, exec (.meter b) s = .next t ∧ t.bays = bays ∧ t.water = { s.water with
        grants := grants, tanks := s.water.tanks.set k { s.water.tanks[k] with
          book := s.water.tanks[k].book - (l - p.last) } }) ∧
    (l ≤ p.last → ∃ t, exec (.meter b) s = .next t ∧ t.water = s.water ∧ t.bays = s.bays) := by
  have htaken := alike_takeFrame (bayPort b) s
  have hpart : partOf b (frameTaken (bayPort b) s) = some p := partOf_eq (s := s) hz hp
  have hstood := stood_taken hq hup hin
  have hrow := fun {w} => exec_meter_running (w := w) hq hfit hup hin hkind hstate hnot
  have hbays : (putSession b (noteLitres l 0) (frameTaken (bayPort b) s)).bays =
      s.bays.set b { s.bays[b] with session := some { z with part := some { p with last := l } } } := by
    rw [putBay_eq_of_session (s := frameTaken (bayPort b) s) hz, noteLitres_eq hp]
    rfl
  rw [hl] at hrow
  refine ⟨fun hmore hsource => ?_, fun k hmore hsource hactive hfits howed => ?_, fun hstill => ?_⟩
  · obtain ⟨t, hexec, ha⟩ := hrow hstood.update (alike_applyMeter_fresh htaken hpart hmore hgrant hg hsource)
    exact ⟨t, hexec, ha.water, ha.bays.trans hbays⟩
  · obtain ⟨t, hexec, ha⟩ := hrow hstood.update
      (alike_applyMeter_tank htaken hpart hmore hgrant hg hsource hactive hfits howed)
    exact ⟨t, hexec, ha.bays.trans hbays, ha.water⟩
  · obtain ⟨t, hexec, ha⟩ := hrow hstood (alike_applyMeter_still htaken hpart hstill)
    exact ⟨t, hexec, ha.water, ha.bays⟩

end Running

/-! ### The part's end (R104, R105) -/

/-- The bay with its part settled. -/
def settledBay (short : Bool) (p : Part) (y : Bay) : Bay :=
  { y.withSession (fun z => completeStage short (settleTotals p z)) with timer := none }

/-- The state with a bay's part settled. -/
def settledPart (b : BayId) (short : Bool) (p : Part) (s : State) : State := handed b p (putBay b (settledBay short p) s)

/-- What a settled part passes on to what follows it. -/
theorem settlePart_eq {b : BayId} {short : Bool} {p : Part} {s : State} (hp : partOf b s = some p) : settlePart b short s =
    afterSettling b (handSettlement b p (setBayWith b (settledBay short p) s)) := by
  unfold settlePart
  rw [hp]
  rfl

theorem alike_settlePart {b : BayId} {short : Bool} {p : Part} {s t : State} (h : Alike s t) (hp : partOf b t = some p)
    (hwait : t.water.waitList = []) (hpump : t.water.pumpQueue = []) : ∃ u, Alike u (settledPart b short p t) ∧
      settlePart b short s = afterSettling b u ∧ u = handSettlement b p (setBayWith b (settledBay short p) s) := by
  have hset : Alike (setBayWith b (settledBay short p) s) (putBay b (settledBay short p) t) := h.setBayWith b _
  exact ⟨_, alike_handSettlement hset hwait hpump, settlePart_eq ((h.reads (partOf b)).trans hp), rfl⟩

theorem bays_handed (b : BayId) (p : Part) (s : State) : (handed b p s).bays = s.bays := by
  unfold handed
  split <;> rfl
theorem ports_handed (b : BayId) (p : Part) (s : State) : (handed b p s).ports = s.ports := by
  unfold handed
  split <;> rfl
theorem yard_handed (b : BayId) (p : Part) (s : State) : (handed b p s).yard = s.yard := by
  unfold handed
  split <;> rfl
theorem exch_handed (b : BayId) (p : Part) (s : State) : (handed b p s).exch = s.exch := by
  unfold handed
  split <;> rfl
theorem clock_handed (b : BayId) (p : Part) (s : State) : (handed b p s).clock = s.clock := by
  unfold handed
  split <;> rfl
theorem tally_handed (b : BayId) (p : Part) (s : State) : (handed b p s).tally = s.tally := by
  unfold handed
  split <;> rfl

theorem handed_of_none {b : BayId} {p : Part} {s : State} (h : p.grant = none) : handed b p s = s := by
  unfold handed
  rw [h]
  rfl

theorem handed_of_grant {b : BayId} {p : Part} {g : Grant} {s : State} (h : p.grant = some g.number)
    (hg : s.water.grants[b] = some g) : handed b p s = putWater (removedGrant b g p.last) s := by
  unfold handed
  rw [h, Option.bind_some, grantNumbered_eq hg]

/-- A stage that ends a part, complete. -/
def completedStage (short : Bool) (r : StageRun) : StageRun := { r with short := short, complete := true }

/-- A session with its part settled and its stage complete. -/
def settledSession (short : Bool) (p : Part) (r : StageRun) (z : Session) : Session :=
  { settleTotals p z with
    stages := z.stages.set z.current (completedStage short r), completed := z.completed + 1,
    detergent := z.detergent + r.detergent }

theorem completeStage_settleTotals {short : Bool} {p : Part} {r : StageRun} {z : Session}
    (hr : z.stages[z.current]? = some r) (hdone : short = true ∨ r.elapsed = r.stage.duration) :
    completeStage short (settleTotals p z) = settledSession short p r z := by
  have hstage : (settleTotals p z).stage = some r := hr
  have hcond : (short || r.elapsed == r.stage.duration) = true := by
    rw [Bool.or_eq_true, beq_iff_eq]
    exact hdone
  unfold completeStage
  rw [hstage]
  dsimp only
  rw [if_pos hcond]
  rfl

theorem stage_settledSession {short : Bool} {p : Part} {r : StageRun} {z : Session} (hr : z.stages[z.current]? = some r) :
    (settledSession short p r z).stage = some (completedStage short r) := by
  obtain ⟨hlt, -⟩ := List.getElem?_eq_some_iff.1 hr
  exact List.getElem?_set_self hlt

theorem session_settledPart {b : BayId} {short : Bool} {p : Part} {r : StageRun} {z : Session} {s : State}
    (hz : s.bays[b].session = some z) (hr : z.stages[z.current]? = some r)
    (hdone : short = true ∨ r.elapsed = r.stage.duration) :
    (settledPart b short p s).bays[b] = { s.bays[b] with session := some (settledSession short p r z), timer := none } := by
  unfold settledPart
  rw [bays_handed, getElem_putBay_self, settledBay, withSession_some hz, completeStage_settleTotals hr hdone]

/-- The last stage complete, the session ends COMPLETE. -/
theorem afterSettling_last {b : BayId} {z : Session} {r : StageRun} {s : State} (hz : s.bays[b].session = some z)
    (hr : z.stage = some r) (hcomplete : r.complete = true) (hlast : z.current + 1 = z.stages.length) :
    afterSettling b s = endSession b none s := by
  have hdone : stageComplete z = true := by
    unfold stageComplete
    rw [hr]
    exact hcomplete
  unfold afterSettling
  rw [hz]
  dsimp only
  rw [if_pos hdone, if_pos hlast]

/-- A stage complete with no abort pending, the next one starts. -/
theorem afterSettling_next {b : BayId} {z : Session} {r : StageRun} {s : State} (hz : s.bays[b].session = some z)
    (hr : z.stage = some r) (hcomplete : r.complete = true) (hmore : z.current + 1 ≠ z.stages.length)
    (habort : z.abort = none) : afterSettling b s =
      startPart b (setBayWith b (Bay.withSession fun y => { y with current := y.current + 1 }) s) := by
  have hdone : stageComplete z = true := by
    unfold stageComplete
    rw [hr]
    exact hcomplete
  unfold afterSettling
  rw [hz]
  dsimp only
  rw [if_pos hdone, if_neg hmore, habort]
  rfl

end Sys2Proof.Machine

/-! PROOFS. A FINAL METER: the session's end, or its next stage (R100, R104, R105, R107). -/

namespace Sys2Proof.Machine

/-! ### The last stage's part settled -/

section Last

variable {b : BayId} {short : Bool} {p : Part} {r : StageRun} {z : Session} {v : Visit} {s t : State} (h : Alike s t)
  (hz : t.bays[b].session = some z) (hp : z.part = some p) (hr : z.stages[z.current]? = some r)
  (hdone : short = true ∨ r.elapsed = r.stage.duration) (hlast : z.current + 1 = z.stages.length)
  (hv : t.yard.slots[z.slot] = some v) (hqueue : t.yard.queue = []) (hwait : t.water.waitList = [])
  (hpump : t.water.pumpQueue = [])
include h hz hp hr hdone hlast hqueue hwait hpump

theorem settlePart_last : ∃ u, Alike u (settledPart b short p t) ∧ settlePart b short s = endSession b none u ∧
    u = handSettlement b p (setBayWith b (settledBay short p) s) := by
  obtain ⟨u, hu, hsettle, heq⟩ := alike_settlePart (short := short) h (partOf_eq hz hp) hwait hpump
  have hbay : u.bays[b].session = some (settledSession short p r z) := by
    rw [hu.bays, session_settledPart hz hr hdone]
  refine ⟨u, hu, ?_, heq⟩
  rw [hsettle, afterSettling_last hbay (stage_settledSession hr) rfl]
  show z.current + 1 = (z.stages.set z.current _).length
  rw [List.length_set]
  exact hlast

theorem nextCall_settledPart (x : Session) : nextCall (sessionEnded b none x (settledPart b short p t)) = none := by
  refine nextCall_of_queue_nil ?_
  show (settledPart b short p t).yard.queue = []
  rw [settledPart, yard_handed]
  exact hqueue

theorem alike_settlePart_last : Alike (settlePart b short s)
    (sessionEnded b none (settledSession short p r z) (settledPart b short p t)) := by
  obtain ⟨u, hu, hsettle, -⟩ := settlePart_last h hz hp hr hdone hlast hqueue hwait hpump
  rw [hsettle]
  refine alike_endSession hu ?_ (Or.inr (nextCall_settledPart h hz hp hr hdone hlast hqueue hwait hpump _))
  rw [session_settledPart hz hr hdone]

include hv in
theorem ringing_settlePart_last {n k : Nat} {a : State} (hring : Ringing (n + 11) k a s) :
    Ringing n k a (settlePart b short s) := by
  have hended := alike_settlePart_last h hz hp hr hdone hlast hqueue hwait hpump
  obtain ⟨u, hu, hsettle, heq⟩ := settlePart_last (short := short) h hz hp hr hdone hlast hqueue hwait hpump
  have hset : Ringing (n + 10) k a (setBayWith b (settledBay short p) s) := hring.setBayWith b _
  have hu' : Ringing (n + 2) k a u := by
    rw [heq]
    refine ringing_handSettlement ?_ ?_ hset
    · rw [(h.setBayWith b (settledBay short p)).water]
      exact hwait
    · rw [(h.setBayWith b (settledBay short p)).water]
      exact hpump
  have hbay : u.bays[b].session = some (settledSession short p r z) := by
    rw [hu.bays, session_settledPart hz hr hdone]
  have hslot : u.yard.slots[z.slot] = some v := by
    rw [hu.yard, settledPart, yard_handed]
    exact hv
  have hmade : endSession b none u = arbiterIfFree b (setVisit z.slot (some (visitAfter none (settledSession short p r z) v))
      (setBayWith b (bayAfter none) u)) := by
    rw [endSession_eq hbay, show u.yard.slots[(settledSession short p r z).slot] = some v from hslot]
    rfl
  have hplain : Alike (setVisit z.slot (some (visitAfter none (settledSession short p r z) v))
      (setBayWith b (bayAfter none) u)) (sessionEnded b none (settledSession short p r z) (settledPart b short p t)) := by
    have hput := (hu.setBayWith b (bayAfter none)).setVisit z.slot (some (visitAfter none (settledSession short p r z) v))
    have hsame : (settledPart b short p t).yard.slots[(settledSession short p r z).slot] = some v := by
      rw [← hu.yard]
      exact hslot
    unfold sessionEnded
    rw [hsame]
    exact hput
  rw [hsettle, hmade, arbiterIfFree_eq_self (Or.inr ((hplain.reads nextCall).trans
    (nextCall_settledPart h hz hp hr hdone hlast hqueue hwait hpump _)))]
  exact (hu'.setBayWith b _).setVisit _ _

end Last

/-- What a session's summary says after its last stage (R107). -/
theorem summaryOf_settledSession {short : Bool} {p : Part} {r : StageRun} {z : Session}
    (hr : z.stages[z.current]? = some r) : summaryOf (settledSession short p r z) none =
      { completed := z.completed + 1, total := z.stages.length,
        fresh := z.fresh + (if p.source = .fresh then p.last else 0)
        reclaim := z.reclaim + (match p.source with | .tank _ => p.last | .fresh => 0 | .none => 0)
        detergent := z.detergent + ceilDiv (r.stage.rate * r.elapsed) 60
        overrun := z.overrun + (if p.grant.isSome then p.last - p.granted else 0), abort := none } := by
  have hend : endDetergent (settledSession short p r z) = 0 := by
    unfold endDetergent
    rw [stage_settledSession hr]
    rfl
  unfold summaryOf
  rw [hend]
  show ({ completed := z.completed + 1, total := (z.stages.set z.current _).length, .. } : Summary) = _
  rw [List.length_set]
  rfl

theorem bayAfter_none (y : Bay) : (bayAfter none y).session = none ∧ (bayAfter none y).bound = none ∧
    (bayAfter none y).timer = none ∧ (bayAfter none y).state =
      (if y.presence = .on then .clearing else if y.holdAfter then .closed else .free) := by
  unfold bayAfter
  dsimp only
  rw [if_neg (by simp)]
  split
  · exact ⟨rfl, rfl, rfl, rfl⟩
  · rw [freeOrClosed_eq]
    exact ⟨rfl, rfl, rfl, rfl⟩

/-- The state a FINAL METER is settled in: as before the row but for the frame taken and the bay's timer. -/
structure AtFinal (b : BayId) (xs : List QFrame) (s w : State) : Prop where
  stood : Stood b xs s w
  bay : ∃ tm, w.bays[b] = { s.bays[b] with timer := tm }
  yard : w.yard = s.yard
  water : w.water = s.water
  outbound : w.ports[bayPort b].outbound = s.ports[bayPort b].outbound

/-- What the session's end after its last part leaves (R105, R107, R124). -/
structure FinalEnd (b : BayId) (z : Session) (p : Part) (r : StageRun) (v : Visit) (s t : State) : Prop where
  session : t.bays[b].session = none
  bound : t.bays[b].bound = none
  timer : t.bays[b].timer = none
  state : t.bays[b].state =
    (if s.bays[b].presence = .on then .clearing else if s.bays[b].holdAfter then .closed else .free)
  slots : t.yard.slots = s.yard.slots.set z.slot (some { v with
    state := .washed, outcome := some .complete, summary := some {
      completed := z.completed + 1, total := z.stages.length
      fresh := z.fresh + (if p.source = .fresh then p.last else 0)
      reclaim := z.reclaim + (match p.source with | .tank _ => p.last | .fresh => 0 | .none => 0)
      detergent := z.detergent + ceilDiv (r.stage.rate * r.elapsed) 60
      overrun := z.overrun + (if p.grant.isSome then p.last - p.granted else 0), abort := none } })
  outbound : t.ports[bayPort b].outbound = s.ports[bayPort b].outbound
  dry : p.grant = none → t.water = s.water
  granted : ∀ g, s.water.grants[b] = some g → p.grant = some g.number → t.water = removedGrant b g p.last s.water

theorem stood_settledPart {b : BayId} {short : Bool} {p : Part} {xs : List QFrame} {s w : State} (h : Stood b xs s w) :
    Stood b xs s (settledPart b short p w) := by
  refine h.update (ports_handed ..) ?_ (clock_handed ..) ?_ ?_
  · rw [settledPart, exch_handed]
    rfl
  · rw [settledPart, tally_handed]
    rfl
  · unfold pendingCount
    rw [settledPart, tally_handed]
    rfl

section Final

variable {b : BayId} {xs : List QFrame} {short : Bool} {p : Part} {r : StageRun} {z : Session} {v : Visit} {s u w : State}
  (h : AtFinal b xs s w) (ha : Alike u w) (hz : s.bays[b].session = some z) (hp : z.part = some p)
  (hr : z.stages[z.current]? = some r) (hdone : short = true ∨ r.elapsed = r.stage.duration)
  (hlast : z.current + 1 = z.stages.length) (hv : s.yard.slots[z.slot] = some v) (hqueue : s.yard.queue = [])
  (hwait : s.water.waitList = []) (hpump : s.water.pumpQueue = [])
include h ha hz hp hr hdone hlast hv hqueue hwait hpump

theorem settlePart_final : Took (bayPort b) xs s (settlePart b short u) ∧ FinalEnd b z p r v s (settlePart b short u) := by
  obtain ⟨hstood, ⟨tm, hbay⟩, hyard, hwater, hout⟩ := h
  have hz' : w.bays[b].session = some z := by rw [hbay]; exact hz
  have halike := alike_settlePart_last ha hz' hp hr hdone hlast (by rw [hyard]; exact hqueue) (by rw [hwater]; exact hwait)
    (by rw [hwater]; exact hpump)
  have hlastBay : (sessionEnded b none (settledSession short p r z) (settledPart b short p w)).bays[b] =
      bayAfter none { s.bays[b] with session := some (settledSession short p r z), timer := none } := by
    refine (getElem_putBay_self ..).trans ?_
    rw [session_settledPart hz' hr hdone, hbay]
  have hlastSlots : (sessionEnded b none (settledSession short p r z) (settledPart b short p w)).yard.slots =
      s.yard.slots.set z.slot (some (visitAfter none (settledSession short p r z) v)) := by
    show (settledPart b short p w).yard.slots.set z.slot (((settledPart b short p w).yard.slots[z.slot]).map _) = _
    rw [settledPart, yard_handed]
    show w.yard.slots.set z.slot ((w.yard.slots[z.slot]).map _) = _
    rw [hyard, hv]
    rfl
  have hlastWater : (sessionEnded b none (settledSession short p r z) (settledPart b short p w)).water =
      (settledPart b short p w).water := rfl
  have hlastPorts : (sessionEnded b none (settledSession short p r z) (settledPart b short p w)).ports = w.ports :=
    ports_handed ..
  have hended : Stood b xs s (sessionEnded b none (settledSession short p r z) (settledPart b short p w)) :=
    (stood_settledPart hstood).update
  refine ⟨hended.took halike, ?_⟩
  generalize settlePart b short u = t at halike
  generalize sessionEnded b none (settledSession short p r z) (settledPart b short p w) = e at *
  obtain ⟨hsession, hbound, htimer, hstate⟩ := bayAfter_none
    { s.bays[b] with session := some (settledSession short p r z), timer := none }
  rw [← hlastBay, ← halike.bays] at hsession hbound htimer hstate
  refine ⟨hsession, hbound, htimer, hstate, ?_, ?_, fun hnone => ?_, fun g hg hnumber => ?_⟩
  · rw [halike.yard, hlastSlots, visitAfter, summaryOf_settledSession hr]
    rfl
  · rw [halike.ports, hlastPorts]
    exact hout
  · rw [halike.water, hlastWater, settledPart, handed_of_none hnone]
    exact hwater
  · have hg' : (putBay b (settledBay short p) w).water.grants[b] = some g := by
      show w.water.grants[b] = some g
      rw [hwater]
      exact hg
    rw [halike.water, hlastWater, settledPart, handed_of_grant hnumber hg']
    show removedGrant b g p.last w.water = _
    rw [hwater]

theorem ringing_final {n k : Nat} (hring : Ringing (n + 11) k s u) : Ringing n k s (settlePart b short u) := by
  obtain ⟨hstood, ⟨tm, hbay⟩, hyard, hwater, hout⟩ := h
  exact ringing_settlePart_last ha (by rw [hbay]; exact hz) hp hr hdone hlast (by rw [hyard]; exact hv)
    (by rw [hyard]; exact hqueue) (by rw [hwater]; exact hwait) (by rw [hwater]; exact hpump) hring

end Final

/-! ### The row of a FINAL METER -/

/-- STATION_STOPPED (R104). -/
def stoppedNotice (b : BayId) (z : Session) (r : StageRun) : Notice :=
  { kind := .stationStopped, subject := b.val, first := z.current, second := r.elapsed }

/-- The bay with its timer stopped. -/
def timerStopped (b : BayId) (s : State) : State := setBayWith b (fun y => { y with timer := none }) s

theorem finalInRunning_eq {b : BayId} {cap : Bool} {p : Part} {r : StageRun} {z : Session} {s : State}
    (hz : s.bays[b].session = some z) (hp : z.part = some p) (hr : z.stages[z.current]? = some r) :
    finalInRunning b p.last cap s = settlePart b true
      (if cap then timerStopped b s else notify (stoppedNotice b z r) (timerStopped b s)) := by
  have halike : Alike (timerStopped b s) (putBay b (fun y => { y with timer := none }) s) := Alike.refl.setBayWith b _
  have hbay : (timerStopped b s).bays[b].session = some z := by
    rw [halike.bays]
    exact (congrArg Bay.session (getElem_putBay_self ..)).trans hz
  have hstage : z.stage = some r := hr
  unfold finalInRunning
  dsimp only
  rw [show setBayWith b (fun y => { y with timer := none }) s = timerStopped b s from rfl,
    applyMeter_same (partOf_eq hbay hp)]
  unfold stationStopped
  rw [hbay]
  dsimp only
  rw [hstage]
  rfl

section FinalRow

variable {b : BayId} {x : QFrame} {xs : List QFrame} {p : Part} {r : StageRun} {z : Session} {v : Visit} {s : State}
  (hq : quiet s) (hfit : bayFitted b s = true) (hup : s.ports[bayPort b].link = .up)
  (hin : s.ports[bayPort b].inbound = x :: xs) (hkind : x.kind = Kind.meter) (hfinal : field 4 1 x.payload % 2 = 1)
  (hz : s.bays[b].session = some z) (hp : z.part = some p) (hlitres : litresOf (field 0 4 x.payload) b s = p.last)
  (hr : z.stages[z.current]? = some r)
include hq hfit hup hin hkind hfinal hz hp hlitres

theorem litres_taken : shownLitres b x.payload (takeFrame (bayPort b) s) = p.last :=
  ((alike_takeFrame (bayPort b) s).reads (shownLitres b x.payload)).trans hlitres

theorem atFinal_taken : AtFinal b xs s (frameTaken (bayPort b) s) :=
  ⟨stood_taken hq hup hin, ⟨_, rfl⟩, rfl, rfl, outbound_frameTaken⟩

theorem exec_final_settling (hstate : s.bays[b].state = .settling) :
    exec (.meter b) s = .next (conclude s (settlePart b false (takeFrame (bayPort b) s))) := by
  have htaken := alike_takeFrame (bayPort b) s
  have hexec := exec_meter hq hfit hup hin hkind
  rw [meterFrame_settling (by rw [htaken.bays]; exact hstate) hfinal,
    litres_taken hq hfit hup hin hkind hfinal hz hp hlitres,
    applyMeter_same (partOf_eq (by rw [htaken.bays]; exact hz) hp)] at hexec
  exact hexec

include hr in
theorem exec_final_running (hstate : s.bays[b].state = .running) :
    exec (.meter b) s = .next (conclude s (settlePart b true (if field 4 1 x.payload / 2 % 2 == 1
      then timerStopped b (takeFrame (bayPort b) s)
      else notify (stoppedNotice b z r) (timerStopped b (takeFrame (bayPort b) s))))) := by
  have htaken := alike_takeFrame (bayPort b) s
  have hexec := exec_meter hq hfit hup hin hkind
  rw [meterFrame_running (by rw [htaken.bays]; exact hstate), if_pos hfinal,
    litres_taken hq hfit hup hin hkind hfinal hz hp hlitres,
    finalInRunning_eq (by rw [htaken.bays]; exact hz) hp hr] at hexec
  exact hexec

theorem atFinal_timerStopped :
    AtFinal b xs s (putBay b (fun y => { y with timer := none }) (frameTaken (bayPort b) s)) :=
  ⟨(stood_taken hq hup hin).update, ⟨none, getElem_putBay_self ..⟩, rfl, rfl, outbound_frameTaken⟩

end FinalRow

end Sys2Proof.Machine

/-! PROOFS. METER settled (R100, R103, R104, R105). -/

namespace Sys2Proof.Machine

/-! ### The next stage (R100, R105) -/

/-- A settled session at its next stage. -/
def advanced (p : Part) (r : StageRun) (z : Session) : Session :=
  { settledSession false p r z with current := z.current + 1 }

/-- The state with a bay's session at its next stage, its part not begun. -/
def advancedPart (b : BayId) (p : Part) (s : State) : State :=
  putSession b (fun y => { y with current := y.current + 1 }) (putBay b (settledBay false p) s)

section Advanced

variable {b : BayId} {p : Part} {r n : StageRun} {z : Session} {s t : State}

theorem stage_advanced (hn : z.stages[z.current + 1]? = some n) :
    (advanced p r z).stages[(advanced p r z).current]? = some n := by
  show (z.stages.set z.current _)[z.current + 1]? = some n
  rw [List.getElem?_set_ne (by omega)]
  exact hn

theorem bay_advancedPart (hz : s.bays[b].session = some z) (hr : z.stages[z.current]? = some r)
    (hdone : r.elapsed = r.stage.duration) :
    (advancedPart b p s).bays[b] = { s.bays[b] with session := some (advanced p r z), timer := none } := by
  have hsettled : (putBay b (settledBay false p) s).bays[b] =
      { s.bays[b] with session := some (settledSession false p r z), timer := none } := by
    rw [getElem_putBay_self, settledBay, withSession_some hz, completeStage_settleTotals hr (Or.inr hdone)]
  unfold advancedPart putSession
  rw [getElem_putBay_self, hsettled, withSession_some rfl]
  rfl

theorem settlePart_next (h : Alike s t) (hz : t.bays[b].session = some z) (hp : z.part = some p) (hgrant : p.grant = none)
    (habort : z.abort = none) (hr : z.stages[z.current]? = some r) (hdone : r.elapsed = r.stage.duration)
    (hn : z.stages[z.current + 1]? = some n) : ∃ u, Alike u (advancedPart b p t) ∧ settlePart b false s = startPart b u := by
  have hset : Alike (setBayWith b (settledBay false p) s) (putBay b (settledBay false p) t) := h.setBayWith b _
  have hbay : (putBay b (settledBay false p) t).bays[b].session = some (settledSession false p r z) := by
    rw [getElem_putBay_self, settledBay, withSession_some hz, completeStage_settleTotals hr (Or.inr hdone)]
  refine ⟨_, hset.setBayWith b (Bay.withSession fun y => { y with current := y.current + 1 }), ?_⟩
  have hhand : handSettlement b p (setBayWith b (settledBay false p) s) = setBayWith b (settledBay false p) s := by
    unfold handSettlement
    rw [hgrant]
  rw [settlePart_eq ((h.reads (partOf b)).trans (partOf_eq hz hp)), hhand,
    afterSettling_next (by rw [hset.bays]; exact hbay) (stage_settledSession hr) rfl ?_ habort]
  show z.current + 1 ≠ (z.stages.set z.current _).length
  obtain ⟨hlt, -⟩ := List.getElem?_eq_some_iff.1 hn
  rw [List.length_set]
  omega

end Advanced

section Next

variable {b : BayId} {x : QFrame} {xs : List QFrame} {z : Session} {p : Part} {r n : StageRun} {s : State} (hq : quiet s)
  (hfit : bayFitted b s = true) (hup : s.ports[bayPort b].link = .up) (hin : s.ports[bayPort b].inbound = x :: xs)
  (hroom : s.ports[bayPort b].outbound.length < 16) (hkind : x.kind = Kind.meter) (hfinal : field 4 1 x.payload % 2 = 1)
  (hz : s.bays[b].session = some z) (hp : z.part = some p) (hgrant : p.grant = none) (habort : z.abort = none)
  (hlitres : litresOf (field 0 4 x.payload) b s = p.last) (hr : z.stages[z.current]? = some r)
  (hstate : s.bays[b].state = .settling) (hdone : r.elapsed = r.stage.duration) (hn : z.stages[z.current + 1]? = some n)
include hq hfit hup hin hroom hkind hfinal hz hp hgrant habort hlitres hr hstate hdone hn

/-- A FINAL METER after which the next stage starts, or waits for water. -/
theorem meter_next :
    ∃ t, exec (.meter b) s = .next t ∧ t.ports[bayPort b].inbound = xs ∧ t.yard = s.yard ∧
      (∃ y, t.bays[b].session = some y ∧ y.current = z.current + 1 ∧ y.completed = z.completed + 1 ∧
        y.detergent = z.detergent + ceilDiv (r.stage.rate * r.elapsed) 60) ∧
      (n.stage.water = .none → t.bays[b].state = .running ∧ t.bays[b].timer = some n.remaining ∧ t.water = s.water ∧
        t.ports[bayPort b].outbound =
          s.ports[bayPort b].outbound ++ [stageStartFrame n.stage.kind .none 0 0]) ∧
      (n.stage.water ≠ .none →
        (∀ src reserve, answer n.stage.water n.litres true s = some (src, reserve) →
          partStarted b n.stage n.remaining n.litres src reserve s t) ∧
        (answer n.stage.water n.litres true s = none → partWaits b n.stage.water n.litres true s t)) := by
  have hexec := exec_final_settling hq hfit hup hin hkind hfinal hz hp hlitres hstate
  obtain ⟨u, hu, hstart⟩ := settlePart_next (s := takeFrame (bayPort b) s) (alike_takeFrame (bayPort b) s) hz hp hgrant habort
    hr hdone hn
  have hbay := bay_advancedPart (p := p) (s := frameTaken (bayPort b) s) hz hr hdone
  have hz' : (advancedPart b p (frameTaken (bayPort b) s)).bays[b].session = some (advanced p r z) := by rw [hbay]
  have hn' : (advanced p r z).stages[(advanced p r z).current]? = some n := stage_advanced hn
  have hstood : Stood b xs s (advancedPart b p (frameTaken (bayPort b) s)) := (stood_taken hq hup hin).update
  have hout : (advancedPart b p (frameTaken (bayPort b) s)).ports[bayPort b].outbound = s.ports[bayPort b].outbound :=
    outbound_frameTaken
  have hroom' : (advancedPart b p (frameTaken (bayPort b) s)).ports[bayPort b].outbound.length < Config.outboundPlaces :=
    (congrArg List.length hout).trans_lt hroom
  have hyard : (advancedPart b p (frameTaken (bayPort b) s)).yard = s.yard := rfl
  have hwater : (advancedPart b p (frameTaken (bayPort b) s)).water = s.water := rfl
  have hday : s.clock.now.day = (advancedPart b p (frameTaken (bayPort b) s)).clock.now.day := rfl
  have hans : ∀ w l d, answer w l d (advancedPart b p (frameTaken (bayPort b) s)) = answer w l d s :=
    answer_congr rfl rfl (linkUp_putPort (takeInbound_link ..))
  rw [hstart] at hexec
  generalize advancedPart b p (frameTaken (bayPort b) s) = w at hu hbay hz' hstood hout hroom' hyard hwater hday hans
  have hran : ∀ q : Part, (ranBay n q w.bays[b]).session = some { advanced p r z with part := some q } := fun q => by
    rw [ranBay, withSession_some hz']
  have hs := steady_of_calm hq.1
  by_cases hdry : n.stage.water = .none
  · have halike := alike_startPart_dry hu hz' hn' hdry hstood.fallback hstood.up hroom'
    have htook := Stood.took (Stood.sent (Stood.update hstood) _) halike
    rw [htook.concluded hs] at hexec
    have hbay' : (startPart b u).bays[b] = ranBay n dryPart w.bays[b] := by
      rw [halike.bays]
      exact getElem_putBay_self ..
    refine ⟨_, hexec, htook.inbound, halike.yard.trans hyard, ⟨_, by rw [hbay', hran], rfl, rfl, rfl⟩,
      fun _ => ⟨by rw [hbay']; rfl, by rw [hbay']; rfl, halike.water.trans hwater, ?_⟩, fun hwet => absurd hdry hwet⟩
    rw [halike.ports, getElem_putPort_self]
    exact congrArg (· ++ _) hout
  · obtain ⟨hgranted, hrefused⟩ := alike_startPart hu hz' hn' hdry hstood.fallback
    have hmany : decide (0 < (advanced p r z).completed) = true := decide_eq_true (Nat.succ_pos _)
    rw [hmany] at hgranted hrefused
    cases hanswer : answer n.stage.water n.litres true s with
    | none =>
      have halike := hrefused ((hans ..).trans hanswer)
      have htook := Stood.took (Stood.update hstood) halike
      rw [htook.concluded hs] at hexec
      refine ⟨_, hexec, htook.inbound, halike.yard.trans hyard, ⟨advanced p r z, ?_, rfl, rfl, rfl⟩,
        fun h => absurd h hdry, fun _ => ⟨nofun, fun _ => ?_⟩⟩
      · rw [halike.bays]
        exact (congrArg Bay.session (getElem_putBay_self b _ _)).trans hz'
      · exact partWaits_congr hout.symm hwater.symm (by rw [halike.bays]) (by rw [halike.ports]) halike.water
          partWaits_waitingOn
    | some pair =>
      obtain ⟨src, reserve⟩ := pair
      have halike := hgranted src reserve ((hans ..).trans hanswer) hstood.up hroom'
      have htook := Stood.took (Stood.sent (Stood.update hstood) _) halike
      rw [htook.concluded hs] at hexec
      refine ⟨_, hexec, htook.inbound, halike.yard.trans hyard,
        ⟨{ advanced p r z with part := some (partOn (grantMade src n.litres reserve w).number src n.litres) }, ?_,
          rfl, rfl, rfl⟩, fun h => absurd h hdry, fun _ => ⟨fun src' reserve' hsame => ?_, nofun⟩⟩
      · rw [halike.bays]
        exact (congrArg Bay.session (getElem_putBay_self b _ _)).trans (hran _)
      · cases hsame
        exact partStarted_congr hout.symm hwater.symm hday (by rw [halike.bays]) (by rw [halike.ports]) halike.water
          (partStarted_startedOn hz' hdry)

end Next

/-! ### The session's end, with its notice (R104, R107) -/

section End

variable {b : BayId} {x : QFrame} {xs : List QFrame} {z : Session} {p : Part} {r : StageRun} {v : Visit} {s : State}
  (hq : quiet s) (hfit : bayFitted b s = true) (hup : s.ports[bayPort b].link = .up)
  (hin : s.ports[bayPort b].inbound = x :: xs) (hkind : x.kind = Kind.meter) (hfinal : field 4 1 x.payload % 2 = 1)
  (hz : s.bays[b].session = some z) (hp : z.part = some p) (hlitres : litresOf (field 0 4 x.payload) b s = p.last)
  (hr : z.stages[z.current]? = some r) (hlast : z.current + 1 = z.stages.length)
  (hv : s.yard.slots[z.slot] = some v) (hqueue : s.yard.queue = []) (hwait : s.water.waitList = [])
  (hpump : s.water.pumpQueue = [])
include hq hfit hup hin hkind hfinal hz hp hlitres hr hlast hv hqueue hwait hpump

theorem meter_ends_settling (hstate : s.bays[b].state = .settling) (hdone : r.elapsed = r.stage.duration) :
    ∃ t, exec (.meter b) s = .next t ∧ FinalEnd b z p r v s t := by
  have hexec := exec_final_settling hq hfit hup hin hkind hfinal hz hp hlitres hstate
  obtain ⟨htook, hend⟩ := settlePart_final (atFinal_taken hq hfit hup hin hkind hfinal hz hp hlitres)
    (alike_takeFrame (bayPort b) s) hz hp hr (Or.inr hdone) hlast hv hqueue hwait hpump
  rw [htook.concluded (steady_of_calm hq.1)] at hexec
  exact ⟨_, hexec, hend⟩

theorem meter_ends_running (hstate : s.bays[b].state = .running) :
    ∃ t, exec (.meter b) s = .next t ∧ FinalEnd b z p r v s t ∧ (s.path.queue.length ≤ 32 →
      (field 4 1 x.payload / 2 % 2 = 0 → noticeGiven (stoppedNotice b z r) s t) ∧
      (field 4 1 x.payload / 2 % 2 = 1 → t.exch.producer = s.exch.producer)) := by
  have hexec := exec_final_running hq hfit hup hin hkind hfinal hz hp hlitres hr hstate
  have hat := atFinal_timerStopped hq hfit hup hin hkind hfinal hz hp hlitres
  have hstopped : Alike (timerStopped b (takeFrame (bayPort b) s))
      (putBay b (fun y => { y with timer := none }) (frameTaken (bayPort b) s)) :=
    (alike_takeFrame (bayPort b) s).setBayWith b _
  have hring : s.path.queue.length ≤ 32 → Ringing 30 0 s (timerStopped b (takeFrame (bayPort b) s)) := fun hlen =>
    ((Ringing.calm hq.1 hq.2.1 hlen).takeFrame _).setBayWith b _
  generalize timerStopped b (takeFrame (bayPort b) s) = u at hexec hstopped hring
  by_cases hcap : field 4 1 x.payload / 2 % 2 = 1
  · rw [if_pos (by simpa using hcap)] at hexec
    obtain ⟨htook, hend⟩ := settlePart_final hat hstopped hz hp hr (Or.inl rfl) hlast hv hqueue hwait hpump
    rw [htook.concluded (steady_of_calm hq.1)] at hexec
    refine ⟨_, hexec, hend, fun hlen => ⟨fun h0 => absurd h0 (by omega), fun _ => ?_⟩⟩
    have hcount := (ringing_final (n := 19) hat hstopped hz hp hr (Or.inl rfl) hlast hv hqueue hwait hpump (hring hlen)).count
    simpa using hcount
  · rw [if_neg (by simpa using hcap)] at hexec
    obtain ⟨htook, hend⟩ := settlePart_final hat (hstopped.notify (stoppedNotice b z r)) hz hp hr (Or.inl rfl) hlast hv hqueue
      hwait hpump
    rw [htook.concluded (steady_of_calm hq.1)] at hexec
    refine ⟨_, hexec, hend, fun hlen => ⟨fun _ => ?_, fun h1 => absurd h1 hcap⟩⟩
    have hnoted : Ringing 28 1 s (notify (stoppedNotice b z r) u) := (hring hlen).notify _
    have hgiven : noticeNth 0 (stoppedNotice b z r) s.clock.now s (notify (stoppedNotice b z r) u) :=
      (hring hlen : Ringing (28 + 2) 0 s u).noticed _
    exact noticeGiven_of_ringing (noticeNth_of_run hgiven (Run.refl (L := {})).settlePart rfl rfl)
      (ringing_final (n := 17) hat (hstopped.notify (stoppedNotice b z r)) hz hp hr (Or.inl rfl) hlast hv hqueue hwait hpump
        hnoted)

end End

/-- Settles O37. -/
theorem meterByBayState : Obligations.MeterByBayState := by
  refine ⟨fun b x xs s hq hfit hup hin hkind => ⟨fun hrun hset => meter_idle hq hfit hup hin hkind hrun hset,
      fun z p g hstate hnot hz hp hgrant hg hpulses => ?_⟩,
    fun b x xs z p r v s hq hfit hup hin hkind hfinal hz hp hlitres hr hstate hlast hv hqueue hwait hpump => ?_,
    fun b x xs z p r n s hq hfit hup hin hroom hkind hfinal hz hp hgrant habort hlitres hr hstate hdone hn =>
      meter_next hq hfit hup hin hroom hkind hfinal hz hp hgrant habort hlitres hr hstate hdone hn⟩
  · have hl : shownLitres b x.payload s = field 0 4 x.payload * 10 / s.latched.bays[b].pulses := if_neg (by omega)
    exact meter_running hq hfit hup hin hkind hstate hnot hz hp hgrant hg hl
  · intro stopped overrun fresh reclaim _
    have hwater : ∀ {t : State}, FinalEnd b z p r v s t →
        (p.grant = none → t.water = s.water) ∧
        (∀ g k, s.water.grants[b] = some g → p.grant = some g.number → g.source = .tank k →
          t.water = { s.water with
            grants := s.water.grants.set b none
            tanks := s.water.tanks.set k { s.water.tanks[k] with grants := s.water.tanks[k].grants.erase b } }) ∧
        (∀ g, s.water.grants[b] = some g → p.grant = some g.number → g.source = .fresh →
          t.water = { s.water with grants := s.water.grants.set b none,
                                   settled := s.water.settled + min p.last g.granted }) := fun hend => by
      refine ⟨hend.dry, fun g k hg hnumber hsource => ?_, fun g hg hnumber hsource => ?_⟩
      all_goals
        rw [hend.granted g hg hnumber, removedGrant, hsource]
    rcases hstate with ⟨hsettling, hdone⟩ | hrunning
    · obtain ⟨t, hexec, hend⟩ := meter_ends_settling hq hfit hup hin hkind hfinal hz hp hlitres hr hlast hv hqueue hwait hpump
        hsettling hdone
      obtain ⟨hdry, htank, hfresh⟩ := hwater hend
      exact ⟨t, hexec, hend.session, hend.bound, hend.timer, hend.state, hend.slots, hend.outbound, hdry, htank, hfresh,
        fun hrun => absurd (hsettling.symm.trans hrun) (by simp)⟩
    · obtain ⟨t, hexec, hend, hnotice⟩ := meter_ends_running hq hfit hup hin hkind hfinal hz hp hlitres hr hlast hv hqueue hwait
        hpump hrunning
      obtain ⟨hdry, htank, hfresh⟩ := hwater hend
      exact ⟨t, hexec, hend.session, hend.bound, hend.timer, hend.state, hend.slots, hend.outbound, hdry, htank, hfresh,
        fun _ => hnotice⟩

end Sys2Proof.Machine

/-! PROOFS. The Water Unit's rows: a frame taken at the plant port, and the LEVEL row (R125, R126). -/

namespace Sys2Proof.Machine

/-! ### A frame taken at the plant port (R46, R126) -/

theorem tankOf_val (k : TankId) : tankOf k.val = some k := dif_pos k.isLt

/-- A plant row on the frame at the head of the plant port's queue. -/
theorem plantRow_eq {x : QFrame} {xs : List QFrame} {s : State} (hq : quiet s) (hup : s.ports[plantPort].link = .up)
    (hin : s.ports[plantPort].inbound = x :: xs) (act : QFrame → State → State) :
    plantRow x.kind act s = conclude s (act x (takeFrame plantPort s)) := by
  obtain ⟨-, hpart, -⟩ := hq
  have hhead : headFrame plantPort s = some x := by
    unfold headFrame linkUp working
    rw [hpart, hup, hin]
    rfl
  unfold plantRow
  rw [hhead, Option.filter_some_pos (by simp)]

theorem tankFitted_takeFrame (p : PortId) (k : TankId) (s : State) : tankFitted k (takeFrame p s) = tankFitted k s :=
  (alike_takeFrame p s).reads (tankFitted k)

theorem onTank_fitted {kind : Byte} {act : TankId → QFrame → State → State} {x : QFrame} {k : TankId} {s : State}
    (hk : k.val = field 0 1 x.payload) (hfit : tankFitted k s = true) : onTank kind act x s = act k x s := by
  have htank : frameTank x.payload s = some k := by
    unfold frameTank
    rw [← hk, tankOf_val]
    exact Option.filter_some_pos hfit
  unfold onTank
  rw [htank]

theorem onTank_unfitted {kind : Byte} {act : TankId → QFrame → State → State} {x : QFrame} {s : State}
    (hfit : ∀ k : TankId, k.val = field 0 1 x.payload → tankFitted k s = false) :
    onTank kind act x s = plantInvalid 1 kind (field 0 1 x.payload) s := by
  have htank : frameTank x.payload s = none := by
    unfold frameTank
    rw [Option.filter_eq_none_iff]
    intro k hk
    unfold tankOf at hk
    split at hk
    · obtain rfl := Option.some.inj hk
      rw [hfit _ rfl]
      exact Bool.false_ne_true
    · cases hk
  unfold onTank
  rw [htank]

/-! ### What a row of the water leaves of the Tally Unit (R168) -/

theorem loose_tally (w : TallyUnit) : Loose fun t => t.tally = w where
  besides := fun hb h => (congrArg State.tally hb :).trans h
  port := fun _ => id
  bay := id
  yard := fun _ => id
  water := fun _ => id
  free := id

/-- A property of the tanks' levels holds to the end of an event that leaves the Tally Unit alone. -/
theorem Loose.concluded {I : State → Prop} {s t : State} (L : Loose I)
    (hgate : ∀ {t : State} {g : GateUnit}, I t → I { t with gate := g }) (hs : steady s) (htally : t.tally = s.tally)
    (hpart : t.exch.part = .running) (h : I t) : I (conclude s t) := by
  rw [conclude_eq_settleLost hs htally hpart]
  exact L.settleLost hgate _ h

/-! ### LEVEL (R125, R126) -/

theorem loose_levels (k : TankId) (l : Nat × Nat × Nat) : Loose fun t => tankLevels t.water k = l where
  besides := fun hb h => (congrArg (fun t => tankLevels t.water k) hb :).trans h
  port := fun _ => id
  bay := id
  yard := fun _ => id
  water := fun hw h => (congrFun hw k).trans h
  free := id

/-- What a LEVEL frame shows, before the shortfall is met and the wait list retried. -/
def levelTaken (k : TankId) (x : QFrame) (s : State) : State :=
  let s1 := setLevel k (field 1 4 x.payload) s
  if s.water.tanks[k].capacity < field 1 4 x.payload then plantInvalid 3 Kind.level k.val s1 else s1

theorem levelFrame_eq (k : TankId) (x : QFrame) (s : State) :
    levelFrame k x s = retry (meetShortfall k (levelTaken k x s)) := rfl

/-- A tank at a level reported. -/
def levelled (l : Nat) (t : Tank) : Tank := { t with reported := min l t.capacity, book := min l t.capacity }

theorem getElem_putTank_self (k : TankId) (f : Tank → Tank) (s : State) :
    (putTank k f s).water.tanks[k] = f s.water.tanks[k] := by
  unfold putTank
  simp

theorem alike_levelTaken {k : TankId} {x : QFrame} {s t : State} (h : Alike s t) :
    Alike (levelTaken k x s) (putTank k (levelled (field 1 4 x.payload)) t) := by
  have hset : Alike (setLevel k (field 1 4 x.payload) s) (putTank k (levelled (field 1 4 x.payload)) t) :=
    h.setTankWith k _
  unfold levelTaken
  dsimp only
  split
  · exact hset.notify _
  · exact hset

/-- With no shortfall and nobody waiting, a level taken is all. -/
theorem levelFrame_exact {k : TankId} {x : QFrame} {s : State} (hwait : s.water.waitList = [])
    (howed : owed k s ≤ min (field 1 4 x.payload) s.water.tanks[k].capacity) :
    levelFrame k x s = levelTaken k x s := by
  have halike := alike_levelTaken (k := k) (x := x) (Alike.refl (s := s))
  have hmet : meetShortfall k (levelTaken k x s) = levelTaken k x s := by
    unfold meetShortfall
    refine if_neg ?_
    rw [halike.reads (fun t => t.water.tanks[k].book), halike.reads (owed k), getElem_putTank_self, not_lt]
    exact howed
  rw [levelFrame_eq, hmet]
  exact retry_of_nil ((halike.reads fun t => t.water.waitList).trans hwait)

section Level

variable {x : QFrame} {xs : List QFrame} {s : State} (hq : quiet s) (hup : s.ports[plantPort].link = .up)
  (hin : s.ports[plantPort].inbound = x :: xs) (hkind : x.kind = Kind.level)
include hq hup hin hkind

theorem exec_level : exec .level s =
    .next (conclude s (onTank Kind.level levelFrame x (takeFrame plantPort s))) := by
  show Host.Outcome.next (plantRow Kind.level (onTank Kind.level levelFrame) s) = _
  rw [← hkind, plantRow_eq hq hup hin]

variable {k : TankId} (hk : k.val = field 0 1 x.payload) (hfit : tankFitted k s = true)
include hk hfit

theorem exec_level_fitted : exec .level s = .next (conclude s (levelFrame k x (takeFrame plantPort s))) := by
  rw [exec_level hq hup hin hkind, onTank_fitted hk ((tankFitted_takeFrame ..).trans hfit)]

theorem level_sets : ∃ t, exec .level s = .next t ∧
    t.water.tanks[k].reported = min (field 1 4 x.payload) s.water.tanks[k].capacity ∧
    t.water.tanks[k].book = min (field 1 4 x.payload) s.water.tanks[k].capacity := by
  have halike := alike_levelTaken (k := k) (x := x) (alike_takeFrame plantPort s)
  have hlevels : tankLevels (levelTaken k x (takeFrame plantPort s)).water k =
      (s.water.tanks[k].capacity, min (field 1 4 x.payload) s.water.tanks[k].capacity,
        min (field 1 4 x.payload) s.water.tanks[k].capacity) := by
    unfold tankLevels
    rw [halike.water, getElem_putTank_self]
    rfl
  have hl := loose_levels k (s.water.tanks[k].capacity, min (field 1 4 x.payload) s.water.tanks[k].capacity,
        min (field 1 4 x.payload) s.water.tanks[k].capacity)
  have ht := loose_tally s.tally
  have hframed : ∀ {I : State → Prop}, Loose I → I (levelTaken k x (takeFrame plantPort s)) →
      I (levelFrame k x (takeFrame plantPort s)) := fun L h => L.frame.retry (L.frame.meetShortfall k h)
  have hend := hl.concluded id (steady_of_calm hq.1) (hframed ht halike.tally)
    ((part_of_kept (by simp)).trans hq.2.1) (hframed hl hlevels)
  refine ⟨_, exec_level_fitted hq hup hin hkind hk hfit, ?_⟩
  generalize conclude s (levelFrame k x (takeFrame plantPort s)) = t at hend ⊢
  exact ⟨(congrArg (fun l => l.2.1) hend :), (congrArg (fun l => l.2.2) hend :)⟩

theorem level_exact (howed : owed k s ≤ min (field 1 4 x.payload) s.water.tanks[k].capacity)
    (hwait : s.water.waitList = []) :
    ∃ t, exec .level s = .next t ∧ t.ports[plantPort].inbound = xs ∧ t.bays = s.bays ∧
      t.water = { s.water with tanks := s.water.tanks.set k { s.water.tanks[k] with
        reported := min (field 1 4 x.payload) s.water.tanks[k].capacity
        book := min (field 1 4 x.payload) s.water.tanks[k].capacity } } := by
  have htaken := alike_takeFrame plantPort s
  have halike := alike_levelTaken (k := k) (x := x) htaken
  have htook : Took plantPort xs s (levelTaken k x (takeFrame plantPort s)) := took_frameTaken hq.2.1 hin halike
  have hwater : (takeFrame plantPort s).water = s.water := htaken.water
  have hexact : levelFrame k x (takeFrame plantPort s) = levelTaken k x (takeFrame plantPort s) := by
    refine levelFrame_exact (by rw [hwater]; exact hwait) ?_
    rw [hwater, htaken.reads (owed k)]
    exact howed
  refine ⟨_, exec_level_fitted hq hup hin hkind hk hfit, ?_⟩
  rw [hexact, htook.concluded (steady_of_calm hq.1)]
  exact ⟨htook.inbound, halike.bays, halike.water⟩

end Level

/-- A frame for a tank that is not fitted is noted. -/
theorem took_plantInvalid {x : QFrame} {xs : List QFrame} {s : State} (hq : quiet s)
    (hin : s.ports[plantPort].inbound = x :: xs) (r : Nat) (kind : Byte) (n : Nat) :
    Alike (plantInvalid r kind n (takeFrame plantPort s)) (frameTaken plantPort s) ∧
      Took plantPort xs s (plantInvalid r kind n (takeFrame plantPort s)) := by
  have halike : Alike (plantInvalid r kind n (takeFrame plantPort s)) (frameTaken plantPort s) :=
    (alike_takeFrame plantPort s).notify _
  exact ⟨halike, took_frameTaken hq.2.1 hin halike⟩

/-- Settles O40. -/
theorem levelSetsTheTank : Obligations.LevelSetsTheTank := by
  intro x xs s hq hup hin hkind
  refine ⟨fun k hk hfit => ⟨level_sets hq hup hin hkind hk hfit, level_exact hq hup hin hkind hk hfit⟩, fun hunfit => ?_⟩
  obtain ⟨halike, htook⟩ := took_plantInvalid hq hin 1 Kind.level (field 0 1 x.payload)
  refine ⟨_, exec_level hq hup hin hkind, ?_⟩
  rw [onTank_unfitted fun k hk => (tankFitted_takeFrame ..).trans (hunfit k hk), htook.concluded (steady_of_calm hq.1)]
  exact ⟨htook.inbound, halike.water, halike.bays, halike.yard⟩

end Sys2Proof.Machine

/-! PROOFS. The SAMPLE row, and what the retry leaves of a tank's quality and of its pump request (R127, R128). -/

namespace Sys2Proof.Machine

/-! ### What the retry and the look at the pump queue leave of the plant (R123, R132) -/

/-- The water with a request sent as a run. -/
def pumpSent (r : PumpReq) (timeout : Nat) (w : WaterUnit) : WaterUnit :=
  { w with
    tanks := w.tanks.set r.tank { w.tanks[r.tank] with pumpPending := false, pumpRunning := true }
    pumpQueue := w.pumpQueue.erase r
    run := some r
    pumpTimer := some (timeout * 60) }

/-- The state with a request's run in flight, its frame not yet offered. -/
def runStarted (r : PumpReq) (s : State) : State := putWater (pumpSent r s.latched.pumpTimeout) s

theorem sendPump_offer (r : PumpReq) (s : State) :
    ∃ t, Alike t (runStarted r s) ∧ sendPump r s = offer plantPort (pumpRunFrame r.tank r.kind) t := by
  have htank : Alike (setTankWith r.tank (fun t => { t with pumpPending := false, pumpRunning := true }) s)
      (putTank r.tank (fun t => { t with pumpPending := false, pumpRunning := true }) s) :=
    Alike.refl.setTankWith _ _
  refine ⟨_, ?_, rfl⟩
  have hwater := htank.setWater fun w => { w with
    pumpQueue := w.pumpQueue.erase r, run := some r, pumpTimer := some (s.latched.pumpTimeout * 60) }
  have htimeout : (setTankWith r.tank (fun t => { t with pumpPending := false, pumpRunning := true }) s).latched.pumpTimeout =
      s.latched.pumpTimeout := congrArg Latched.pumpTimeout htank.latched
  rw [htimeout]
  exact hwater

theorem water_sendPump (r : PumpReq) (s : State) : (sendPump r s).water = pumpSent r s.latched.pumpTimeout s.water := by
  obtain ⟨t, ha, hsend⟩ := sendPump_offer r s
  have hoffer := water_of_besidesPorts (besidesPorts_offer plantPort (pumpRunFrame r.tank r.kind) t)
  rw [hsend, hoffer, ha.water]
  rfl

theorem getElem_pumpSent (r : PumpReq) (n : Nat) (w : WaterUnit) (k : TankId) :
    (pumpSent r n w).tanks[k] = if r.tank = k then { w.tanks[k] with pumpPending := false, pumpRunning := true }
      else w.tanks[k] := by
  unfold pumpSent
  by_cases htank : r.tank = k
  · subst htank
    simp
  · rw [if_neg htank]
    exact Vector.getElem_set_ne r.tank.isLt k.isLt (Fin.val_ne_of_ne htank)

theorem Frame.and {I J : State → Prop} (F : Frame I) (G : Frame J) : Frame fun s => I s ∧ J s where
  besides := fun hb h => ⟨F.besides hb h.1, G.besides hb h.2⟩
  port := fun h => ⟨F.port h.1, G.port h.2⟩
  bay := fun hx h => ⟨F.bay hx h.1, G.bay hx h.2⟩
  yard := fun hy h => ⟨F.yard hy h.1, G.yard hy h.2⟩
  water := fun hw h => ⟨F.water hw h.1, G.water hw h.2⟩
  send := fun hn hl h => ⟨F.send hn hl h.1, G.send hn hl h.2⟩

/-- A property of the Water Unit's view that a run sent keeps is kept throughout. -/
theorem frame_of_plantView {P : WaterUnit → Prop} (hview : ∀ v w : WaterUnit, plantView v = plantView w → P w → P v)
    (hsend : ∀ (w : WaterUnit) (r : PumpReq) (n : Nat), P w → P (pumpSent r n w)) : Frame fun s => P s.water where
  besides := fun hb h => by rwa [water_of_besides hb]
  port := id
  bay := fun _ => id
  yard := fun _ => id
  water := fun hw h => hview _ _ hw h
  send := fun {s r} _ _ h => by
    rw [water_sendPump]
    exact hsend _ _ _ h

/-- A tank's quality and its threshold, and the state of the probe. -/
def qualityOf (k : TankId) (w : WaterUnit) : Quality × Bool × Bool :=
  (w.tanks[k].quality, w.tanks[k].circulationDue, w.probeExpired)

theorem frame_qualityOf (k : TankId) (q : Quality × Bool × Bool) : Frame fun s => qualityOf k s.water = q :=
  frame_of_plantView (P := fun w => qualityOf k w = q)
    (fun v w hview h => by
      have htank := tank_of_plantView hview k
      have hquality : v.tanks[k].quality = w.tanks[k].quality := (congrArg Tank.quality htank :)
      have hdue : v.tanks[k].circulationDue = w.tanks[k].circulationDue := (congrArg Tank.circulationDue htank :)
      have hprobe : v.probeExpired = w.probeExpired := (congrArg (fun p => p.1.probeExpired) hview :)
      rw [← h]
      unfold qualityOf
      rw [hquality, hdue, hprobe])
    (fun w r n h => by
      rw [← h]
      unfold qualityOf
      rw [getElem_pumpSent]
      split <;> rfl)

/-- A tank's request for a run stands: queued, or sent. -/
def requested (k : TankId) (w : WaterUnit) : Prop := w.tanks[k].pumpPending = true ∨ w.tanks[k].pumpRunning = true

theorem frame_requested (k : TankId) : Frame fun s => requested k s.water :=
  frame_of_plantView (P := requested k)
    (fun v w hview h => by
      have htank := tank_of_plantView hview k
      have hpending : v.tanks[k].pumpPending = w.tanks[k].pumpPending := (congrArg Tank.pumpPending htank :)
      have hrunning : v.tanks[k].pumpRunning = w.tanks[k].pumpRunning := (congrArg Tank.pumpRunning htank :)
      unfold requested
      rw [hpending, hrunning]
      exact h)
    (fun w r n h => by
      unfold requested
      rw [getElem_pumpSent]
      split
      · exact Or.inr rfl
      · exact h)

/-- The plant port is UP and takes the next run. -/
def plantReady (s : State) : Prop :=
  s.ports[plantPort].link = .up ∧ (s.water.run = none → s.ports[plantPort].outbound.length < Config.outboundPlaces)

theorem frame_plantReady : Frame plantReady where
  besides := fun hb h => by
    unfold plantReady
    rw [ports_of_besides hb, water_of_besides hb]
    exact h
  port := fun {s b x} h => by
    have hother : (s.ports.set (bayPort b) x)[plantPort] = s.ports[plantPort] :=
      Vector.getElem_set_ne _ _ (Fin.val_ne_of_ne (bayPort_ne_plantPort b))
    unfold plantReady
    dsimp only
    rw [hother]
    exact h
  bay := fun _ => id
  yard := fun _ => id
  water := fun {s w} hw h => by
    unfold plantReady
    dsimp only
    rw [run_of_plantView hw]
    exact h
  send := fun {s r} hrun _ h => by
    obtain ⟨hup, hroom⟩ := h
    obtain ⟨t, ha, hsend⟩ := sendPump_offer r s
    have hoffered := ha.offer (pumpRunFrame r.tank r.kind) hup (hroom hrun)
    rw [← hsend] at hoffered
    refine ⟨?_, fun hnone => ?_⟩
    · rw [hoffered.ports, getElem_putPort_self]
      exact hup
    · rw [hoffered.water] at hnone
      cases hnone

/-- A row of the water that keeps the plant port UP ends with what the retry and the look leave. -/
theorem Frame.concluded {I : State → Prop} {s t : State} (F : Frame I)
    (hgate : ∀ {t : State} {g : GateUnit}, I t → I { t with gate := g }) (hready : plantReady t) (hs : steady s)
    (htally : t.tally = s.tally) (hpart : t.exch.part = .running) (h : I t) : I (conclude s t) := by
  have hboth := frame_plantReady.and F
  rw [conclude_eq_settleLost hs htally hpart]
  refine (hboth.settleLost (hboth.borne_of_gate (fun h => ⟨h.1, hgate h.2⟩) fun hdown h => ?_) _ ⟨hready, h⟩).2
  unfold linkUp at hdown
  rw [h.1.1] at hdown
  cases hdown

theorem plantReady_frameTaken {s : State} (hup : s.ports[plantPort].link = .up)
    (hroom : s.ports[plantPort].outbound.length < 16) : plantReady (frameTaken plantPort s) :=
  ⟨link_frameTaken.trans hup, fun _ => by rw [outbound_frameTaken]; exact hroom⟩

/-! ### A request joins the pump queue (R132) -/

/-- The state with a tank's request at its place in the pump queue. -/
def joined (k : TankId) (kind : PumpKind) (s : State) : State :=
  putWater (fun w => { w with pumpQueue := pumpInsert { tank := k, kind := kind, joined := s.clock.now } w.pumpQueue })
    (putTank k (fun t => { t with pumpPending := true }) s)

theorem Alike.joinPump {s t : State} (h : Alike s t) (k : TankId) (kind : PumpKind) :
    Alike (joinPump k kind s) (joined k kind t) := by
  have htank := h.setTankWith k fun t => { t with pumpPending := true }
  have hwater := htank.setWater fun w =>
    { w with pumpQueue := pumpInsert { tank := k, kind := kind, joined := t.clock.now } w.pumpQueue }
  have hclock : (Machine.setTankWith k (fun t => { t with pumpPending := true }) s).clock = t.clock := htank.clock
  unfold Machine.joinPump
  dsimp only
  rw [hclock]
  exact hwater

theorem getElem_joined_self (k : TankId) (kind : PumpKind) (s : State) :
    (joined k kind s).water.tanks[k] = { s.water.tanks[k] with pumpPending := true } :=
  getElem_putTank_self k (fun t => { t with pumpPending := true }) s

/-! ### A sample discarded, or expired (R127) -/

section Sample

variable {k : TankId} {x : QFrame} {xs : List QFrame} {s : State}

/-- The tolerance of a sample frame. -/
def sampleTolerance (x : QFrame) (s : State) : Nat := tolerance (signed 8 (field 3 1 x.payload)) s

theorem probeExpiredFor_iff {n : Nat} : probeExpiredFor n s = true ↔ s.water.calibrated = false ∨ s.latched.tolCeiling < n := by
  simp [probeExpiredFor]

theorem sampleFrame_idle {t : State} (ha : Alike t (frameTaken plantPort s)) (hpending : s.water.tanks[k].pumpPending = false)
    (hrunning : s.water.tanks[k].pumpRunning = false) :
    sampleFrame k x t = if probeExpiredFor (sampleTolerance x s) s then expiredSample k (sampleTolerance x s) t
      else judgedSample k (field 1 2 x.payload) (sampleTolerance x s) t := by
  have hwater : t.water = s.water := ha.water
  have htol : tolerance (signed 8 (field 3 1 x.payload)) t = sampleTolerance x s :=
    ha.reads (tolerance (signed 8 (field 3 1 x.payload)))
  have hexpired : probeExpiredFor (sampleTolerance x s) t = probeExpiredFor (sampleTolerance x s) s :=
    ha.reads (probeExpiredFor (sampleTolerance x s))
  unfold sampleFrame
  dsimp only
  rw [htol, hexpired, hwater, hpending, hrunning]
  rfl

/-- A tank whose quality is open, the probe expired. -/
def probeFound (k : TankId) (s : State) : State :=
  putWater (fun w => { w with probeExpired := true }) (putTank k (fun t => { t with quality := .uncertain }) s)

theorem quality_probeFound (k : TankId) (s : State) : (probeFound k s).water.tanks[k].quality = .uncertain :=
  congrArg Tank.quality (getElem_putTank_self k (fun t => { t with quality := .uncertain }) s)

theorem alike_expiredSample {n : Nat} {s t : State} (h : Alike s t) : Alike (expiredSample k n s) (probeFound k t) := by
  have htank := h.setTankWith k fun t => { t with quality := .uncertain }
  unfold expiredSample
  dsimp only
  split
  · next hset =>
    rw [htank.water] at hset
    have hsame : probeFound k t = putTank k (fun t => { t with quality := .uncertain }) t := by
      unfold probeFound putWater
      rw [← hset]
    rw [hsame]
    exact htank
  · exact (htank.setWater fun w => { w with probeExpired := true }).notify _

/-! ### A sample judged (R127, R128) -/

/-- A tank's quality judged, the probe not expired. -/
def judged (k : TankId) (q : Quality) (s : State) : State :=
  putTank k (fun t => { t with quality := q }) (putWater (fun w => { w with probeExpired := false }) s)

theorem alike_judged {q : Quality} {m n : Nat} {old : Quality} {s t : State} (h : Alike s t) :
    Alike (noteQuality k old q m n (setTankWith k (fun t => { t with quality := q })
      (setWater { s.water with probeExpired := false } s))) (judged k q t) := by
  have hset := (h.setWater fun w => { w with probeExpired := false }).setTankWith k fun t => { t with quality := q }
  unfold noteQuality
  split
  · exact hset
  · exact hset.notify _

theorem judgedSample_eq (k : TankId) (m n : Nat) (s : State) : judgedSample k m n s =
    qualityEffect k (judgedQuality m n s) (issuable k s) (noteQuality k s.water.tanks[k].quality (judgedQuality m n s) m n
      (setTankWith k (fun t => { t with quality := judgedQuality m n s })
        (setWater { s.water with probeExpired := false } s))) := rfl

theorem qualityOf_judged (k : TankId) (q : Quality) (s : State) :
    qualityOf k (judged k q s).water = (q, s.water.tanks[k].circulationDue, false) := by
  unfold qualityOf judged
  rw [getElem_putTank_self]
  rfl

theorem Frame.qualityEffect {I : State → Prop} (F : Frame I) {q : Quality} {b : Bool} {t : State}
    (hjoin : ∀ {u : State}, I u → I (joinPump k .treat u)) (h : I t) : I (qualityEffect k q b t) := by
  unfold Machine.qualityEffect
  split
  · split
    · exact F.retry h
    · exact h
  · exact h
  · exact F.pumpLook (hjoin (F.revokeAll k h))

theorem kept_qualityEffect (k : TankId) (q : Quality) (b : Bool) (t : State) : kept (qualityEffect k q b t) = kept t := by
  unfold qualityEffect
  split
  · split
    · exact kept_retry t
    · rfl
  · rfl
  · simp

theorem requested_qualityEffect {b : Bool} {t : State} : requested k (qualityEffect k .failed b t).water := by
  have hjoined : requested k (joinPump k .treat (revokeAll k t)).water := by
    refine Or.inl ?_
    rw [(Alike.refl.joinPump k .treat).water, getElem_joined_self]
  exact (frame_requested k).pumpLook hjoined

theorem joinPump_keeps_quality {c : Quality × Bool × Bool} {u : State} (h : plantReady u ∧ qualityOf k u.water = c) :
    plantReady (joinPump k .treat u) ∧ qualityOf k (joinPump k .treat u).water = c := by
  have ha := (Alike.refl (s := u)).joinPump k .treat
  obtain ⟨hready, hquality⟩ := h
  refine ⟨?_, ?_⟩
  · unfold plantReady
    rw [ha.ports, ha.water]
    exact hready
  · rw [← hquality, ha.water]
    unfold qualityOf
    rw [getElem_joined_self]
    rfl

section Row

variable (hq : quiet s) (hup : s.ports[plantPort].link = .up) (hin : s.ports[plantPort].inbound = x :: xs)
  (hkind : x.kind = Kind.sample) (hk : k.val = field 0 1 x.payload) (hfit : tankFitted k s = true)
include hq hup hin hkind hk hfit

theorem exec_sample : exec .sample s = .next (conclude s (sampleFrame k x (takeFrame plantPort s))) := by
  show Host.Outcome.next (plantRow Kind.sample (onTank Kind.sample sampleFrame) s) = _
  rw [← hkind, plantRow_eq hq hup hin, onTank_fitted hk ((tankFitted_takeFrame ..).trans hfit)]

theorem sample_discarded (hrequested : s.water.tanks[k].pumpPending = true ∨ s.water.tanks[k].pumpRunning = true) :
    ∃ t, exec .sample s = .next t ∧ t.water = s.water ∧ t.ports[plantPort].inbound = xs := by
  have halike := alike_takeFrame plantPort s
  have htook : Took plantPort xs s (takeFrame plantPort s) := took_frameTaken hq.2.1 hin halike
  have hwater : (takeFrame plantPort s).water = s.water := halike.water
  have hsame : sampleFrame k x (takeFrame plantPort s) = takeFrame plantPort s := by
    unfold sampleFrame
    rw [if_pos (by rw [hwater]; simpa using hrequested)]
  refine ⟨_, exec_sample hq hup hin hkind hk hfit, ?_⟩
  rw [hsame, htook.concluded (steady_of_calm hq.1)]
  exact ⟨hwater, htook.inbound⟩

theorem sample_expired (hpending : s.water.tanks[k].pumpPending = false) (hrunning : s.water.tanks[k].pumpRunning = false)
    (hexpired : s.water.calibrated = false ∨ s.latched.tolCeiling < sampleTolerance x s) :
    ∃ t, exec .sample s = .next t ∧ t.water.tanks[k].quality = .uncertain ∧ t.water.probeExpired = true := by
  have halike := alike_expiredSample (k := k) (n := sampleTolerance x s) (alike_takeFrame plantPort s)
  have htook : Took plantPort xs s (expiredSample k (sampleTolerance x s) (takeFrame plantPort s)) :=
    took_frameTaken hq.2.1 hin halike
  refine ⟨_, exec_sample hq hup hin hkind hk hfit, ?_⟩
  rw [sampleFrame_idle (alike_takeFrame plantPort s) hpending hrunning, if_pos (probeExpiredFor_iff.2 hexpired),
    htook.concluded (steady_of_calm hq.1), halike.water]
  exact ⟨quality_probeFound .., rfl⟩

theorem sample_judged (hpending : s.water.tanks[k].pumpPending = false) (hrunning : s.water.tanks[k].pumpRunning = false)
    (hroom : s.ports[plantPort].outbound.length < 16) (hfresh : probeExpiredFor (sampleTolerance x s) s = false)
    {q : Quality} (hquality : judgedQuality (field 1 2 x.payload) (sampleTolerance x s) s = q) :
    ∃ t, exec .sample s = .next t ∧ t.water.probeExpired = false ∧ t.water.tanks[k].quality = q ∧
      (q = .failed → requested k t.water) := by
  have htaken := alike_takeFrame plantPort s
  have hframe : sampleFrame k x (takeFrame plantPort s) =
      judgedSample k (field 1 2 x.payload) (sampleTolerance x s) (takeFrame plantPort s) := by
    rw [sampleFrame_idle htaken hpending hrunning, hfresh]
    rfl
  have hq' : judgedQuality (field 1 2 x.payload) (sampleTolerance x s) (takeFrame plantPort s) = q :=
    (htaken.reads (judgedQuality (field 1 2 x.payload) (sampleTolerance x s))).trans hquality
  rw [judgedSample_eq, hq'] at hframe
  refine ⟨_, (exec_sample hq hup hin hkind hk hfit).trans (by rw [hframe]), ?_⟩
  have hjudged := alike_judged (k := k) (q := q) (m := field 1 2 x.payload) (n := sampleTolerance x s)
    (old := (takeFrame plantPort s).water.tanks[k].quality) htaken
  generalize noteQuality k _ q _ _ _ = v at hjudged ⊢
  generalize issuable k (takeFrame plantPort s) = b
  have hv : plantReady v ∧ qualityOf k v.water = (q, s.water.tanks[k].circulationDue, false) := by
    refine ⟨?_, ?_⟩
    · unfold plantReady
      rw [hjudged.ports, hjudged.water]
      exact plantReady_frameTaken hup hroom
    · rw [hjudged.water, qualityOf_judged]
      rfl
  have htally : (qualityEffect k q b v).tally = s.tally :=
    (loose_tally s.tally).frame.qualityEffect ((loose_tally s.tally).joinPump k .treat) hjudged.tally
  have hpart : (qualityEffect k q b v).exch.part = .running :=
    (part_of_kept (kept_qualityEffect ..)).trans (hjudged.part.trans hq.2.1)
  obtain ⟨hready, hkept⟩ := (frame_plantReady.and (frame_qualityOf k _)).qualityEffect (q := q) (b := b)
    joinPump_keeps_quality hv
  have hend := (frame_qualityOf k _).concluded id hready (steady_of_calm hq.1) htally hpart hkept
  have hrequest : q = .failed → requested k (conclude s (qualityEffect k q b v)).water := fun hfailed => by
    subst hfailed
    exact (frame_requested k).concluded id hready (steady_of_calm hq.1) htally hpart requested_qualityEffect
  generalize conclude s (qualityEffect k q b v) = t at hend hrequest ⊢
  exact ⟨(congrArg (fun c => c.2.2) hend :), (congrArg (fun c => c.1) hend :), hrequest⟩

end Row

end Sample

/-- Settles O41. -/
theorem sampleSetsTheQuality : Obligations.SampleSetsTheQuality := by
  intro k x xs s hq hup hin hroom hkind hk hfit m tol q
  refine ⟨sample_discarded hq hup hin hkind hk hfit, fun hpending hrunning => ⟨fun hexpired => ?_, fun hcal hfew => ?_⟩⟩
  · exact sample_expired hq hup hin hkind hk hfit hpending hrunning hexpired
  · have hfresh : probeExpiredFor (sampleTolerance x s) s = false := by
      rw [Bool.eq_false_iff, ne_eq, probeExpiredFor_iff, hcal, not_or, not_lt]
      exact ⟨nofun, hfew⟩
    exact sample_judged hq hup hin hkind hk hfit hpending hrunning hroom hfresh rfl

end Sys2Proof.Machine

/-! PROOFS. PUMP_DONE: a run completed, failed, or a frame that answers no run (R133). -/

namespace Sys2Proof.Machine

/-! ### The run a PUMP_DONE answers (R126, R133) -/

theorem pumpKindOf_eq_some {n : Nat} {kind : PumpKind} : pumpKindOf n = some kind ↔ n = kind.code := by
  unfold pumpKindOf
  split
  · cases kind <;> decide
  · cases kind <;> decide
  · next h1 h2 => cases kind <;> simpa only [reduceCtorEq, false_iff, PumpKind.code] using by assumption

theorem pumpDoneFrame_run {r : PumpReq} {x : QFrame} {s : State} (hkind : field 1 1 x.payload = r.kind.code)
    (hrun : s.water.run = some r) (hover : x.overtaken = false) :
    (field 2 1 x.payload = 1 → pumpDoneFrame r.tank x s = finishRun r s) ∧
    (field 2 1 x.payload = 2 → pumpDoneFrame r.tank x s = failRun 1 s) := by
  have hcode : pumpKindOf r.kind.code = some r.kind := pumpKindOf_eq_some.2 rfl
  refine ⟨fun hok => ?_, fun hfail => ?_⟩
  all_goals
    unfold pumpDoneFrame pumpAnswer
    simp [*]

/-- A PUMP_DONE that answers no run. -/
theorem pumpDoneFrame_unexpected {k : TankId} {x : QFrame} {s : State}
    (h : x.overtaken = true ∨ ∀ r, s.water.run = some r → r.tank ≠ k ∨ r.kind.code ≠ field 1 1 x.payload) :
    ∃ reason, pumpDoneFrame k x s = plantInvalid reason Kind.pumpDone k.val s ∧
      (field 1 1 x.payload = 1 ∨ field 1 1 x.payload = 2 → field 2 1 x.payload = 1 ∨ field 2 1 x.payload = 2 →
        reason = 4) := by
  unfold pumpDoneFrame
  split
  · next hnone =>
    refine ⟨2, rfl, fun hcode => absurd hnone ?_⟩
    rcases hcode with hcode | hcode <;> simp [hcode, pumpKindOf]
  · next kind hkind =>
    have hanswer : ∀ ok, pumpAnswer k kind ok x.overtaken s = plantInvalid 4 Kind.pumpDone k.val s := fun ok => by
      unfold pumpAnswer
      split
      · rfl
      · next r hrun =>
        refine if_neg fun ⟨hover, htank, hk⟩ => ?_
        rcases h with hover' | hother
        · rw [hover] at hover'
          cases hover'
        · rcases hother r hrun with hne | hne
          · exact hne htank
          · exact hne (by rw [hk, pumpKindOf_eq_some.1 hkind])
    rw [hanswer, hanswer]
    split
    · exact ⟨4, rfl, fun _ _ => rfl⟩
    split
    · exact ⟨4, rfl, fun _ _ => rfl⟩
    · next h1 h2 => exact ⟨2, rfl, fun _ hcode => absurd hcode (by tauto)⟩

/-! ### A run's end (R133) -/

/-- The state with no run in flight. -/
def runEnded (s : State) : State := putWater (fun w => { w with run := none, pumpTimer := none }) s

/-- A tank after its run. -/
def circulated (t : Tank) : Tank :=
  { t with pumpRunning := false, stale := false, age := 0, quality := .uncertain, circulationDue := false, staleDue := false }

theorem alike_runEnded {s t : State} (h : Alike s t) :
    Alike (setWater { s.water with run := none, pumpTimer := none } s) (runEnded t) :=
  h.setWater fun w => { w with run := none, pumpTimer := none }

/-- A completed run, with nobody waiting and no request queued. -/
theorem alike_finishRun {r : PumpReq} {s t : State} (h : Alike s t) (hwait : t.water.waitList = [])
    (hqueue : t.water.pumpQueue = []) : Alike (finishRun r s) (putTank r.tank circulated (runEnded t)) := by
  have hset := (alike_runEnded h).setTankWith r.tank circulated
  unfold finishRun
  change Alike (pumpLook (retry (setTankWith r.tank circulated _))) _
  rw [retry_of_nil (by rw [hset.water]; exact hwait), pumpLook_of_nil (by rw [hset.water]; exact hqueue)]
  exact hset

/-- The state with a run failed, its request queued again. -/
def runFailed (r : PumpReq) (s : State) : State :=
  joined r.tank r.kind (putTank r.tank (fun t => { t with pumpRunning := false }) (runEnded s))

/-- PUMP_FAILED (R133). -/
def failedNotice (cause : Nat) (r : PumpReq) : Notice :=
  { kind := .pumpFailed, reason := cause, subject := r.tank.val, first := r.kind.code }

/-- A run's request, queued again and not yet noted. -/
def runReturned (r : PumpReq) (s : State) : State :=
  joinPump r.tank r.kind (setTankWith r.tank (fun t => { t with pumpRunning := false })
    (setWater { s.water with run := none, pumpTimer := none } s))

theorem failRun_eq {cause : Nat} {r : PumpReq} {s : State} (hrun : s.water.run = some r) :
    failRun cause s = pumpLook (retry (notify (failedNotice cause r) (runReturned r s))) := by
  unfold failRun
  rw [hrun]
  rfl

theorem alike_runReturned {r : PumpReq} {s t : State} (h : Alike s t) : Alike (runReturned r s) (runFailed r t) :=
  ((alike_runEnded h).setTankWith r.tank fun t => { t with pumpRunning := false }).joinPump r.tank r.kind

theorem Frame.of_alike {I : State → Prop} {s t : State} (F : Frame I) (h : Alike s t) (ht : I t) : I s := F.besides h.units ht

/-- What holds of the request queued again holds at the end of the failed run's effect. -/
theorem Frame.failRun_of_alike {I : State → Prop} {cause : Nat} {r : PumpReq} {s t : State} (F : Frame I) (h : Alike s t)
    (hrun : t.water.run = some r) (hfailed : I (runFailed r t)) : I (Machine.failRun cause s) := by
  rw [failRun_eq (by rw [h.water]; exact hrun)]
  exact F.pumpLook (F.retry (F.notify _ (F.of_alike (alike_runReturned h) hfailed)))

theorem tank_runFailed (r : PumpReq) (s : State) : (runFailed r s).water.tanks[r.tank] =
    { s.water.tanks[r.tank] with pumpRunning := false, pumpPending := true } := by
  unfold runFailed
  rw [getElem_joined_self, getElem_putTank_self]
  rfl

theorem requested_runFailed (r : PumpReq) (s : State) : requested r.tank (runFailed r s).water :=
  Or.inl (by rw [tank_runFailed])

theorem qualityOf_runFailed (r : PumpReq) (s : State) :
    qualityOf r.tank (runFailed r s).water = qualityOf r.tank s.water := by
  unfold qualityOf
  rw [tank_runFailed]
  rfl

theorem plantReady_runFailed {r : PumpReq} {s : State} (hup : s.ports[plantPort].link = .up)
    (hroom : s.ports[plantPort].outbound.length < 16) : plantReady (runFailed r s) := ⟨hup, fun _ => hroom⟩

theorem tally_failRun (cause : Nat) (s : State) : (failRun cause s).tally = s.tally := by
  refine (loose_tally s.tally).frame.failRun cause rfl fun r hr => ?_
  exact (loose_tally s.tally).frame.of_alike (alike_runReturned Alike.refl) (t := runFailed r s) rfl

/-- A failed run's tank keeps its quality and its request to the end of the event, with the plant port UP. -/
theorem failRun_concluded {cause : Nat} {r : PumpReq} {s t u : State} (h : Alike t u) (hs : steady s)
    (htally : u.tally = s.tally) (hpart : u.exch.part = .running) (hup : u.ports[plantPort].link = .up)
    (hroom : u.ports[plantPort].outbound.length < 16) (hrun : u.water.run = some r) :
    (conclude s (failRun cause t)).water.tanks[r.tank].quality = u.water.tanks[r.tank].quality ∧
      requested r.tank (conclude s (failRun cause t)).water := by
  have hkept : (failRun cause t).tally = s.tally := (tally_failRun cause t).trans (h.tally.trans htally)
  have hrunning : (failRun cause t).exch.part = .running := (part_of_kept (kept_failRun ..)).trans (h.part.trans hpart)
  have hready := frame_plantReady.failRun_of_alike (cause := cause) h hrun (plantReady_runFailed hup hroom)
  have hquality := (frame_qualityOf r.tank (qualityOf r.tank u.water)).concluded id hready hs hkept hrunning
    ((frame_qualityOf r.tank _).failRun_of_alike (cause := cause) h hrun (qualityOf_runFailed r u))
  have hrequested := (frame_requested r.tank).concluded id hready hs hkept hrunning
    ((frame_requested r.tank).failRun_of_alike (cause := cause) h hrun (requested_runFailed r u))
  generalize conclude s (failRun cause t) = w at hquality hrequested ⊢
  exact ⟨(congrArg (fun c => c.1) hquality :), hrequested⟩

/-! ### PUMP_DONE (R133) -/

section Done

variable {k : TankId} {x : QFrame} {xs : List QFrame} {s : State} (hq : quiet s) (hup : s.ports[plantPort].link = .up)
  (hin : s.ports[plantPort].inbound = x :: xs) (hkind : x.kind = Kind.pumpDone)
include hq hup hin hkind

theorem exec_pumpDone (hk : field 0 1 x.payload = k.val) (hfit : tankFitted k s = true) :
    exec .pumpDone s = .next (conclude s (pumpDoneFrame k x (takeFrame plantPort s))) := by
  show Host.Outcome.next (plantRow Kind.pumpDone (onTank Kind.pumpDone pumpDoneFrame) s) = _
  rw [← hkind, plantRow_eq hq hup hin, hkind, onTank_fitted hk.symm ((tankFitted_takeFrame ..).trans hfit)]

theorem pumpDone_unexpected (hk : field 0 1 x.payload = k.val) (hfit : tankFitted k s = true)
    (h : x.overtaken = true ∨ ∀ r, s.water.run = some r → r.tank ≠ k ∨ r.kind.code ≠ field 1 1 x.payload) :
    ∃ t, exec .pumpDone s = .next t ∧ t.ports[plantPort].inbound = xs ∧ t.water = s.water ∧
      (field 1 1 x.payload = 1 ∨ field 1 1 x.payload = 2 → field 2 1 x.payload = 1 ∨ field 2 1 x.payload = 2 →
        s.path.queue.length ≤ 32 → noticeGiven { kind := .plantFrameInvalid, reason := 4, subject := plantPort.val,
                                                 first := Kind.pumpDone.toNat, second := k.val } s t) := by
  have hwater : (takeFrame plantPort s).water = s.water := (alike_takeFrame plantPort s).water
  obtain ⟨reason, hframe, hreason⟩ := pumpDoneFrame_unexpected (s := takeFrame plantPort s) (x := x) (k := k)
    (by rw [hwater]; exact h)
  obtain ⟨halike, htook⟩ := took_plantInvalid hq hin reason Kind.pumpDone k.val
  refine ⟨_, exec_pumpDone hq hup hin hkind hk hfit, ?_⟩
  rw [hframe, htook.concluded (steady_of_calm hq.1)]
  refine ⟨htook.inbound, halike.water, fun hcode hresult hlen => ?_⟩
  obtain rfl := hreason hcode hresult
  have hring : Ringing (29 + 2) 0 s (takeFrame plantPort s) := (Ringing.calm hq.1 hq.2.1 hlen).takeFrame _
  exact noticeGiven_of_ringing (hring.noticed _) (hring.notify _)

variable {r : PumpReq} (hk : field 0 1 x.payload = r.tank.val) (hfit : tankFitted r.tank s = true)
  (hcode : field 1 1 x.payload = r.kind.code) (hrun : s.water.run = some r) (hover : x.overtaken = false)
include hk hfit hcode hrun hover

theorem pumpDone_completes (hok : field 2 1 x.payload = 1) (hwait : s.water.waitList = [])
    (hqueue : s.water.pumpQueue = []) :
    ∃ t, exec .pumpDone s = .next t ∧ t.ports[plantPort].inbound = xs ∧ t.water.run = none ∧
      t.water.pumpTimer = none ∧ t.water.tanks[r.tank].pumpRunning = false ∧ t.water.tanks[r.tank].stale = false ∧
      t.water.tanks[r.tank].age = 0 ∧ t.water.tanks[r.tank].quality = .uncertain := by
  have htaken := alike_takeFrame plantPort s
  have halike := alike_finishRun (r := r) htaken hwait hqueue
  have htook : Took plantPort xs s (finishRun r (takeFrame plantPort s)) := took_frameTaken hq.2.1 hin halike
  have htank : (finishRun r (takeFrame plantPort s)).water.tanks[r.tank] =
      circulated s.water.tanks[r.tank] := by
    rw [halike.water, getElem_putTank_self]
    rfl
  refine ⟨_, exec_pumpDone hq hup hin hkind hk hfit, ?_⟩
  rw [(pumpDoneFrame_run hcode ((congrArg WaterUnit.run htaken.water).trans hrun) hover).1 hok,
    htook.concluded (steady_of_calm hq.1), htank]
  refine ⟨htook.inbound, ?_, ?_, rfl, rfl, rfl, rfl⟩
  all_goals
    rw [halike.water]
    rfl

theorem pumpDone_fails (hfail : field 2 1 x.payload = 2) (hroom : s.ports[plantPort].outbound.length < 16) :
    ∃ t, exec .pumpDone s = .next t ∧ t.water.tanks[r.tank].quality = s.water.tanks[r.tank].quality ∧
      (t.water.tanks[r.tank].pumpPending = true ∨ t.water.tanks[r.tank].pumpRunning = true) := by
  have htaken := alike_takeFrame plantPort s
  have hframe := (pumpDoneFrame_run hcode ((congrArg WaterUnit.run htaken.water).trans hrun) hover).2 hfail
  refine ⟨_, exec_pumpDone hq hup hin hkind hk hfit, ?_⟩
  rw [hframe]
  obtain ⟨hready, hplace⟩ := plantReady_frameTaken hup hroom
  exact failRun_concluded (u := frameTaken plantPort s) htaken (steady_of_calm hq.1) rfl hq.2.1 hready (by rw [outbound_frameTaken]; exact hroom) hrun

end Done

end Sys2Proof.Machine

/-! PROOFS. PUMP_TIMER, CIRCULATION_DUE and TANK_STALE (R131, R132, R133). -/

namespace Sys2Proof.Machine

/-! ### The look at the pump queue (R132) -/

/-- The state with a request sent, its run in flight. -/
def pumpSentOff (r : PumpReq) (s : State) : State :=
  putPort plantPort (fun x => { x with outbound := x.outbound ++ [pumpRunFrame r.tank r.kind] }) (runStarted r s)

theorem alike_sendPump {r : PumpReq} {s t : State} (h : Alike s t) (hup : t.ports[plantPort].link = .up)
    (hroom : t.ports[plantPort].outbound.length < 16) : Alike (sendPump r s) (pumpSentOff r t) := by
  obtain ⟨u, ha, hsend⟩ := sendPump_offer r s
  have hstarted : Alike u (runStarted r t) := ha.trans (h.update (runStarted r))
  rw [hsend]
  exact hstarted.offer _ hup hroom

theorem linkUp_of_up {p : PortId} {s : State} (h : s.ports[p].link = .up) : linkUp p s = true := by
  unfold linkUp
  rw [h]
  rfl

theorem up_of_linkUp {p : PortId} {s : State} (h : linkUp p s = true) : s.ports[p].link = .up := eq_of_beq h

theorem pumpLook_sends {r : PumpReq} {s : State} (hrun : s.water.run = none) (hup : s.ports[plantPort].link = .up)
    (hpart : s.exch.part = .running) (hsend : sendable s = some r) : pumpLook s = sendPump r s := by
  unfold pumpLook
  rw [hrun, linkUp_of_up hup, hpart, hsend]
  rfl

theorem pumpLook_waits {s : State} (h : s.ports[plantPort].link ≠ .up ∨ sendable s = none) : pumpLook s = s := by
  unfold pumpLook
  split
  · next hlook =>
    rcases h with hdown | hnone
    · rw [Bool.and_eq_true, Bool.and_eq_true] at hlook
      exact absurd (up_of_linkUp hlook.1.2) hdown
    · rw [hnone]
  · rfl

/-! ### PUMP_TIMER (R133) -/

section Timer

variable {r : PumpReq} {s : State}

theorem answersRun_iff {f : QFrame} : answersRun r f = true ↔
    f.kind = Kind.pumpDone ∧ field 0 1 f.payload = r.tank.val ∧ field 1 1 f.payload = r.kind.code := by
  unfold answersRun
  rw [Bool.and_eq_true, Bool.and_eq_true, beq_iff_eq, beq_iff_eq, beq_iff_eq, pumpKindOf_eq_some, and_assoc]

theorem passedBy_eq (r : PumpReq) (f : QFrame) : f.passedBy r =
    if f.kind = Kind.pumpDone ∧ field 0 1 f.payload = r.tank.val ∧ field 1 1 f.payload = r.kind.code then
      { f with overtaken := true } else f := by
  unfold QFrame.passedBy
  simp only [answersRun_iff]

/-- The state with a run's PUMP_DONE overtaken. -/
def overtaken (r : PumpReq) (s : State) : State :=
  putPort plantPort (fun x => { x with inbound := x.inbound.map (QFrame.passedBy r) }) s

theorem overtakeDone_eq (hrun : s.water.run = some r) : overtakeDone s = setPort plantPort
    { s.ports[plantPort] with inbound := s.ports[plantPort].inbound.map (QFrame.passedBy r) } s := by
  unfold overtakeDone
  rw [hrun]

theorem alike_overtakeDone (hrun : s.water.run = some r) : Alike (overtakeDone s) (overtaken r s) := by
  rw [overtakeDone_eq hrun]
  exact Alike.refl.setPort plantPort fun x => { x with inbound := x.inbound.map (QFrame.passedBy r) }

theorem port_overtaken (r : PumpReq) (s : State) : (overtaken r s).ports[plantPort] =
    { s.ports[plantPort] with inbound := s.ports[plantPort].inbound.map (QFrame.passedBy r) } :=
  getElem_putPort_self ..

theorem exec_pumpTimer (htimer : s.water.pumpTimer = some 0) :
    exec .pumpTimer s = .next (conclude s (failRun 2 (overtakeDone s))) := by
  show execPumpTimer s = _
  unfold execPumpTimer
  rw [if_pos htimer]

theorem upPorts_of_down {p : PortId} (h : s.ports[p].link ≠ .up) : p ∉ upPorts s := fun hmem =>
  h (up_of_linkUp (List.mem_filter.1 hmem).2)

/-- The plant's own records stand to the end of an event that began with its port not UP. -/
theorem plantSide_settleLost {t : State} (hdown : s.ports[plantPort].link ≠ .up)
    (hdown' : t.ports[plantPort].link ≠ .up) : plantSide (settleLost (upPorts s) t).water = plantSide t.water := by
  have hd : Downed ⟨False, True⟩ plantPort t := ⟨hdown', False.elim, fun _ => rfl⟩
  unfold settleLost
  split
  · exact (Spared.refl.settlePorts hd 11 (upPorts_of_down hdown)).plant trivial
  · rfl

theorem frame_plantDown : Frame fun s => s.ports[plantPort].link ≠ .up where
  besides := fun hb h => by rwa [ports_of_besides hb]
  port := fun {s b x} h => by
    have hother : (s.ports.set (bayPort b) x)[plantPort] = s.ports[plantPort] :=
      Vector.getElem_set_ne _ _ (Fin.val_ne_of_ne (bayPort_ne_plantPort b))
    dsimp only
    rw [hother]
    exact h
  bay := fun _ => id
  yard := fun _ => id
  water := fun _ => id
  send := fun _ hup h => absurd (up_of_linkUp hup) h

/-- A failed run's tank keeps its quality and its request, with the plant port DOWN. -/
theorem failRun_concluded_down {cause : Nat} {t u : State} (h : Alike t u) (hs : steady s) (htally : u.tally = s.tally)
    (hpart : u.exch.part = .running) (hdown : s.ports[plantPort].link ≠ .up) (hdown' : u.ports[plantPort].link ≠ .up)
    (hrun : u.water.run = some r) :
    (conclude s (failRun cause t)).water.tanks[r.tank].quality = u.water.tanks[r.tank].quality ∧
      requested r.tank (conclude s (failRun cause t)).water := by
  have hkept : (failRun cause t).tally = s.tally := (tally_failRun cause t).trans (h.tally.trans htally)
  have hrunning : (failRun cause t).exch.part = .running := (part_of_kept (kept_failRun ..)).trans (h.part.trans hpart)
  have hlink := frame_plantDown.failRun_of_alike (cause := cause) h hrun hdown'
  have hquality := (frame_qualityOf r.tank _).failRun_of_alike (cause := cause) h hrun (qualityOf_runFailed r u)
  have hrequested := (frame_requested r.tank).failRun_of_alike (cause := cause) h hrun (requested_runFailed r u)
  have hside := plantSide_settleLost (s := s) hdown hlink
  rw [conclude_eq_settleLost hs hkept hrunning]
  generalize failRun cause t = v at hquality hrequested hside ⊢
  generalize settleLost (upPorts s) v = w at hside ⊢
  have hat : (w.water.tanks[r.tank].quality, w.water.tanks[r.tank].pumpPending, w.water.tanks[r.tank].pumpRunning) =
      (v.water.tanks[r.tank].quality, v.water.tanks[r.tank].pumpPending, v.water.tanks[r.tank].pumpRunning) :=
    (congrArg (fun p => p.2.2.2 r.tank) hside :)
  simp only [Prod.mk.injEq] at hat
  obtain ⟨hsame, hpending, hrunningTank⟩ := hat
  unfold requested
  rw [hsame, hpending, hrunningTank]
  exact ⟨(congrArg (fun c => c.1) hquality :), hrequested⟩

theorem pumpTimer_keeps (hq : quiet s) (hrun : s.water.run = some r) (hroom : s.ports[plantPort].outbound.length < 16) :
    (conclude s (failRun 2 (overtakeDone s))).water.tanks[r.tank].quality = s.water.tanks[r.tank].quality ∧
      requested r.tank (conclude s (failRun 2 (overtakeDone s))).water := by
  have hlink : (overtaken r s).ports[plantPort].link = s.ports[plantPort].link := by rw [port_overtaken]
  by_cases hup : s.ports[plantPort].link = .up
  · exact failRun_concluded (u := overtaken r s) (alike_overtakeDone hrun) (steady_of_calm hq.1) rfl hq.2.1
      (hlink.trans hup) (by rw [port_overtaken]; exact hroom) hrun
  · exact failRun_concluded_down (u := overtaken r s) (alike_overtakeDone hrun) (steady_of_calm hq.1) rfl hq.2.1 hup
      (by rw [hlink]; exact hup) hrun

/-! ### PUMP_TIMER with nobody waiting (R132, R133) -/

/-- The state at the run's end, its request queued again. -/
def timedOut (r : PumpReq) (s : State) : State := runFailed r (overtaken r s)

/-- The pump queue with the run's request at its place. -/
def requeued (r : PumpReq) (s : State) : List PumpReq :=
  pumpInsert { tank := r.tank, kind := r.kind, joined := s.clock.now } s.water.pumpQueue

theorem pumpQueue_timedOut (r : PumpReq) (s : State) : (timedOut r s).water.pumpQueue = requeued r s := rfl

theorem getElem_putTank_ne {k j : TankId} (hkj : k ≠ j) (f : Tank → Tank) (s : State) :
    (putTank k f s).water.tanks[j] = s.water.tanks[j] :=
  Vector.getElem_set_ne k.isLt j.isLt (Fin.val_ne_of_ne hkj)

theorem grants_putTank {k j : TankId} {f : Tank → Tank} {s : State} (hf : ∀ t, (f t).grants = t.grants := by exact fun _ => rfl) :
    (putTank k f s).water.tanks[j].grants = s.water.tanks[j].grants := by
  by_cases htank : k = j
  · subst htank
    rw [getElem_putTank_self]
    exact hf _
  · rw [getElem_putTank_ne htank]

theorem grants_runFailed (r : PumpReq) (s : State) (k : TankId) :
    (runFailed r s).water.tanks[k].grants = s.water.tanks[k].grants := by
  have hjoined : (runFailed r s).water.tanks[k].grants = (putTank r.tank (fun t => { t with pumpPending := true })
      (putTank r.tank (fun t => { t with pumpRunning := false }) (runEnded s))).water.tanks[k].grants := rfl
  rw [hjoined, grants_putTank, grants_putTank]
  rfl

theorem sendable_timedOut (r : PumpReq) (s : State) :
    sendable (timedOut r s) = (requeued r s).find? fun x => s.water.tanks[x.tank].grants.isEmpty := by
  unfold sendable
  rw [pumpQueue_timedOut]
  congr 1
  funext x
  unfold timedOut
  rw [grants_runFailed]
  rfl

/-- The run's end noted, nobody waiting. -/
def timeoutNoted (r : PumpReq) (s : State) : State := notify (failedNotice 2 r) (runReturned r (overtakeDone s))

theorem alike_timeoutNoted (hrun : s.water.run = some r) : Alike (timeoutNoted r s) (timedOut r s) :=
  (alike_runReturned (alike_overtakeDone hrun)).notify _

theorem failRun_timeout (hrun : s.water.run = some r) (hwait : s.water.waitList = []) :
    failRun 2 (overtakeDone s) = pumpLook (timeoutNoted r s) := by
  rw [failRun_eq (by rw [(alike_overtakeDone hrun).water]; exact hrun)]
  have hnil : (timeoutNoted r s).water.waitList = [] := by
    rw [(alike_timeoutNoted hrun).water]
    exact hwait
  exact congrArg pumpLook (retry_of_nil hnil)

theorem ringing_timeout (hq : quiet s) (hrun : s.water.run = some r) (hlen : s.path.queue.length ≤ 32) :
    Ringing 25 1 s (timeoutNoted r s) ∧ noticeNth 0 (failedNotice 2 r) s.clock.now s (timeoutNoted r s) := by
  have hstart := Ringing.calm hq.1 hq.2.1 hlen
  have hovertaken : Ringing 31 0 s (overtakeDone s) := by
    rw [overtakeDone_eq hrun]
    exact hstart.setPort _ _
  have hreturned : Ringing (25 + 2) 0 s (runReturned r (overtakeDone s)) :=
    (((hovertaken.setWater _).setTankWith _ _).setTankWith _ _).setWater _
  exact ⟨hreturned.notify _, hreturned.noticed _⟩

theorem ports_setWater (w : WaterUnit) (s : State) : (setWater w s).ports = s.ports :=
  (congrArg State.ports (besides_setWater w s) :)

theorem ports_setTankWith (k : TankId) (f : Tank → Tank) (s : State) : (setTankWith k f s).ports = s.ports :=
  (congrArg State.ports (besides_setTank k (f s.water.tanks[k]) s) :)

theorem Ringing.offer {n k : Nat} {a t : State} (h : Ringing (n + 1) k a t) {p : PortId} (f : QFrame)
    (hup : t.ports[p].link = .up) (hroom : t.ports[p].outbound.length < Config.outboundPlaces) :
    Ringing n k a (offer p f t) := by
  unfold Machine.offer
  dsimp only
  rw [if_pos hup, if_pos hroom]
  exact h.setPort p _

theorem ringing_sendPump {n k : Nat} {a t : State} (h : Ringing (n + 3) k a t) (hup : t.ports[plantPort].link = .up)
    (hroom : t.ports[plantPort].outbound.length < 16) (x : PumpReq) : Ringing n k a (sendPump x t) := by
  have hports : ∀ (w : WaterUnit) (u : State), (setWater w (setTankWith x.tank
      (fun t => { t with pumpPending := false, pumpRunning := true }) u)).ports = u.ports := fun w u =>
    (ports_setWater ..).trans (ports_setTankWith ..)
  refine Ringing.offer ((h.setTankWith x.tank _).setWater _) _ ?_ ?_
  · rw [hports]
    exact hup
  · rw [hports]
    exact hroom

theorem inbound_timedOut (r : PumpReq) (s : State) : (timedOut r s).ports[plantPort].inbound =
    s.ports[plantPort].inbound.map (fun f =>
      if f.kind = Kind.pumpDone ∧ field 0 1 f.payload = r.tank.val ∧ field 1 1 f.payload = r.kind.code then
        { f with overtaken := true } else f) := by
  have hport : (timedOut r s).ports[plantPort].inbound = s.ports[plantPort].inbound.map (QFrame.passedBy r) :=
    congrArg Port.inbound (port_overtaken r s)
  rw [hport]
  exact List.map_congr_left fun f _ => passedBy_eq r f

theorem linkUp_timedOut (r : PumpReq) (s : State) (p : PortId) : linkUp p (timedOut r s) = linkUp p s :=
  linkUp_putPort (s := s) (p := plantPort) (f := fun x => { x with inbound := x.inbound.map (QFrame.passedBy r) }) rfl

theorem link_timedOut (r : PumpReq) (s : State) : (timedOut r s).ports[plantPort].link = s.ports[plantPort].link :=
  (congrArg Port.link (port_overtaken r s) :)

theorem outbound_timedOut (r : PumpReq) (s : State) :
    (timedOut r s).ports[plantPort].outbound = s.ports[plantPort].outbound :=
  (congrArg Port.outbound (port_overtaken r s) :)

section Exact

variable (hq : quiet s) (htimer : s.water.pumpTimer = some 0) (hrun : s.water.run = some r)
  (hwait : s.water.waitList = [])
include hq htimer hrun hwait

/-- The run's end with no other request to send. -/
theorem pumpTimer_waits (hnone : s.ports[plantPort].link ≠ .up ∨ sendable (timedOut r s) = none) :
    exec .pumpTimer s = .next (timeoutNoted r s) := by
  have halike := alike_timeoutNoted hrun
  have hlook : pumpLook (timeoutNoted r s) = timeoutNoted r s := pumpLook_waits <| hnone.imp
    (fun hdown => by rw [halike.ports, link_timedOut]; exact hdown) fun hsend => (halike.reads sendable).trans hsend
  have hended : Ended s (timedOut r s) := ⟨rfl, rfl, fun p hp => (linkUp_timedOut r s p).trans hp⟩
  rw [exec_pumpTimer htimer, failRun_timeout hrun hwait, hlook, hended.conclude halike (steady_of_calm hq.1) hq.2.1]

/-- The run's end with the next request sent. -/
theorem pumpTimer_sends {x : PumpReq} (hup : s.ports[plantPort].link = .up)
    (hroom : s.ports[plantPort].outbound.length < 16) (hsend : sendable (timedOut r s) = some x) :
    exec .pumpTimer s = .next (sendPump x (timeoutNoted r s)) ∧
      Alike (sendPump x (timeoutNoted r s)) (pumpSentOff x (timedOut r s)) := by
  have halike := alike_timeoutNoted hrun
  have hup' : (timedOut r s).ports[plantPort].link = .up := (link_timedOut r s).trans hup
  have hsent : Alike (sendPump x (timeoutNoted r s)) (pumpSentOff x (timedOut r s)) :=
    alike_sendPump halike hup' (by rw [outbound_timedOut]; exact hroom)
  have hlook : pumpLook (timeoutNoted r s) = sendPump x (timeoutNoted r s) := by
    refine pumpLook_sends ?_ ?_ ?_ ?_
    · rw [halike.water]
      rfl
    · rw [halike.ports]
      exact hup'
    · rw [halike.part]
      exact hq.2.1
    · rw [halike.reads sendable]
      exact hsend
  have hended : Ended s (pumpSentOff x (timedOut r s)) := ⟨rfl, rfl, fun p hp =>
    (linkUp_putPort (s := runStarted x (timedOut r s)) (p := plantPort) rfl).trans ((linkUp_timedOut r s p).trans hp)⟩
  refine ⟨?_, hsent⟩
  rw [exec_pumpTimer htimer, failRun_timeout hrun hwait, hlook, hended.conclude hsent (steady_of_calm hq.1) hq.2.1]

end Exact

end Timer

end Sys2Proof.Machine

/-! PROOFS. The pump's rows: what the timer leaves, and the two thresholds of a tank's age (R131, R132, R133). -/

namespace Sys2Proof.Machine

/-! ### PUMP_TIMER (R132, R133) -/

/-- The pump timer run out, with nobody waiting for water. -/
def TimedOut (r : PumpReq) (s t : State) : Prop :=
  t.ports[plantPort].inbound = s.ports[plantPort].inbound.map (fun f =>
      if f.kind = Kind.pumpDone ∧ field 0 1 f.payload = r.tank.val ∧ field 1 1 f.payload = r.kind.code then
        { f with overtaken := true } else f) ∧
  (s.path.queue.length ≤ 32 → noticeGiven (failedNotice 2 r) s t) ∧
  (∀ x, s.ports[plantPort].link = .up → sendable (timedOut r s) = some x → t.water.run = some x ∧
    t.water.pumpTimer = some (s.latched.pumpTimeout * 60) ∧ t.water.pumpQueue = (requeued r s).erase x ∧
    t.water.tanks[x.tank].pumpPending = false ∧ t.water.tanks[x.tank].pumpRunning = true ∧
    t.ports[plantPort].outbound = s.ports[plantPort].outbound ++ [pumpRunFrame x.tank x.kind]) ∧
  (s.ports[plantPort].link ≠ .up ∨ sendable (timedOut r s) = none → t.water.run = none ∧ t.water.pumpTimer = none ∧
    t.water.pumpQueue = requeued r s ∧ t.water.tanks[r.tank].pumpPending = true ∧
    t.water.tanks[r.tank].pumpRunning = false ∧ t.ports = s.ports.set plantPort
      { s.ports[plantPort] with inbound := t.ports[plantPort].inbound })

section Timer

variable {r : PumpReq} {s : State} (hq : quiet s) (htimer : s.water.pumpTimer = some 0) (hrun : s.water.run = some r)
  (hroom : s.ports[plantPort].outbound.length < 16)

include hq htimer hrun

theorem timedOut_waits (hwait : s.water.waitList = [])
    (hnone : s.ports[plantPort].link ≠ .up ∨ sendable (timedOut r s) = none) :
    ∃ t, exec .pumpTimer s = .next t ∧ TimedOut r s t := by
  have halike := alike_timeoutNoted hrun
  have hinbound : (timeoutNoted r s).ports[plantPort].inbound = (timedOut r s).ports[plantPort].inbound := by
    rw [halike.ports]
  have htank : (timeoutNoted r s).water.tanks[r.tank] =
      { s.water.tanks[r.tank] with pumpRunning := false, pumpPending := true } := by
    rw [halike.water]
    exact tank_runFailed r (overtaken r s)
  refine ⟨_, pumpTimer_waits hq htimer hrun hwait hnone, hinbound.trans (inbound_timedOut r s), fun hlen => ?_,
    fun x hup hsend => ?_, fun _ => ⟨?_, ?_, ?_, ?_, ?_, ?_⟩⟩
  · obtain ⟨hring, hnth⟩ := ringing_timeout hq hrun hlen
    exact noticeGiven_of_ringing hnth hring
  · rcases hnone with hdown | hnone
    · exact absurd hup hdown
    · rw [hnone] at hsend
      cases hsend
  · rw [halike.water]
    rfl
  · rw [halike.water]
    rfl
  · rw [halike.water]
    exact pumpQueue_timedOut r s
  · rw [htank]
  · rw [htank]
  · rw [hinbound, halike.ports]
    have hport : (timedOut r s).ports[plantPort].inbound = s.ports[plantPort].inbound.map (QFrame.passedBy r) :=
      (congrArg Port.inbound (port_overtaken r s) :)
    rw [hport]
    rfl

include hroom

theorem timedOut_sends (hwait : s.water.waitList = []) {x : PumpReq} (hup : s.ports[plantPort].link = .up)
    (hsend : sendable (timedOut r s) = some x) : ∃ t, exec .pumpTimer s = .next t ∧ TimedOut r s t := by
  obtain ⟨hexec, halike⟩ := pumpTimer_sends hq htimer hrun hwait hup hroom hsend
  have hnoted := alike_timeoutNoted hrun
  have hport : (sendPump x (timeoutNoted r s)).ports[plantPort] = { (timedOut r s).ports[plantPort] with
      outbound := (timedOut r s).ports[plantPort].outbound ++ [pumpRunFrame x.tank x.kind] } := by
    rw [halike.ports]
    exact getElem_putPort_self ..
  have htank : (sendPump x (timeoutNoted r s)).water.tanks[x.tank] =
      { (timedOut r s).water.tanks[x.tank] with pumpPending := false, pumpRunning := true } := by
    rw [halike.water]
    exact (getElem_pumpSent x (timedOut r s).latched.pumpTimeout (timedOut r s).water x.tank).trans (if_pos rfl)
  refine ⟨_, hexec, ?_, fun hlen => ?_, fun y _ hy => ?_, fun hnone => ?_⟩
  · rw [hport]
    exact inbound_timedOut r s
  · obtain ⟨hring, hnth⟩ := ringing_timeout hq hrun hlen
    refine noticeGiven_of_ringing (n := 22) (noticeNth_of_run hnth (Run.refl (L := {})).sendPump rfl rfl)
      (ringing_sendPump hring ?_ ?_ x)
    · rw [hnoted.ports, link_timedOut]
      exact hup
    · rw [hnoted.ports, outbound_timedOut]
      exact hroom
  · rw [hsend] at hy
    obtain rfl := Option.some.inj hy
    refine ⟨?_, ?_, ?_, ?_, ?_, ?_⟩
    · rw [halike.water]
      rfl
    · rw [halike.water]
      rfl
    · rw [halike.water]
      rfl
    · rw [htank]
    · rw [htank]
    · rw [hport, outbound_timedOut]
  · rcases hnone with hdown | hnone
    · exact absurd hup hdown
    · rw [hnone] at hsend
      cases hsend

theorem pumpTimer_timedOut (hwait : s.water.waitList = []) : ∃ t, exec .pumpTimer s = .next t ∧ TimedOut r s t := by
  by_cases hup : s.ports[plantPort].link = .up
  · cases hsend : sendable (timedOut r s) with
    | none => exact timedOut_waits hq htimer hrun hwait (Or.inr hsend)
    | some x => exact timedOut_sends hq htimer hrun hroom hwait hup hsend
  · exact timedOut_waits hq htimer hrun hwait (Or.inl hup)

end Timer

/-! ### CIRCULATION_DUE (R131, R135) -/

/-- A tank whose threshold has been acted on: a request stands, and nothing more is due. -/
def reached (k : TankId) (w : WaterUnit) : Prop := requested k w ∧ w.tanks[k].circulationDue = false

theorem frame_reached (k : TankId) : Frame fun s => reached k s.water :=
  (frame_requested k).and (frame_of_plantView (P := fun w => w.tanks[k].circulationDue = false)
    (fun v w hview h => by
      have hdue : v.tanks[k].circulationDue = w.tanks[k].circulationDue :=
        (congrArg Tank.circulationDue (tank_of_plantView hview k) :)
      rw [hdue, h])
    (fun w r n h => by
      rw [getElem_pumpSent]
      split <;> exact h))

theorem reached_putTank {k j : TankId} {f : Tank → Tank} {s : State} (h : reached k s.water) (hf : ∀ t, ((f t).pumpPending = t.pumpPending ∧
    (f t).pumpRunning = t.pumpRunning ∧ (f t).circulationDue = t.circulationDue) := by exact fun _ => ⟨rfl, rfl, rfl⟩) :
    reached k (putTank j f s).water := by
  unfold reached requested at h ⊢
  by_cases htank : j = k
  · subst htank
    obtain ⟨hpending, hrunning, hdue⟩ := hf s.water.tanks[j]
    rw [getElem_putTank_self, hpending, hrunning, hdue]
    exact h
  · rw [getElem_putTank_ne htank]
    exact h

theorem reached_tankLost {k j : TankId} {s : State} (h : reached k s.water) : reached k (tankLost j s).water := by
  have hset := (Alike.refl (s := s)).setTankWith j fun t => { t with quality := .uncertain }
  unfold tankLost
  split
  · refine (frame_reached k).notify _ ?_ (s := setTankWith j (fun t => { t with quality := .uncertain }) s)
    rw [hset.water]
    exact reached_putTank h
  · exact h

theorem reached_runFailed {k : TankId} {r : PumpReq} {s : State} (h : reached k s.water) :
    reached k (runFailed r s).water := by
  unfold reached requested at h ⊢
  by_cases htank : r.tank = k
  · subst htank
    rw [tank_runFailed]
    exact ⟨Or.inl rfl, h.2⟩
  · have hsame : (runFailed r s).water.tanks[k] = s.water.tanks[k] := by
      have hputs : (runFailed r s).water.tanks[k] = (putTank r.tank (fun t => { t with pumpPending := true })
        (putTank r.tank (fun t => { t with pumpRunning := false }) (runEnded s))).water.tanks[k] := rfl
      rw [hputs, getElem_putTank_ne htank, getElem_putTank_ne htank]
      rfl
    rw [hsame]
    exact h

theorem reached_plantLost {k : TankId} {s : State} (h : reached k s.water) : reached k (plantLost s).water := by
  have htanks : ∀ l : List TankId, reached k (l.foldl (fun acc j => tankLost j acc) s).water := fun l => by
    induction l generalizing s with
    | nil => exact h
    | cons j l ih => exact ih (reached_tankLost h)
  unfold plantLost
  exact (frame_reached k).failRun 3 (htanks allTanks) fun r _ =>
    (frame_reached k).of_alike (alike_runReturned Alike.refl) (reached_runFailed (htanks allTanks))

/-- The state with a tank's threshold acted on. -/
def dueTaken (k : TankId) (s : State) : State := putTank k (fun t => { t with circulationDue := false }) s

theorem circulationReached_keeps {I : State → Prop} (F : Frame I) {k : TankId} {s : State}
    (htaken : s.water.tanks[k].pumpPending = true ∨ s.water.tanks[k].pumpRunning = true → I (dueTaken k s))
    (hjoined : I (joined k .circulate (dueTaken k s))) : I (circulationReached k s) := by
  have halike := ((Alike.refl (s := s)).setTankWith k fun t => { t with circulationDue := false }).postLine (tankLineNo k)
  unfold circulationReached
  dsimp only
  split
  · next hr => exact F.of_alike halike (htaken (by simpa using hr))
  · exact F.pumpLook (F.of_alike (halike.joinPump k .circulate) hjoined)

theorem reached_circulationReached (k : TankId) (s : State) : reached k (circulationReached k s).water := by
  refine circulationReached_keeps (frame_reached k) (fun hr => ?_) ?_
  · unfold reached requested dueTaken
    rw [getElem_putTank_self]
    exact ⟨hr, rfl⟩
  · unfold reached requested
    rw [getElem_joined_self]
    refine ⟨Or.inl rfl, ?_⟩
    unfold dueTaken
    rw [getElem_putTank_self]

theorem circulation_reached {k : TankId} {s : State} (hq : quiet s) (hdue : s.water.tanks[k].circulationDue = true) :
    ∃ t, exec (.circulationDue k) s = .next t ∧ reached k t.water := by
  have hworking : working s = true := by
    unfold working
    rw [hq.2.1]
    rfl
  have htally : (circulationReached k s).tally = s.tally :=
    circulationReached_keeps (loose_tally s.tally).frame (fun _ => rfl) rfl
  refine ⟨conclude s (circulationReached k s), ?_, ?_⟩
  · show execCirculationDue k s = _
    unfold execCirculationDue
    rw [hworking, hdue]
    rfl
  · rw [conclude_eq_settleLost (steady_of_calm hq.1) htally ((part_of_kept (kept_circulationReached ..)).trans hq.2.1)]
    exact (frame_reached k).settleLost ((frame_reached k).borne_of_gate id fun _ => reached_plantLost) _
      (reached_circulationReached k s)

/-! ### TANK_STALE (R131) -/

theorem tank_stale {k : TankId} {s : State} (hq : quiet s) (hdue : s.water.tanks[k].staleDue = true) :
    ∃ t, exec (.tankStale k) s = .next t ∧ t.bays = s.bays ∧ t.water = { s.water with
      tanks := s.water.tanks.set k { s.water.tanks[k] with stale := true, staleDue := false } } := by
  have hworking : working s = true := by
    unfold working
    rw [hq.2.1]
    rfl
  have halike : Alike (tankGoesStale k s) (putTank k (fun t => { t with stale := true, staleDue := false }) s) :=
    (Alike.refl.setTankWith k fun t => { t with stale := true, staleDue := false }).notify _
  refine ⟨tankGoesStale k s, ?_, halike.bays, halike.water⟩
  show execTankStale k s = _
  unfold execTankStale
  rw [hworking, hdue, Bool.true_and, if_pos rfl, (Ended.of_ports).conclude halike (steady_of_calm hq.1) hq.2.1]

theorem exec_thresholds_idle (k : TankId) (s : State) :
    (s.water.tanks[k].circulationDue = false → exec (.circulationDue k) s = .next s) ∧
    (s.water.tanks[k].staleDue = false → exec (.tankStale k) s = .next s) := by
  refine ⟨fun hdue => ?_, fun hdue => ?_⟩
  · show execCirculationDue k s = _
    unfold execCirculationDue
    rw [hdue, Bool.and_false]
    rfl
  · show execTankStale k s = _
    unfold execTankStale
    rw [hdue, Bool.and_false]
    rfl

/-- Settles O43. -/
theorem pumpRunsAndThresholds : Obligations.PumpRunsAndThresholds := by
  refine ⟨fun r x xs s hq hup hin hkind hk hfit hcode hrun hover => ⟨?_, ?_⟩,
    fun k x xs s hq hup hin hkind hk hfit h => pumpDone_unexpected hq hup hin hkind hk hfit h,
    fun r s hq htimer hrun hroom => ?_, fun s htimer => ?_, fun k s hq hdue => ?_, fun k s hq hdue => tank_stale hq hdue,
    exec_thresholds_idle⟩
  · exact pumpDone_completes hq hup hin hkind hk hfit hcode hrun hover
  · exact pumpDone_fails hq hup hin hkind hk hfit hcode hrun hover
  · intro q first
    obtain ⟨hquality, hrequested⟩ := pumpTimer_keeps hq hrun hroom
    have hexec := exec_pumpTimer htimer
    refine ⟨_, hexec, hquality, hrequested, fun hwait => ?_⟩
    obtain ⟨t, ht, hinbound, hnotice, hsent, hwaits⟩ := pumpTimer_timedOut hq htimer hrun hroom hwait
    obtain rfl : conclude s (failRun 2 (overtakeDone s)) = t := Host.Outcome.next.inj (hexec.symm.trans ht)
    have hfirst : sendable (timedOut r s) = first := sendable_timedOut r s
    rw [hfirst] at hsent hwaits
    exact ⟨hinbound, hnotice, hsent, hwaits⟩
  · show execPumpTimer s = _
    unfold execPumpTimer
    rw [if_neg htimer]
  · obtain ⟨t, hexec, hrequested, hclear⟩ := circulation_reached hq hdue
    exact ⟨t, hexec, hclear, hrequested⟩

end Sys2Proof.Machine

/-! PROOFS. A port that goes DOWN: its record, its notice, and the role unit that is told (R43, R55, R69). -/

namespace Sys2Proof.Machine

/-! ### A port gone DOWN (R43) -/

/-- The notice of a port that goes DOWN. -/
def downNotice (p : PortId) (reason : DownReason) : Notice := { kind := .portDown, subject := p.val, first := reason.code }

/-- A record that differs from a port's in its run of bad frames alone. -/
def sameButBad (x y : Port) : Prop := { x with badRun := 0, inBad := 0 } = { y with badRun := 0, inBad := 0 }

/-- The port, which was UP, has gone DOWN and PORT_DOWN has been asked for; its role unit has not been told. -/
structure WentDown (p : PortId) (reason : DownReason) (x : Port) (s u : State) : Prop where
  part : s.exch.part = .running
  was : s.ports[p].link = .up
  same : sameButBad x s.ports[p]
  alike : Alike u (putPort p (fun _ => downRecord x reason) s)
  noted : s.path.queue.length ≤ 32 → Ringing 28 1 s u ∧ noticeNth 0 (downNotice p reason) s.clock.now s u

theorem alike_portDown {p : PortId} {reason : DownReason} {s t : State} (h : Alike s t) :
    Alike (portDown p reason s) (putPort p (fun x => downRecord x reason) t) :=
  (h.setPort p fun x => downRecord x reason).notify _

/-- A port goes DOWN with its record as it stands. -/
theorem wentDown_portDown {p : PortId} {reason : DownReason} {s : State} (hc : calm s) (hpart : s.exch.part = .running)
    (hup : s.ports[p].link = .up) : WentDown p reason s.ports[p] s (portDown p reason s) where
  part := hpart
  was := hup
  same := rfl
  alike := alike_portDown Alike.refl
  noted := fun hlen => by
    have hset : Ringing (29 + 2) 0 s (setPort p (downRecord s.ports[p] reason) s) := (Ringing.calm hc hpart hlen).setPort _ _
    exact ⟨(hset.notify _).mono (by omega), hset.noticed _⟩

/-! ### A bay told of its port's loss (R110) -/

theorem bayPort_ne_exitPort (b : BayId) : bayPort b ≠ exitPort := by
  revert b
  decide

theorem bayPort_injective : Function.Injective bayPort := by decide

theorem roleLost_bayPort (b : BayId) (s : State) : roleLost (bayPort b) s = bayLost b s := by
  unfold roleLost
  rw [if_neg (bayPort_ne_entryPort b), if_neg (bayPort_ne_exitPort b), if_neg (bayPort_ne_plantPort b),
    dif_pos (show 2 ≤ (bayPort b).val ∧ (bayPort b).val < 10 from ⟨Nat.le_add_left .., Nat.add_lt_add_right b.isLt 2⟩)]
  rfl

/-- The bay's sightings forgotten. -/
def bayUnseen (b : BayId) (s : State) : State := setBayWith b (fun x => { x with presence := .unknown, lastTag := none }) s

/-- A bay's record without its sightings. -/
def unseen (x : Bay) : Bay := { x with presence := .unknown, lastTag := none }

theorem alike_bayUnseen {s t : State} (b : BayId) (h : Alike s t) : Alike (bayUnseen b s) (putBay b unseen t) :=
  h.setBayWith b unseen

theorem alike_withdraw {s t : State} (h : Alike s t) (b : BayId) : Alike (withdraw b s)
    (putWater (fun w => { w with waitList := w.waitList.filter (fun e => e.bay != b) }) t) :=
  h.setWater fun w => { w with waitList := w.waitList.filter (fun e => e.bay != b) }

theorem state_bayUnseen (b : BayId) (s : State) : (bayUnseen b s).bays[b].state = s.bays[b].state := by
  rw [(alike_bayUnseen b (Alike.refl (s := s))).bays, getElem_putBay_self]
  rfl

section BayLost

variable {b : BayId} {s : State}

/-- What a bay does on its port's loss, by its state. -/
def bayLostIn (state : BayState) (b : BayId) (s : State) : State :=
  match state with
  | .calling => portLostCall b s
  | .waitingWater => endSession b (some .portLost) (withdraw b s)
  | .running => portLostPart b s
  | .settling => portLostPart b s
  | .clearing => setBayWith b faultOrClosed s
  | .free => s
  | .closed => s
  | .fault => s

theorem bayLost_eq : bayLost b s = bayLostIn s.bays[b].state b (bayUnseen b s) := by
  rw [← state_bayUnseen b s]
  rfl

theorem bayLost_waiting (h : s.bays[b].state = .waitingWater) :
    bayLost b s = endSession b (some .portLost) (withdraw b (bayUnseen b s)) := by
  rw [bayLost_eq, h]
  rfl

end BayLost

namespace WentDown

variable {p : PortId} {reason : DownReason} {x : Port} {s u : State} (h : WentDown p reason x s u)
include h

theorem port : u.ports[p] = downRecord x reason := by
  rw [h.alike.ports]
  exact getElem_putPort_self ..

theorem other {q : PortId} (hq : q ≠ p) : u.ports[q] = s.ports[q] := by
  rw [h.alike.ports]
  exact getElem_putPort_ne hq ..

theorem down : u.ports[p].link ≠ .up := by
  rw [h.port]
  nofun

theorem not_linkUp : linkUp p u = false := by
  unfold linkUp
  rw [h.port]
  rfl

theorem linkUp_other {q : PortId} (hq : q ≠ p) : linkUp q u = linkUp q s := by
  unfold linkUp
  rw [h.other hq]

theorem running : u.exch.part = .running := h.alike.part.trans h.part

theorem working : Machine.working u = true := by
  unfold Machine.working
  rw [h.running]
  rfl

/-! #### The role units in their order (log 20) -/

theorem mem_upPorts : p ∈ upPorts s :=
  List.mem_filter.2 ⟨List.mem_finRange p, linkUp_of_up h.was⟩

/-- The port gone DOWN is the one whose role unit is told first. -/
theorem settleLost_eq : settleLost (upPorts s) u = settlePorts 10 ((upPorts s).erase p) (roleLost p u) := by
  have hfind : (upPorts s).find? (fun q => !linkUp q u) = some p := by
    cases hf : (upPorts s).find? (fun q => !linkUp q u) with
    | none =>
      have hno := List.find?_eq_none.1 hf p h.mem_upPorts
      rw [h.not_linkUp] at hno
      exact absurd rfl hno
    | some q =>
      by_cases hq : q = p
      · rw [hq]
      · have hlost := List.find?_some hf
        have hmem := (List.mem_filter.1 (List.mem_of_find?_eq_some hf)).2
        simp only [h.linkUp_other hq, hmem] at hlost
        cases hlost
  unfold settleLost
  rw [if_pos h.working, settlePorts, hfind]

theorem not_mem_erase : p ∉ (upPorts s).erase p := by
  have hnodup : (upPorts s).Nodup := (List.nodup_finRange 11).filter _
  exact fun hmem => (hnodup.mem_erase_iff.1 hmem).1 rfl

/-- A role unit that leaves the other ports alone is the only one told. -/
theorem settleLost_alone {w : State} (ha : Alike (roleLost p u) w) (hports : w.ports = u.ports) :
    settleLost (upPorts s) u = roleLost p u := by
  have hup : ∀ q ∈ (upPorts s).erase p, linkUp q (roleLost p u) = true := fun q hq => by
    have hne : q ≠ p := fun heq => h.not_mem_erase (heq ▸ hq)
    have hlink : linkUp q (roleLost p u) = linkUp q u := by
      unfold linkUp
      rw [ha.ports, hports]
    rw [hlink, h.linkUp_other hne]
    exact (List.mem_filter.1 (List.mem_of_mem_erase hq)).2
  have hnone : ((upPorts s).erase p).find? (fun q => !linkUp q (roleLost p u)) = none := by
    simpa [List.find?_eq_none] using hup
  rw [h.settleLost_eq, settlePorts, hnone]

/-! #### What the port keeps (R43) -/

theorem waits : u.water.waitList = s.water.waitList := congrArg WaterUnit.waitList h.alike.water

/-- The role unit's own act spares its port. -/
theorem spared_roleLost {c : Sparing} {v : State} (hv : Spared c p u v) (hd : Downed c p u) (hc : ¬ c.plant) :
    Spared c p u (roleLost p v) := by
  unfold roleLost
  split
  · exact hv.entryLost
  split
  · exact hv.putGate _
  split
  · exact hv.plantLost hd hc
  split
  · exact hv.bayLost hd _
  · exact hv

theorem spared : Spared ⟨False, False⟩ p u (settleLost (upPorts s) u) := by
  have hd : Downed ⟨False, False⟩ p u := ⟨h.down, False.elim, False.elim⟩
  rw [h.settleLost_eq]
  exact (h.spared_roleLost Spared.refl hd id).settlePorts hd 10 h.not_mem_erase

theorem bays_eq : u.bays = s.bays := h.alike.bays

/-- No request for water at a bay in use waits there once the bay has been told, and none is offered a frame. -/
theorem port_settled (hwait : ∀ e ∈ s.water.waitList, bayPort e.bay = p → s.bays[e.bay].state = .waitingWater) :
    (settleLost (upPorts s) u).ports[p] = u.ports[p] := by
  rw [h.settleLost_eq]
  by_cases hnone : ∀ e ∈ s.water.waitList, bayPort e.bay ≠ p
  · have hd : Downed ⟨True, False⟩ p u := ⟨h.down, fun _ => by rw [h.waits]; exact hnone, False.elim⟩
    exact ((h.spared_roleLost Spared.refl hd id).settlePorts hd 10 h.not_mem_erase).same trivial
  · simp only [not_forall, ne_eq, not_not] at hnone
    obtain ⟨e, he, hport⟩ := hnone
    have hstate := hwait e he hport
    have hgone : roleLost p u = endSession e.bay (some .portLost) (withdraw e.bay (bayUnseen e.bay u)) := by
      rw [← hport, roleLost_bayPort, bayLost_waiting (by rw [h.bays_eq]; exact hstate)]
    have halike := alike_withdraw (alike_bayUnseen e.bay (Alike.refl (s := u))) e.bay
    have hports : (withdraw e.bay (bayUnseen e.bay u)).ports = u.ports := halike.ports
    have hd : Downed ⟨True, False⟩ p (withdraw e.bay (bayUnseen e.bay u)) := by
      refine ⟨by rw [hports]; exact h.down, fun _ e' he' hport' => ?_, False.elim⟩
      rw [halike.water] at he'
      have hne := (List.mem_filter.1 he').2
      rw [bayPort_injective (hport'.trans hport.symm)] at hne
      simp at hne
    rw [hgone, ← hports]
    exact ((Spared.refl.endSession hd e.bay _).settlePorts hd 10 h.not_mem_erase).same trivial

theorem port_kept : ∃ n, (settleLost (upPorts s) u).ports[p] = { downRecord x reason with outDiscarded := n } := by
  have hport := h.spared.port
  rw [h.port] at hport
  generalize (settleLost (upPorts s) u).ports[p] = y at hport ⊢
  refine ⟨y.outDiscarded, ?_⟩
  have hback := congrArg (fun z : Port => { z with outDiscarded := y.outDiscarded }) hport
  exact hback

/-- PORT_DOWN stands as the event's first notice. -/
theorem noted_first (hlen : s.path.queue.length ≤ 32) :
    noticeNth 0 (downNotice p reason) s.clock.now s (settleLost (upPorts s) u) := by
  rw [h.settleLost_eq]
  exact noticeNth_of_run (h.noted hlen).2 (Run.refl (L := {})).roleLost.settlePorts rfl rfl

/-- The port at the end of the event (R43). -/
theorem flushed : portFlushed p reason s (settleLost (upPorts s) u) := by
  obtain ⟨n, hport⟩ := h.port_kept
  have hsettled := h.port_settled
  have hsending : x.sending = s.ports[p].sending := (congrArg Port.sending h.same :)
  have hinbound : x.inbound = s.ports[p].inbound := (congrArg Port.inbound h.same :)
  have hdiscarded : x.inDiscarded = s.ports[p].inDiscarded := (congrArg Port.inDiscarded h.same :)
  have houtbound : x.outbound = s.ports[p].outbound := (congrArg Port.outbound h.same :)
  have hlost : x.outDiscarded = s.ports[p].outDiscarded := (congrArg Port.outDiscarded h.same :)
  rw [h.port] at hsettled
  have hnoted := h.noted_first
  generalize settleLost (upPorts s) u = t at hport hsettled hnoted ⊢
  refine ⟨?_, ?_, ?_, ?_, ?_, ?_, ?_, ?_, ?_, ?_, ?_, fun hwait => ?_, hnoted⟩
  case refine_12 =>
    rw [hsettled hwait, ← houtbound, ← hlost]
    rfl
  case refine_11 =>
    rw [hport, ← hinbound, ← hdiscarded]
    rfl
  case refine_10 =>
    rw [hport, ← hsending]
    rfl
  all_goals
    rw [hport]
    rfl

/-! ### The gates (R55, R69) -/

theorem gate_eq : u.gate = s.gate := h.alike.gate
theorem yard_eq : u.yard = s.yard := h.alike.yard
theorem water_eq : u.water = s.water := h.alike.water

end WentDown

theorem entryGate_lost {reason : DownReason} {x : Port} {s u : State} (h : WentDown entryPort reason x s u) :
    entryGateLost s (settleLost (upPorts s) u) := by
  have halike : Alike (roleLost entryPort u) (gateWith .down u) := by
    show Alike (discardPair .down 1 u) _
    unfold discardPair pairDiscarded
    split
    · exact Alike.refl
    · exact Alike.refl.notify _
  rw [h.settleLost_alone halike rfl]
  refine ⟨?_, halike.yard.trans h.yard_eq, fun p hp hlen => ?_⟩
  · rw [halike.gate]
    show ({ u.gate with entry := .down, pair := none, outcome := none, timer := none } : GateUnit) = _
    rw [h.gate_eq]
  · have hpair : u.gate.pair = some p := by rw [h.gate_eq]; exact hp
    have hrole : roleLost entryPort u = pairDiscarded p 1 (gateWith .down u) := by
      show discardPair .down 1 u = _
      unfold discardPair
      rw [hpair]
    rw [hrole]
    have hring : Ringing (26 + 2) 1 s (gateWith .down u) := (h.noted hlen).1.update rfl rfl rfl
    exact hring.noticed _

theorem exitGate_lost {reason : DownReason} {x : Port} {s u : State} (h : WentDown exitPort reason x s u) :
    (settleLost (upPorts s) u).gate = { s.gate with exitReady := false, recent := [] } ∧
      (settleLost (upPorts s) u).yard = s.yard := by
  have halike : Alike (roleLost exitPort u) (exitLost u) := Alike.refl
  rw [h.settleLost_alone halike rfl]
  refine ⟨?_, halike.yard.trans h.yard_eq⟩
  rw [halike.gate, ← h.gate_eq]
  rfl

end Sys2Proof.Machine

/-! PROOFS. The plant told of its port's loss (R133, R135). -/

namespace Sys2Proof.Machine

/-! ### The tanks' qualities open (R135) -/

/-- A fitted tank's quality is known. -/
def qualityKnown (k : TankId) (s : State) : Bool := tankFitted k s && s.water.tanks[k].quality != .uncertain

/-- A tank whose quality is open. -/
def opened (t : Tank) : Tank := { t with quality := .uncertain }

/-- The state with one tank's quality open, if it was known. -/
def openTank (k : TankId) (s : State) : State :=
  if qualityKnown k s then drawn (drawn (putTank k opened s)) else s

theorem tankLost_known {k : TankId} {s : State} (h : qualityKnown k s = true) :
    ∃ n, tankLost k s = drawn (drawn (notify n (setTankWith k opened s))) := ⟨_, if_pos h⟩

theorem tankLost_unknown {k : TankId} {s : State} (h : qualityKnown k s = false) : tankLost k s = s :=
  if_neg (by rw [show (tankFitted k s && s.water.tanks[k].quality != .uncertain) = false from h]; nofun)

theorem openTank_known {k : TankId} {s : State} (h : qualityKnown k s = true) :
    openTank k s = drawn (drawn (putTank k opened s)) := if_pos h

theorem openTank_unknown {k : TankId} {s : State} (h : qualityKnown k s = false) : openTank k s = s :=
  if_neg (by rw [h]; nofun)

theorem alike_tankLost {k : TankId} {s t : State} (h : Alike s t) : Alike (tankLost k s) (openTank k t) := by
  have hknown : qualityKnown k s = qualityKnown k t := h.reads (qualityKnown k)
  cases hq : qualityKnown k t with
  | true =>
    obtain ⟨n, hlost⟩ := tankLost_known (hknown.trans hq)
    rw [hlost, openTank_known hq]
    exact ((h.setTankWith k opened).notify n).drawn.drawn
  | false =>
    rw [tankLost_unknown (hknown.trans hq), openTank_unknown hq]
    exact h

/-- The states that differ in the tanks and the open values alone. -/
structure TanksOnly (s t : State) : Prop where
  rest : t = { s with water := { s.water with tanks := t.water.tanks }, free := t.free }
  tank : ∀ k : TankId, opened t.water.tanks[k] = opened s.water.tanks[k]

namespace TanksOnly

variable {s t u : State}

theorem refl : TanksOnly s s := ⟨rfl, fun _ => rfl⟩

theorem trans (h : TanksOnly s t) (h' : TanksOnly t u) : TanksOnly s u := by
  refine ⟨?_, fun k => (h'.tank k).trans (h.tank k)⟩
  rw [h'.rest, h.rest]

theorem fitted (h : TanksOnly s t) (k : TankId) : tankFitted k t = tankFitted k s := by
  rw [h.rest]
  rfl

theorem openTank (k : TankId) (s : State) : TanksOnly s (openTank k s) := by
  unfold Machine.openTank
  split
  · refine ⟨rfl, fun j => ?_⟩
    show opened (putTank k opened s).water.tanks[j] = _
    by_cases hkj : k = j
    · subst hkj
      rw [getElem_putTank_self]
      rfl
    · rw [getElem_putTank_ne hkj]
  · exact refl

end TanksOnly

theorem quality_openTank_self {k : TankId} {s : State} (hfit : tankFitted k s = true) :
    (openTank k s).water.tanks[k].quality = .uncertain := by
  unfold openTank
  split
  · show (putTank k opened s).water.tanks[k].quality = _
    rw [getElem_putTank_self]
    rfl
  · next hknown => simpa [qualityKnown, hfit] using hknown

theorem tank_openTank_ne {k j : TankId} (hkj : k ≠ j) (s : State) : (openTank k s).water.tanks[j] = s.water.tanks[j] := by
  unfold openTank
  split
  · exact getElem_putTank_ne hkj ..
  · rfl

theorem qualityKnown_openTank_ne {k j : TankId} (hkj : k ≠ j) (s : State) :
    qualityKnown j (openTank k s) = qualityKnown j s := by
  unfold qualityKnown
  rw [(TanksOnly.openTank k s).fitted, tank_openTank_ne hkj]

theorem quality_openTank {k j : TankId} {s : State} (h : s.water.tanks[j].quality = .uncertain) :
    (openTank k s).water.tanks[j].quality = .uncertain := by
  by_cases hkj : k = j
  · subst hkj
    unfold openTank
    rw [qualityKnown, h]
    simpa using h
  · rw [tank_openTank_ne hkj]
    exact h

/-- The state with the qualities of some tanks open. -/
def openTanks (l : List TankId) (s : State) : State := l.foldl (fun acc k => openTank k acc) s

theorem tanksOnly_openTanks (l : List TankId) (s : State) : TanksOnly s (openTanks l s) := by
  induction l generalizing s with
  | nil => exact .refl
  | cons k l ih => exact (TanksOnly.openTank k s).trans (ih _)

theorem quality_openTanks_of_uncertain {l : List TankId} {j : TankId} {s : State} (h : s.water.tanks[j].quality = .uncertain) :
    (openTanks l s).water.tanks[j].quality = .uncertain := by
  induction l generalizing s with
  | nil => exact h
  | cons k l ih => exact ih (quality_openTank h)

theorem quality_openTanks {l : List TankId} {j : TankId} {s : State} (hj : j ∈ l) (hfit : tankFitted j s = true) :
    (openTanks l s).water.tanks[j].quality = .uncertain := by
  induction l generalizing s with
  | nil => cases hj
  | cons k l ih =>
    by_cases hkj : j = k
    · subst hkj
      exact quality_openTanks_of_uncertain (s := openTank j s) (quality_openTank_self hfit)
    · exact ih (List.mem_of_ne_of_mem hkj hj) (((TanksOnly.openTank k s).fitted j).trans hfit)

theorem alike_tanksLost {l : List TankId} {s t : State} (h : Alike s t) :
    Alike (l.foldl (fun acc k => tankLost k acc) s) (openTanks l t) := by
  induction l generalizing s t with
  | nil => exact h
  | cons k l ih => exact ih (alike_tankLost h)

/-- One notice for each tank whose quality was known. -/
theorem ringing_tanksLost {l : List TankId} (hl : l.Nodup) {n c : Nat} {a s t : State} (ha : Alike s t)
    (h : Ringing (n + 3 * l.length) c a s) :
    Ringing n (c + (l.filter (fun k => qualityKnown k t)).length) a (l.foldl (fun acc k => tankLost k acc) s) := by
  induction l generalizing s t c with
  | nil => exact h
  | cons k l ih =>
    obtain ⟨hk, hl⟩ := List.nodup_cons.1 hl
    have hrest : (l.filter fun j => qualityKnown j (openTank k t)) = l.filter fun j => qualityKnown j t :=
      List.filter_congr fun j hj => qualityKnown_openTank_ne (fun heq : k = j => hk (by rw [heq]; exact hj)) t
    have hknown : qualityKnown k s = qualityKnown k t := ha.reads (qualityKnown k)
    have hlen : n + 3 * (k :: l).length = (n + 3 * l.length) + 3 := by simp [Nat.mul_add, Nat.add_assoc]
    rw [hlen] at h
    cases hq : qualityKnown k t with
    | true =>
      have hone : Ringing (n + 3 * l.length) (c + 1) a (tankLost k s) := by
        have hset : Ringing (n + 3 * l.length + 2) c a (setTankWith k opened s) := h.setTankWith k opened
        obtain ⟨x, hlost⟩ := tankLost_known (hknown.trans hq)
        rw [hlost]
        exact (hset.notify x).drawn.drawn
      have hall := ih hl (alike_tankLost ha) hone
      rw [hrest] at hall
      rw [List.filter_cons_of_pos (p := fun j => qualityKnown j t) hq, List.length_cons, Nat.add_comm _ 1, ← Nat.add_assoc]
      exact hall
    | false =>
      rw [List.filter_cons_of_neg (p := fun j => qualityKnown j t) (by rw [hq]; nofun), List.foldl_cons, tankLost_unknown (hknown.trans hq)]
      exact ih hl ha (h.mono (by omega))

/-! ### The plant (R133, R135) -/

theorem roleLost_plantPort (s : State) : roleLost plantPort s = plantLost s := by
  unfold roleLost
  rw [if_neg (by decide), if_neg (by decide), if_pos rfl]

theorem run_runFailed (r : PumpReq) (s : State) : (runFailed r s).water.run = none := rfl
theorem pumpTimer_runFailed (r : PumpReq) (s : State) : (runFailed r s).water.pumpTimer = none := rfl
theorem pumpQueue_runFailed (r : PumpReq) (s : State) : (runFailed r s).water.pumpQueue =
    pumpInsert { tank := r.tank, kind := r.kind, joined := s.clock.now } s.water.pumpQueue := rfl
theorem grantTable_runFailed (r : PumpReq) (s : State) : (runFailed r s).water.grants = s.water.grants := rfl
theorem bays_runFailed (r : PumpReq) (s : State) : (runFailed r s).bays = s.bays := rfl

theorem quality_runFailed (r : PumpReq) (s : State) (k : TankId) :
    (runFailed r s).water.tanks[k].quality = s.water.tanks[k].quality := by
  by_cases htank : r.tank = k
  · subst htank
    rw [tank_runFailed]
  · have hputs : (runFailed r s).water.tanks[k] = (putTank r.tank (fun t => { t with pumpPending := true })
      (putTank r.tank (fun t => { t with pumpRunning := false }) (runEnded s))).water.tanks[k] := rfl
    rw [hputs, getElem_putTank_ne htank, getElem_putTank_ne htank]
    rfl

theorem ports_runFailed (r : PumpReq) (s : State) : (runFailed r s).ports = s.ports := rfl
theorem waitList_runFailed (r : PumpReq) (s : State) : (runFailed r s).water.waitList = s.water.waitList := rfl

namespace WentDown

variable {reason : DownReason} {x : Port} {s u : State} (h : WentDown plantPort reason x s u)

/-- The plant port DOWN, every fitted tank's quality open. -/
def plantOpen (x : Port) (reason : DownReason) (s : State) : State :=
  openTanks allTanks (putPort plantPort (fun _ => downRecord x reason) s)

theorem tanksOnly_plantOpen (x : Port) (reason : DownReason) (s : State) :
    TanksOnly (putPort plantPort (fun _ => downRecord x reason) s) (plantOpen x reason s) := tanksOnly_openTanks ..

theorem quality_plantOpen {k : TankId} (hfit : tankFitted k s = true) :
    (plantOpen x reason s).water.tanks[k].quality = .uncertain :=
  quality_openTanks (List.mem_finRange k) hfit

include h

/-- The tanks' qualities open, their notices given. -/
theorem alike_tanks : Alike (allTanks.foldl (fun acc k => tankLost k acc) u) (plantOpen x reason s) := alike_tanksLost h.alike

theorem plant_idle (hrun : s.water.run = none) : Alike (settleLost (upPorts s) u) (plantOpen x reason s) := by
  have halike := h.alike_tanks
  have hrest := (tanksOnly_plantOpen x reason s).rest
  have hidle : roleLost plantPort u = allTanks.foldl (fun acc k => tankLost k acc) u := by
    have hnone : (allTanks.foldl (fun acc k => tankLost k acc) u).water.run = none := by
      rw [halike.water, hrest]
      exact hrun
    rw [roleLost_plantPort]
    unfold plantLost failRun
    rw [hnone]
  have ha : Alike (roleLost plantPort u) (plantOpen x reason s) := by
    rw [hidle]
    exact halike
  have hports : (plantOpen x reason s).ports = u.ports := by
    rw [hrest, h.alike.ports]
  rw [h.settleLost_alone ha hports]
  exact ha

section Run

variable {r : PumpReq} (hrun : s.water.run = some r)
include hrun

/-- The run failed and noted, the wait list not yet retried. -/
def plantFailed (r : PumpReq) (u : State) : State :=
  notify (failedNotice 3 r) (runReturned r (allTanks.foldl (fun acc k => tankLost k acc) u))

theorem plantLost_run : roleLost plantPort u = pumpLook (retry (plantFailed r u)) := by
  rw [roleLost_plantPort]
  refine failRun_eq ?_
  rw [h.alike_tanks.water, (tanksOnly_plantOpen x reason s).rest]
  exact hrun

theorem alike_plantFailed : Alike (plantFailed r u) (runFailed r (plantOpen x reason s)) :=
  (alike_runReturned h.alike_tanks).notify _

theorem ports_plantFailed : (plantFailed r u).ports = u.ports := by
  rw [(h.alike_plantFailed hrun).ports, ports_runFailed, (tanksOnly_plantOpen x reason s).rest, h.alike.ports]

/-- The plant's records stand from the failed run to the end of the event. -/
theorem plantSide_settled : plantSide (settleLost (upPorts s) u).water =
    plantSide (runFailed r (plantOpen x reason s)).water := by
  have hd : Downed ⟨False, True⟩ plantPort (plantFailed r u) :=
    ⟨by rw [h.ports_plantFailed hrun]; exact h.down, False.elim, fun _ => rfl⟩
  rw [h.settleLost_eq, h.plantLost_run hrun]
  rw [← (h.alike_plantFailed hrun).water]
  exact (((Spared.refl.retry hd).pumpLook hd).settlePorts hd 10 h.not_mem_erase).plant trivial

theorem plant_alone (hwait : s.water.waitList = []) :
    Alike (settleLost (upPorts s) u) (runFailed r (plantOpen x reason s)) := by
  have halike := h.alike_plantFailed hrun
  have hnil : (plantFailed r u).water.waitList = [] := by
    rw [halike.water, waitList_runFailed, (tanksOnly_plantOpen x reason s).rest]
    exact hwait
  have hrole : roleLost plantPort u = plantFailed r u := by
    rw [h.plantLost_run hrun, retry_of_nil hnil, pumpLook_waits (Or.inl (by rw [h.ports_plantFailed hrun]; exact h.down))]
  rw [← hrole] at halike
  rw [h.settleLost_alone halike ?_]
  · exact halike
  · rw [← halike.ports, hrole, h.ports_plantFailed hrun]

theorem plant_noted (hlen : s.path.queue.length ≤ 32) :
    noticeNth (1 + (allTanks.filter (fun k => qualityKnown k s)).length) (failedNotice 3 r) s.clock.now s
      (settleLost (upPorts s) u) := by
  have htanks : Ringing (16 : Nat) (1 + (allTanks.filter fun k => qualityKnown k s).length) s
      (allTanks.foldl (fun acc k => tankLost k acc) u) := by
    have hknown : ∀ k, qualityKnown k u = qualityKnown k s := fun k => h.alike.reads (qualityKnown k)
    simp only [← hknown]
    exact ringing_tanksLost (List.nodup_finRange 4) (n := 16) Alike.refl (h.noted hlen).1
  have hreturned : Ringing (10 + 2) (1 + (allTanks.filter fun k => qualityKnown k s).length) s
      (runReturned r (allTanks.foldl (fun acc k => tankLost k acc) u)) :=
    (((htanks.setWater _).setTankWith _ _).setTankWith _ _).setWater _
  rw [h.settleLost_eq, h.plantLost_run hrun]
  exact noticeNth_of_run (hreturned.noticed _) (Run.refl (L := {})).retry.pumpLook.settlePorts rfl rfl

end Run

theorem plantPort_lost : plantPortLost s (settleLost (upPorts s) u) := by
  have hrest := (tanksOnly_plantOpen x reason s).rest
  have hquality : ∀ k : TankId, tankFitted k s = true → (plantOpen x reason s).water.tanks[k].quality = .uncertain :=
    fun k => quality_plantOpen
  have hpumps : (plantOpen x reason s).water.pumpQueue = s.water.pumpQueue := by rw [hrest]; rfl
  have hgrants : (plantOpen x reason s).water.grants = s.water.grants := by rw [hrest]; rfl
  have hbays : (plantOpen x reason s).bays = s.bays := by rw [hrest]; rfl
  have hclock : (plantOpen x reason s).clock = s.clock := by rw [hrest]; rfl
  have hidle : s.water.run = none → (plantOpen x reason s).water.run = none := fun hrun => by rw [hrest]; exact hrun
  cases hrun : s.water.run with
  | none =>
    have halike := h.plant_idle hrun
    refine ⟨fun k hfit => ?_, ?_, fun _ => ⟨?_, ?_, ?_⟩, fun r hr => absurd (hrun.symm.trans hr) nofun⟩
    · rw [halike.water]
      exact hquality k hfit
    · rw [halike.water]
      exact hidle hrun
    · rw [halike.water]
      exact hpumps
    · rw [halike.water]
      exact hgrants
    · rw [halike.bays]
      exact hbays
  | some r =>
    have hside := h.plantSide_settled hrun
    have halone := h.plant_alone hrun
    have hnoted := h.plant_noted hrun
    have hrun' : (settleLost (upPorts s) u).water.run = none := (congrArg (fun p => p.1) hside :)
    have htimer : (settleLost (upPorts s) u).water.pumpTimer = none := (congrArg (fun p => p.2.1) hside :)
    have hqueue : (settleLost (upPorts s) u).water.pumpQueue = (runFailed r (plantOpen x reason s)).water.pumpQueue :=
      (congrArg (fun p => p.2.2.1) hside :)
    have htanks := congrArg (fun p => p.2.2.2) hside
    have hfailed := tank_runFailed r (plantOpen x reason s)
    refine ⟨fun k hfit => ?_, hrun', fun hr => absurd (hrun.symm.trans hr) nofun, fun r' hr' => ?_⟩
    · have hk : (settleLost (upPorts s) u).water.tanks[k].quality =
          (runFailed r (plantOpen x reason s)).water.tanks[k].quality := (congrArg Prod.fst (congrFun htanks k) :)
      rw [hk, quality_runFailed]
      exact hquality k hfit
    · obtain rfl : r = r' := Option.some.inj (hrun.symm.trans hr')
      have hpending : (settleLost (upPorts s) u).water.tanks[r.tank].pumpPending =
          (runFailed r (plantOpen x reason s)).water.tanks[r.tank].pumpPending :=
        (congrArg (fun p => p.2.1) (congrFun htanks r.tank) :)
      have hrunning : (settleLost (upPorts s) u).water.tanks[r.tank].pumpRunning =
          (runFailed r (plantOpen x reason s)).water.tanks[r.tank].pumpRunning :=
        (congrArg (fun p => p.2.2) (congrFun htanks r.tank) :)
      refine ⟨htimer, ?_, ?_, ?_, fun hwait => ⟨?_, ?_⟩, hnoted⟩
      · rw [hqueue, pumpQueue_runFailed, hpumps, hclock]
      · rw [hpending, hfailed]
      · rw [hrunning, hfailed]
      · rw [(halone hwait).water, grantTable_runFailed, hgrants]
      · rw [(halone hwait).bays, bays_runFailed, hbays]

end WentDown

end Sys2Proof.Machine

/-! PROOFS. A bay told of its port's loss, by its state (R87, R94, R107, R110). -/

namespace Sys2Proof.Machine

/-! ### The presence is unknown (R94) -/

theorem frame_presence (b : BayId) : Frame fun s => s.bays[b].presence = .unknown where
  besides := fun hb h => by rwa [bays_of_besides hb]
  port := id
  bay := fun {s c x} hx h => by
    by_cases hcb : c = b
    · subst hcb
      have hself : (s.bays.set c x)[c] = x := Vector.getElem_set_self ..
      dsimp only
      rw [hself]
      exact hx.elim (fun he => he.trans h) id
    · have hother : (s.bays.set c x)[b] = s.bays[b] := Vector.getElem_set_ne c.isLt b.isLt (Fin.val_ne_of_ne hcb)
      dsimp only
      rw [hother]
      exact h
  yard := fun _ => id
  water := fun _ => id
  send := fun {s r} _ _ h => by
    have hbays : (sendPump r s).bays = s.bays := by
      obtain ⟨t, ha, hsend⟩ := sendPump_offer r s
      rw [hsend, bays_of_besidesPorts (besidesPorts_offer ..), ha.bays]
      rfl
    rwa [hbays]

theorem presence_plantLost {b : BayId} {s : State} (h : s.bays[b].presence = .unknown) :
    (plantLost s).bays[b].presence = .unknown := by
  have htanks : (allTanks.foldl (fun acc k => tankLost k acc) s).bays = s.bays := by
    rw [(alike_tanksLost (l := allTanks) (Alike.refl (s := s))).bays, (tanksOnly_openTanks allTanks s).rest]
  unfold plantLost
  refine (frame_presence b).failRun 3 (by rw [htanks]; exact h) fun r _ => ?_
  have hreturned := alike_runReturned (r := r) (Alike.refl (s := allTanks.foldl (fun acc k => tankLost k acc) s))
  have hbays := hreturned.bays.trans (bays_runFailed ..)
  show (runReturned r _).bays[b].presence = _
  rw [hbays, htanks]
  exact h

theorem Frame.bayLostIn {I : State → Prop} (F : Frame I) (state : BayState) (b : BayId) {s : State} (h : I s) :
    I (bayLostIn state b s) := by
  unfold Machine.bayLostIn
  split
  · exact F.portLostCall b h
  · exact F.endSession b _ (F.withdraw b h)
  · exact F.portLostPart b h
  · exact F.portLostPart b h
  · exact F.setBayWith b _ h
  all_goals exact h

/-! ### The record of a bay that has lost its port (R110) -/

/-- A bay in use or CLEARING that has lost its port: FAULT, or CLOSED when held after. -/
def faulted (x : Bay) : Bay := { unseen x with state := if x.holdAfter then .closed else .fault, holdAfter := false }

theorem faultOrClosed_unseen (x : Bay) : faultOrClosed (unseen x) = faulted x := by
  cases hold : x.holdAfter with
  | true => simp [faultOrClosed, faulted, unseen, hold]
  | false => simp [faultOrClosed, faulted, unseen, hold]

/-- A bay whose session has ended with its port's loss. -/
def lostSession (x : Bay) : Bay := { faulted x with bound := none, session := none, timer := none }

theorem bayAfter_portLost {x y : Bay} (hy : y.holdAfter = x.holdAfter) (hp : y.presence = .unknown) :
    bayAfter (some .portLost) y = lostSession x := by
  unfold bayAfter
  dsimp only
  rw [if_pos rfl]
  cases hold : x.holdAfter with
  | true => simp [faultOrClosed, lostSession, faulted, unseen, hold, hy, hp]
  | false => simp [faultOrClosed, lostSession, faulted, unseen, hold, hy, hp]

theorem state_lostSession_ne_free (x : Bay) : (lostSession x).state ≠ .free := by
  show (if x.holdAfter then BayState.closed else .fault) ≠ .free
  split <;> nofun

/-- What a session's summary says when its port is lost in a stage (R107). -/
theorem summaryOf_portLost {z : Session} {r : StageRun} (hr : z.stages[z.current]? = some r) (hdone : r.complete = false) :
    summaryOf z (some .portLost) = {
      completed := z.completed, total := z.stages.length, fresh := z.fresh, reclaim := z.reclaim
      detergent := z.detergent + ceilDiv (r.stage.rate * r.elapsed) 60, overrun := z.overrun, abort := some .portLost } := by
  have hend : endDetergent z = ceilDiv (r.stage.rate * r.elapsed) 60 := by
    have hstage : z.stage = some r := hr
    unfold endDetergent
    rw [hstage]
    show (if r.complete then 0 else r.detergent) = _
    rw [hdone]
    rfl
  unfold summaryOf
  rw [hend]

namespace WentDown

variable {b : BayId} {reason : DownReason} {x : Port} {s u : State} (h : WentDown (bayPort b) reason x s u)

/-- The bay's port DOWN, its sightings forgotten. -/
def bayAlone (b : BayId) (x : Port) (reason : DownReason) (s : State) : State :=
  putBay b unseen (putPort (bayPort b) (fun _ => downRecord x reason) s)

theorem bay_bayAlone : (bayAlone b x reason s).bays[b] = unseen s.bays[b] := getElem_putBay_self ..

include h

theorem alike_unseen : Alike (bayUnseen b u) (bayAlone b x reason s) := alike_bayUnseen b h.alike

theorem roleLost_bay : roleLost (bayPort b) u = bayLostIn s.bays[b].state b (bayUnseen b u) := by
  rw [roleLost_bayPort, bayLost_eq, h.bays_eq]

theorem presence_settled : (settleLost (upPorts s) u).bays[b].presence = .unknown := by
  have hunseen : (bayUnseen b u).bays[b].presence = .unknown := by
    rw [h.alike_unseen.bays, bay_bayAlone]
    rfl
  rw [h.settleLost_eq, h.roleLost_bay]
  exact (frame_presence b).settlePorts ((frame_presence b).borne_of_gate id fun _ => presence_plantLost) 10 _
    ((frame_presence b).bayLostIn _ b hunseen)

/-- A bay whose act leaves every other port alone is all that is told. -/
theorem bay_alone {w : State} (ha : Alike (bayLostIn s.bays[b].state b (bayUnseen b u)) w)
    (hports : w.ports = (bayAlone b x reason s).ports) :
    settleLost (upPorts s) u = bayLostIn s.bays[b].state b (bayUnseen b u) := by
  rw [← h.roleLost_bay] at ha ⊢
  exact h.settleLost_alone ha (hports.trans h.alike.ports.symm)

/-! #### A bay with no truck called and no session -/

theorem bay_idle (hstate : s.bays[b].state = .free ∨ s.bays[b].state = .closed ∨ s.bays[b].state = .fault) :
    Alike (settleLost (upPorts s) u) (bayAlone b x reason s) := by
  have hidle : bayLostIn s.bays[b].state b (bayUnseen b u) = bayUnseen b u := by
    rcases hstate with hs | hs | hs <;> rw [hs] <;> rfl
  have ha : Alike (bayLostIn s.bays[b].state b (bayUnseen b u)) (bayAlone b x reason s) := by
    rw [hidle]
    exact h.alike_unseen
  rw [h.bay_alone ha rfl]
  exact ha

theorem bay_clearing (hstate : s.bays[b].state = .clearing) :
    Alike (settleLost (upPorts s) u) (putBay b faultOrClosed (bayAlone b x reason s)) := by
  have ha : Alike (bayLostIn s.bays[b].state b (bayUnseen b u)) (putBay b faultOrClosed (bayAlone b x reason s)) := by
    rw [hstate]
    exact h.alike_unseen.setBayWith b faultOrClosed
  rw [h.bay_alone ha rfl]
  exact ha

/-! #### A bay that has called a truck (R87) -/

section Calling

variable {slot : Slot} {v : Visit} (hstate : s.bays[b].state = .calling) (hbound : s.bays[b].bound = some slot)
  (hv : s.yard.slots[slot] = some v) (hothers : ∀ c : BayId, c ≠ b → s.bays[c].state ≠ .free)

/-- A visit whose call has been withdrawn. -/
def recalled (v : Visit) : Visit := { v with state := .queued, bay := none, callTimer := none }

/-- The bay's side of a call withdrawn. -/
def callGone (y : Bay) : Bay := { faultOrClosed y with bound := none }

/-- The state with the call withdrawn, no visit called. -/
def callLost (slot : Slot) (v : Visit) (b : BayId) (x : Port) (reason : DownReason) (s : State) : State :=
  requeue slot v (putBay b callGone (bayAlone b x reason s))

/-- CALL_WITHDRAWN for a lost port. -/
def withdrawnNotice (slot : Slot) (v : Visit) : Notice :=
  { kind := .callWithdrawn, reason := 1, subject := slot.val, first := v.serial.toNat, second := bayValue v.bay }

include hstate hbound hv

theorem bay_calling_eq : bayLostIn s.bays[b].state b (bayUnseen b u) =
    postVisit slot (arbiter (notify (withdrawnNotice slot v) (requeue slot v (setBayWith b callGone (bayUnseen b u))))) := by
  have hbay : (bayUnseen b u).bays[b].bound = some slot := by
    rw [h.alike_unseen.bays, bay_bayAlone]
    exact hbound
  have hslot : (bayUnseen b u).yard.slots[slot] = some v := by
    rw [h.alike_unseen.yard]
    exact hv
  rw [hstate]
  show portLostCall b (bayUnseen b u) = _
  unfold portLostCall
  rw [hbay, Option.bind_some, hslot]
  rfl

include hothers

theorem nextCall_callLost : nextCall (callLost slot v b x reason s) = none := by
  refine nextCall_of_no_free fun c => ?_
  show (putBay b callGone (bayAlone b x reason s)).bays[c].state ≠ .free
  by_cases hc : c = b
  · subst hc
    rw [getElem_putBay_self, bay_bayAlone]
    show (faultOrClosed (unseen s.bays[c])).state ≠ .free
    rw [faultOrClosed_unseen]
    exact state_lostSession_ne_free s.bays[c]
  · rw [getElem_putBay_ne hc]
    unfold bayAlone
    rw [getElem_putBay_ne hc]
    exact hothers c hc

theorem bay_calling : Alike (settleLost (upPorts s) u) (callLost slot v b x reason s) ∧
    (s.path.queue.length ≤ 32 → noticeNth 1 (withdrawnNotice slot v) s.clock.now s (settleLost (upPorts s) u)) := by
  have hrequeued : Alike (requeue slot v (setBayWith b callGone (bayUnseen b u))) (callLost slot v b x reason s) :=
    (h.alike_unseen.setBayWith b callGone).update (requeue slot v)
  have ha : Alike (bayLostIn s.bays[b].state b (bayUnseen b u)) (callLost slot v b x reason s) := by
    rw [h.bay_calling_eq hstate hbound hv]
    exact ((hrequeued.notify _).arbiter_none (nextCall_callLost h hstate hbound hv hothers)).postVisit slot
  rw [h.bay_alone ha rfl]
  refine ⟨ha, fun hlen => ?_⟩
  have hring : Ringing (24 + 2) 1 s (requeue slot v (setBayWith b callGone (bayUnseen b u))) :=
    (((h.noted hlen).1.setBayWith b unseen).setBayWith b callGone).update rfl rfl rfl
  rw [h.bay_calling_eq hstate hbound hv]
  exact noticeNth_of_run (hring.noticed _) (Run.refl (L := {})).arbiter.postVisit rfl rfl

end Calling

end WentDown

end Sys2Proof.Machine

/-! PROOFS. A session ended by its bay's lost port, and what every role unit does on a loss (R43, R107, R110, R124). -/

namespace Sys2Proof.Machine

namespace WentDown

variable {b : BayId} {reason : DownReason} {x : Port} {s u : State} (h : WentDown (bayPort b) reason x s u)
  {z : Session} {r : StageRun} {v : Visit} (hz : s.bays[b].session = some z) (hv : s.yard.slots[z.slot] = some v)

/-- What the end of a session with PORT_LOST leaves of the yard and of the bays, and the notice of it. -/
def SessionGone (b : BayId) (z : Session) (v : Visit) (m : Summary) (s t : State) : Prop :=
  t.bays = s.bays.set b (lostSession s.bays[b]) ∧ sessionLost b z v m s t

/-- The end of a bay's session on the state that its role unit has reached. -/
theorem session_gone {z : Session} {w t : State} {n : Nat} (ha : Alike w t) (hbays : ∃ f : Bay → Bay,
      t.bays = (putBay b f s).bays ∧ (f s.bays[b]).holdAfter = s.bays[b].holdAfter ∧
      (f s.bays[b]).presence = .unknown ∧ (f s.bays[b]).session = some z)
    (hyard : t.yard = s.yard)
    (hv : s.yard.slots[z.slot] = some v) (hring : s.path.queue.length ≤ 32 → Ringing (n + 4) 1 s w) :
    Alike (endSession b (some .portLost) w) (sessionEnded b (some .portLost) z t) ∧
      SessionGone b z v (summaryOf z (some .portLost)) s (endSession b (some .portLost) w) := by
  obtain ⟨f, hbays, hhold, hpresence, hsession⟩ := hbays
  have hbay : t.bays[b] = f s.bays[b] := by
    rw [hbays]
    exact getElem_putBay_self ..
  have hafter : bayAfter (some .portLost) t.bays[b] = lostSession s.bays[b] := by
    rw [hbay]
    exact bayAfter_portLost hhold hpresence
  have hz' : t.bays[b].session = some z := by rw [hbay]; exact hsession
  have hv' : t.yard.slots[z.slot] = some v := by rw [hyard]; exact hv
  have hcall : (bayAfter (some .portLost) t.bays[b]).state ≠ .free ∨
      nextCall (sessionEnded b (some .portLost) z t) = none := by
    rw [hafter]
    exact Or.inl (state_lostSession_ne_free _)
  have hended := alike_endSession ha hz' hcall
  refine ⟨hended, ?_, ?_, fun hlen => ?_⟩
  · rw [hended.bays]
    show t.bays.set b (bayAfter (some .portLost) t.bays[b]) = _
    rw [hafter, hbays]
    exact Vector.set_set ..
  · rw [hended.yard]
    show ({ t.yard with slots := t.yard.slots.set z.slot ((t.yard.slots[z.slot]).map (visitAfter (some .portLost) z)) } :
      YardUnit) = _
    rw [hv', hyard]
    rfl
  · exact (ringing_endSession ha hz' hv' hcall (hring hlen)).1

include h hz hv

theorem bay_waiting (hstate : s.bays[b].state = .waitingWater) :
    SessionGone b z v (summaryOf z (some .portLost)) s (settleLost (upPorts s) u) ∧
      (settleLost (upPorts s) u).water = { s.water with waitList := s.water.waitList.filter (fun e => e.bay != b) } := by
  have hwithdrawn := alike_withdraw h.alike_unseen b
  obtain ⟨hended, hgone⟩ := session_gone (b := b) (s := s) (n := 22) hwithdrawn
    ⟨unseen, rfl, rfl, rfl, hz⟩ rfl hv
    fun hlen => ((h.noted hlen).1.setBayWith b unseen).setWater _
  have hrole : bayLostIn s.bays[b].state b (bayUnseen b u) = endSession b (some .portLost) (withdraw b (bayUnseen b u)) := by
    rw [hstate]
    rfl
  rw [← hrole] at hended hgone
  rw [h.bay_alone hended rfl]
  exact ⟨hgone, hended.water⟩

section Part

variable {p : Part} (hp : z.part = some p) (hstate : s.bays[b].state = .running ∨ s.bays[b].state = .settling)
  (hwait : s.water.waitList = []) (hpump : s.water.pumpQueue = [])
include hp hstate hwait hpump

/-- The bay's record with its part settled. -/
def partGone (p : Part) (y : Bay) : Bay := { (unseen y).withSession (settleTotals p) with timer := none }

/-- The state with the part settled and its grant handed back. -/
def partHanded (b : BayId) (p : Part) (x : Port) (reason : DownReason) (s : State) : State :=
  handed b p (putBay b (fun y => { y.withSession (settleTotals p) with timer := none }) (bayAlone b x reason s))

theorem bay_inPart : SessionGone b z v (summaryOf (settleTotals p z) (some .portLost)) s (settleLost (upPorts s) u) ∧
    (settleLost (upPorts s) u).water = (partHanded b p x reason s).water := by
  have hset := h.alike_unseen.setBayWith b fun y => { y.withSession (settleTotals p) with timer := none }
  have hhanded : Alike (handSettlement b p (setBayWith b (fun y => { y.withSession (settleTotals p) with timer := none })
      (bayUnseen b u))) (partHanded b p x reason s) := alike_handSettlement hset hwait hpump
  have hbays : (partHanded b p x reason s).bays = (putBay b (partGone p) s).bays := by
    unfold partHanded
    rw [bays_handed]
    unfold bayAlone
    rw [putBay_putBay]
    rfl
  have hyard : (partHanded b p x reason s).yard = s.yard := by
    unfold partHanded
    rw [yard_handed]
    rfl
  have hsession : (partGone p s.bays[b]).session = some (settleTotals p z) := by
    show ((unseen s.bays[b]).withSession (settleTotals p)).session = _
    unfold Bay.withSession
    rw [show (unseen s.bays[b]).session = some z from hz]
  have hhold : (partGone p s.bays[b]).holdAfter = s.bays[b].holdAfter := by
    show ((unseen s.bays[b]).withSession (settleTotals p)).holdAfter = _
    unfold Bay.withSession
    split <;> rfl
  obtain ⟨hended, hgone⟩ := session_gone (b := b) (s := s) (n := 14) hhanded
    ⟨partGone p, hbays, hhold, presence_withSession _ _, hsession⟩ hyard hv fun hlen => by
      refine ringing_handSettlement ?_ ?_ (((h.noted hlen).1.setBayWith b unseen).setBayWith b _)
      · rw [hset.water]
        exact hwait
      · rw [hset.water]
        exact hpump
  have hpart : partOf b (bayUnseen b u) = some p := by
    unfold partOf
    rw [h.alike_unseen.bays, bay_bayAlone, show (unseen s.bays[b]).session = some z from hz]
    exact hp
  have hrole : bayLostIn s.bays[b].state b (bayUnseen b u) = endSession b (some .portLost) (handSettlement b p
      (setBayWith b (fun y => { y.withSession (settleTotals p) with timer := none }) (bayUnseen b u))) := by
    have hlost : bayLostIn s.bays[b].state b (bayUnseen b u) = portLostPart b (bayUnseen b u) := by
      rcases hstate with hs | hs <;> rw [hs] <;> rfl
    rw [hlost]
    unfold portLostPart
    rw [hpart]
  rw [← hrole] at hended hgone
  have hports : (sessionEnded b (some .portLost) (settleTotals p z) (partHanded b p x reason s)).ports =
      (bayAlone b x reason s).ports := by
    show (partHanded b p x reason s).ports = _
    unfold partHanded
    rw [ports_handed]
    rfl
  rw [h.bay_alone hended hports]
  exact ⟨hgone, hended.water⟩

end Part

end WentDown

end Sys2Proof.Machine

/-! PROOFS. A port lost to bad frames, by its link timer or by RESET_PORT, and what its role unit does (R40, R43, R51). -/

namespace Sys2Proof.Machine

namespace WentDown

variable {reason : DownReason} {x : Port} {s u : State}

/-! ### What the bay has done (R110) -/

section Bay

variable {b : BayId} (h : WentDown (bayPort b) reason x s u)
include h

theorem bayPart_lost {z : Session} {r : StageRun} {v : Visit} {p : Part} (hz : s.bays[b].session = some z)
    (hr : z.stages[z.current]? = some r) (hdone : r.complete = false) (hv : s.yard.slots[z.slot] = some v)
    (hstate : s.bays[b].state = .running ∨ s.bays[b].state = .settling) (hp : z.part = some p)
    (hwait : s.water.waitList = []) (hpump : s.water.pumpQueue = []) :
    SessionGone b z v {
        completed := z.completed, total := z.stages.length
        fresh := z.fresh + (if p.source = .fresh then p.last else 0)
        reclaim := z.reclaim + (match p.source with | .tank _ => p.last | .fresh => 0 | .none => 0)
        detergent := z.detergent + ceilDiv (r.stage.rate * r.elapsed) 60
        overrun := z.overrun + (if p.grant.isSome then p.last - p.granted else 0)
        abort := some .portLost } s (settleLost (upPorts s) u) ∧
      (p.grant = none → (settleLost (upPorts s) u).water = s.water) ∧
      (∀ g, s.water.grants[b] = some g → p.grant = some g.number →
        (settleLost (upPorts s) u).water = removedGrant b g p.last s.water) := by
  obtain ⟨hgone, hwater⟩ := h.bay_inPart hz hv hp hstate hwait hpump
  rw [summaryOf_portLost (z := settleTotals p z) hr hdone] at hgone
  refine ⟨hgone, fun hdry => ?_, fun g hg hnumber => ?_⟩
  · rw [hwater]
    unfold partHanded
    rw [handed_of_none hdry]
    rfl
  · have hhanded : partHanded b p x reason s = putWater (removedGrant b g p.last) (putBay b (fun y =>
        { y.withSession (settleTotals p) with timer := none }) (bayAlone b x reason s)) := handed_of_grant hnumber hg
    rw [hwater, hhanded]
    rfl

theorem bayPort_lost : bayPortLost b s (settleLost (upPorts s) u) := by
  refine ⟨h.presence_settled, fun hstate => ?_, fun hstate => ?_, fun slot v hstate hbound hv hothers => ?_,
    fun z r v hz hr hdone hv => ⟨fun hstate => ?_, fun p hstate hp hwait hpump _ => ?_⟩⟩
  · have halike := h.bay_idle hstate
    exact ⟨halike.bays, halike.yard, halike.water⟩
  · have halike := h.bay_clearing hstate
    refine ⟨halike.yard, halike.water, ?_⟩
    rw [halike.bays]
    unfold bayAlone
    rw [putBay_putBay]
    show s.bays.set b (faultOrClosed (unseen s.bays[b])) = _
    rw [faultOrClosed_unseen]
    rfl
  · obtain ⟨halike, hnoted⟩ := h.bay_calling hstate hbound hv hothers
    refine ⟨?_, halike.water, ?_, ?_, hnoted⟩
    · rw [halike.bays]
      show (putBay b callGone (bayAlone b x reason s)).bays = _
      unfold bayAlone
      rw [putBay_putBay]
      show s.bays.set b { faultOrClosed (unseen s.bays[b]) with bound := none } = _
      rw [faultOrClosed_unseen]
      rfl
    · rw [halike.yard]
      rfl
    · rw [halike.yard]
      rfl
  · obtain ⟨⟨hbays, hlost⟩, hwater⟩ := h.bay_waiting hz hv hstate
    rw [summaryOf_portLost hr hdone] at hlost
    exact ⟨hbays, hlost, hwater⟩
  · obtain ⟨⟨hbays, hlost⟩, hdry, hgranted⟩ := h.bayPart_lost hz hr hdone hv hstate hp hwait hpump
    refine ⟨hbays, hlost, hdry, fun g k hg hnumber hsource => ?_, fun g hg hnumber hsource => ?_⟩
    all_goals rw [hgranted g hg hnumber, removedGrant, hsource]

end Bay

/-- The role unit of the port has acted on its loss. -/
theorem roleUnit_lost {p : PortId} (h : WentDown p reason x s u) : roleUnitLost p s (settleLost (upPorts s) u) := by
  refine ⟨fun hp => ?_, fun hp => ?_, fun hp => ?_, fun b hp => ?_⟩
  all_goals subst hp
  · exact entryGate_lost h
  · exact exitGate_lost h
  · exact h.plantPort_lost
  · exact h.bayPort_lost

/-- The end of the event that takes a port DOWN. -/
theorem conclude_eq {p : PortId} (h : WentDown p reason x s u) (hs : steady s) :
    conclude s u = settleLost (upPorts s) u :=
  conclude_eq_settleLost hs h.alike.tally h.running

theorem tidy_eq {p : PortId} (h : WentDown p reason x s u) (hs : steady s) : tidy s u = settleLost (upPorts s) u := by
  have hsteady : steady u := by
    have htally : u.tally = s.tally := h.alike.tally
    unfold steady pendingCount
    rw [htally]
    exact hs
  rw [tidy, pauseCheck_of_steady hsteady]

end WentDown

/-! ### Bad frames (R40) -/

theorem exec_arrival {p : PortId} {f : Sys2Proof.Frame} {c : Instr} {s : State} (hc : c ∈ arrivals p f) :
    exec c s = .next (conclude s (frameArrival p f s)) := by
  simp only [arrivals, List.mem_cons, List.not_mem_nil, or_false] at hc
  rcases hc with rfl | rfl | rfl <;> rfl

/-- A port's record with one more bad frame. -/
def oneMoreBad (x : Port) : Port := { x with badRun := min 8 (x.badRun + 1), inBad := x.inBad + 1 }

theorem conclude_self {s : State} (hs : steady s) (hpart : s.exch.part ≠ .stopping) : conclude s s = s := by
  have hlinks : ∀ p ∈ upPorts s, linkUp p s = true := fun p hp => (List.mem_filter.1 hp).2
  unfold conclude tidy
  rw [pauseCheck_of_steady hs, settleLost_eq_self hlinks, windDown_eq_self (windDownMet_eq_false hpart)]

/-- A write of one port's record that leaves its link is all of its event. -/
theorem conclude_setPort {p : PortId} {f : Port → Port} {s : State} (hc : calm s) (hpart : s.exch.part = .running)
    (hlink : (f s.ports[p]).link = s.ports[p].link) : conclude s (setPort p (f s.ports[p]) s) = setPort p (f s.ports[p]) s ∧
      Alike (setPort p (f s.ports[p]) s) (putPort p f s) := by
  have halike := (Alike.refl (s := s)).setPort p f
  have hended : Ended s (putPort p f s) := ⟨rfl, rfl, fun q hq => (linkUp_putPort hlink).trans hq⟩
  exact ⟨hended.conclude halike (steady_of_calm hc) hpart, halike⟩

section Bad

variable {p : PortId} {f : Sys2Proof.Frame} {c : Instr} {s : State} (hc : c ∈ arrivals p f)
include hc

theorem arrival_unsupervised (hcalm : calm s) (h : supervised s = false) : exec c s = .next s := by
  have hsame : frameArrival p f s = s := by
    unfold frameArrival
    rw [h]
    rfl
  have hpart : s.exch.part ≠ .stopping := fun hstop => by
    unfold supervised at h
    simp [working, hstop] at h
  rw [exec_arrival hc, hsame, conclude_self (steady_of_calm hcalm) hpart]

variable (hpart : s.exch.part = .running)
include hpart

theorem supervised_of_running : supervised s = true := by
  unfold supervised
  simp [working, hpart]

theorem arrival_held (hcalm : calm s) (hheld : s.ports[p].link = .held) :
    ∃ t, exec c s = .next t ∧ t.ports[p] = { s.ports[p] with inDiscarded := s.ports[p].inDiscarded + 1 } ∧
      (∀ q, q ≠ p → t.ports[q] = s.ports[q]) ∧ t.yard = s.yard ∧ t.bays = s.bays ∧ t.water = s.water := by
  have hframe : frameArrival p f s = setPort p (discardInbound s.ports[p]) s := by
    unfold frameArrival
    rw [supervised_of_running hc hpart, if_pos hheld]
    rfl
  obtain ⟨hend, halike⟩ := conclude_setPort (p := p) (f := discardInbound) hcalm hpart rfl
  refine ⟨_, exec_arrival hc, ?_⟩
  rw [hframe, hend]
  refine ⟨?_, fun q hq => ?_, halike.yard, halike.bays, halike.water⟩
  · rw [halike.ports, getElem_putPort_self]
    rfl
  · rw [halike.ports, getElem_putPort_ne hq]

variable (hlink : s.ports[p].link ≠ .held) (hbad : goodFrame p f = false)
include hlink hbad

theorem frameArrival_bad : frameArrival p f s = badArrival p s := by
  unfold frameArrival
  rw [supervised_of_running hc hpart, hbad, if_neg hlink]
  rfl

/-- A bad frame that leaves the port as it is. -/
theorem arrival_bad_counted (hcalm : calm s) (hstays : s.ports[p].link = .down ∨ s.ports[p].badRun < 7) :
    ∃ t, exec c s = .next t ∧ t.ports[p] = oneMoreBad s.ports[p] ∧ ∀ q, q ≠ p → t.ports[q] = s.ports[q] := by
  have hframe : badArrival p s = setPort p (oneMoreBad s.ports[p]) s := by
    unfold badArrival
    dsimp only
    refine if_neg fun ⟨hrun, hup⟩ => ?_
    rcases hstays with hdown | hfew
    · rw [hup] at hdown
      cases hdown
    · omega
  obtain ⟨hend, halike⟩ := conclude_setPort (p := p) (f := oneMoreBad) hcalm hpart rfl
  refine ⟨_, exec_arrival hc, ?_⟩
  rw [frameArrival_bad hc hpart hlink hbad, hframe, hend]
  refine ⟨?_, fun q hq => ?_⟩
  · rw [halike.ports, getElem_putPort_self]
  · rw [halike.ports, getElem_putPort_ne hq]

/-- The bad frame that takes the port DOWN. -/
theorem wentDown_badArrival (hcalm : calm s) (hup : s.ports[p].link = .up) (hmany : 7 ≤ s.ports[p].badRun) :
    WentDown p .badFrames (oneMoreBad s.ports[p]) s (frameArrival p f s) := by
  have hself : (setPort p (oneMoreBad s.ports[p]) s).ports[p] = oneMoreBad s.ports[p] := by
    rw [((Alike.refl (s := s)).setPort p oneMoreBad).ports, getElem_putPort_self]
  have hframe : frameArrival p f s = portDown p .badFrames (setPort p (oneMoreBad s.ports[p]) s) := by
    rw [frameArrival_bad hc hpart hlink hbad]
    unfold badArrival
    dsimp only
    exact if_pos ⟨by omega, hup⟩
  rw [hframe]
  refine ⟨hpart, hup, rfl, ?_, fun hlen => ?_⟩
  · have hput : putPort p (fun y => downRecord y .badFrames) (putPort p oneMoreBad s) =
        putPort p (fun _ => downRecord (oneMoreBad s.ports[p]) .badFrames) s := by
      unfold putPort
      simp
    rw [← hput]
    exact alike_portDown ((Alike.refl (s := s)).setPort p oneMoreBad)
  · have hring : Ringing (29 + 2) 0 s (setPort p (oneMoreBad s.ports[p]) s) := (Ringing.calm hcalm hpart hlen).setPort _ _
    have hset : Ringing (28 + 2) 0 s (setPort p (downRecord (setPort p (oneMoreBad s.ports[p]) s).ports[p] .badFrames)
      (setPort p (oneMoreBad s.ports[p]) s)) := hring.setPort _ _
    exact ⟨hset.notify _, hset.noticed _⟩

end Bad

/-- Settles O22. -/
theorem badAndUnsupervisedFrames : Obligations.BadAndUnsupervisedFrames := by
  refine ⟨fun p f c s hc hcalm => ⟨arrival_unsupervised hc hcalm, fun hpart => arrival_held hc hpart hcalm⟩,
    fun p f c s hc hq hlink hbad => ?_⟩
  obtain ⟨hcalm, hpart, -⟩ := hq
  by_cases hstays : s.ports[p].link = .down ∨ s.ports[p].badRun < 7
  · obtain ⟨t, hexec, hport, hothers⟩ := arrival_bad_counted hc hpart hlink hbad hcalm hstays
    refine ⟨t, hexec, ?_, ?_, fun hup hmany => ?_, fun _ => ⟨hport, hothers⟩⟩
    · rw [hport]
      rfl
    · rw [hport]
      rfl
    · rcases hstays with hdown | hfew
      · rw [hup] at hdown
        cases hdown
      · omega
  · have hup : s.ports[p].link = .up := by
      cases hl : s.ports[p].link with
      | up => rfl
      | down => exact absurd (Or.inl hl) hstays
      | held => exact absurd hl hlink
    have hmany : 7 ≤ s.ports[p].badRun := by
      by_contra hfew
      exact hstays (Or.inr (by omega))
    have hdown := wentDown_badArrival hc hpart hlink hbad hcalm hup hmany
    obtain ⟨n, hport⟩ := hdown.port_kept
    refine ⟨_, exec_arrival hc, ?_⟩
    rw [hdown.conclude_eq (steady_of_calm hcalm)]
    refine ⟨?_, ?_, fun _ _ => ⟨hdown.flushed, hdown.roleUnit_lost⟩, fun h => absurd h hstays⟩
    · rw [hport]
      rfl
    · rw [hport]
      rfl

end Sys2Proof.Machine

/-! PROOFS. LINK_TIMER and RESET_PORT (R42, R43, R51). -/

namespace Sys2Proof.Machine

/-! ### What an event's end leaves of its statements -/

/-- The state after the rows that end an event: the same units, each notice as it stood. -/
structure Outlives (s t u : State) : Prop where
  units : sameUnits t u
  notice : ∀ {k : Nat} {n : Notice}, noticeNth k n s.clock.now s t → noticeNth k n s.clock.now s u

theorem noticeNth_order_end {k : Nat} {n : Notice} {now : Stamp} {r : Result} {s t : State} (h : noticeNth k n now s t) :
    noticeNth k n now s (fetchOrder (finishOrder r t)) := by
  refine ⟨fun hroom => ?_, fun hfull => ?_⟩
  · exact ((Run.refl (L := { rows := true })).finishOrder rfl).fetchOrder rfl |>.asked rfl (h.1 hroom)
  · rw [exch_fetchOrder, exch_finishOrder]
    exact h.2 hfull

theorem outlives_order {r : Result} {s t : State} : Outlives s t (fetchOrder (finishOrder r t)) :=
  ⟨sameUnits_of_besides (besides_order_end ..), noticeNth_order_end⟩

namespace Outlives

variable {s t u : State} (h : Outlives s t u)
include h

theorem flushed {p : PortId} {reason : DownReason} (hf : portFlushed p reason s t) : portFlushed p reason s u := by
  obtain ⟨-, -, hports, -⟩ := h.units
  unfold portFlushed at hf ⊢
  rw [hports]
  obtain ⟨h1, h2, h3, h4, h5, h6, h7, h8, h9, h10, h11, h12, hn⟩ := hf
  exact ⟨h1, h2, h3, h4, h5, h6, h7, h8, h9, h10, h11, h12, fun hlen => h.notice (hn hlen)⟩

theorem sessionLost {b : BayId} {z : Session} {v : Visit} {m : Summary} (hl : sessionLost b z v m s t) :
    sessionLost b z v m s u := by
  obtain ⟨-, -, -, -, hyard, -⟩ := h.units
  exact ⟨hyard.trans hl.1, fun hlen => h.notice (hl.2 hlen)⟩

theorem bayPortLost {b : BayId} (hb : bayPortLost b s t) : bayPortLost b s u := by
  obtain ⟨-, -, -, -, hyard, hbays, hwater, -⟩ := h.units
  unfold Machine.bayPortLost at hb ⊢
  rw [hyard, hbays, hwater]
  obtain ⟨hpresence, hidle, hclearing, hcalling, hsession⟩ := hb
  refine ⟨hpresence, hidle, hclearing, fun slot v hstate hbound hv hothers => ?_, fun z r v hz hr hdone hv => ?_⟩
  · obtain ⟨h1, h2, h3, h4, hn⟩ := hcalling slot v hstate hbound hv hothers
    exact ⟨h1, h2, h3, h4, fun hlen => h.notice (hn hlen)⟩
  · obtain ⟨hwaiting, hpart⟩ := hsession z r v hz hr hdone hv
    refine ⟨fun hstate => ?_, fun p hstate hp hwait hpump hgrant => ?_⟩
    · obtain ⟨h1, hl, h3⟩ := hwaiting hstate
      exact ⟨h1, h.sessionLost hl, h3⟩
    · obtain ⟨h1, hl, h3⟩ := hpart p hstate hp hwait hpump hgrant
      exact ⟨h1, h.sessionLost hl, h3⟩

theorem roleUnitLost {p : PortId} (hr : roleUnitLost p s t) : roleUnitLost p s u := by
  obtain ⟨-, -, -, hgate, hyard, hbays, hwater, -⟩ := h.units
  obtain ⟨hentry, hexit, hplant, hbay⟩ := hr
  refine ⟨fun hp => ?_, fun hp => ?_, fun hp => ?_, fun b hb => h.bayPortLost (hbay b hb)⟩
  · obtain ⟨h1, h2, hn⟩ := hentry hp
    exact ⟨hgate.trans h1, hyard.trans h2, fun q hq hlen => h.notice (hn q hq hlen)⟩
  · obtain ⟨h1, h2⟩ := hexit hp
    exact ⟨hgate.trans h1, hyard.trans h2⟩
  · have hlost := hplant hp
    unfold plantPortLost at hlost ⊢
    rw [hwater, hbays]
    obtain ⟨h1, h2, h3, hrun⟩ := hlost
    refine ⟨h1, h2, h3, fun r hr => ?_⟩
    obtain ⟨h4, h5, h6, h7, h8, hn⟩ := hrun r hr
    exact ⟨h4, h5, h6, h7, h8, fun hlen => h.notice (hn hlen)⟩

end Outlives

/-! ### LINK_TIMER (R42) -/

theorem linkTimer_runs_out {p : PortId} {s : State} (hq : quiet s) (hup : s.ports[p].link = .up)
    (htimer : s.ports[p].timer = some 0) :
    ∃ t, exec (.linkTimer p) s = .next t ∧ portFlushed p .linkTimeout s t ∧ roleUnitLost p s t := by
  obtain ⟨hcalm, hpart, -⟩ := hq
  have hdown := wentDown_portDown (p := p) (reason := .linkTimeout) hcalm hpart hup
  refine ⟨_, ?_, hdown.flushed, hdown.roleUnit_lost⟩
  rw [← hdown.conclude_eq (steady_of_calm hcalm)]
  exact if_pos ⟨hup, htimer⟩

/-! ### RESET_PORT (R51) -/

theorem portOf_val (p : PortId) : portOf p.val = some p := dif_pos p.isLt

section Reset

variable {entry : List Byte} {s : State} (h : orderReady 15 entry s)
include h

theorem resetPort_range (hrange : 10 < arg16 4 entry) :
    ∃ t, exec .resetPort s = .next t ∧ answered .refusedRange s t ∧ sameUnits s t := by
  have hnone : portOf (arg16 4 entry) = none := dif_neg (by omega)
  obtain ⟨hanswer, hunits, -⟩ := orderRow_refused (want := fun k => k == 15) (f := resetPortOrder) (r := .refusedRange) h rfl
    (by unfold resetPortOrder; rw [hnone])
  exact ⟨_, rfl, hanswer, hunits⟩

variable {p : PortId} (hp : p.val = arg16 4 entry)
include hp

theorem resetPort_held (hlink : s.ports[p].link = .held) :
    ∃ t, exec .resetPort s = .next t ∧ answered .refusedState s t ∧ sameUnits s t := by
  obtain ⟨hanswer, hunits, -⟩ := orderRow_refused (want := fun k => k == 15) (f := resetPortOrder) (r := .refusedState) h rfl
    (by
      unfold resetPortOrder
      rw [← hp, portOf_val]
      show (match s.ports[p].link with | .held => _ | .up => _ | .down => _) = _
      rw [hlink])
  exact ⟨_, rfl, hanswer, hunits⟩

theorem resetPort_down (hlink : s.ports[p].link = .down) :
    ∃ t, exec .resetPort s = .next t ∧ answered .done s t ∧ t.ports[p] = resetDown s.ports[p] ∧
      (∀ q, q ≠ p → t.ports[q] = s.ports[q]) ∧ t.yard = s.yard ∧ t.bays = s.bays ∧ t.water = s.water := by
  have halike := (Alike.refl (s := orderTakenUp entry s)).setPort p resetDown
  have hended : Ended s (putPort p resetDown (orderTakenUp entry s)) :=
    ⟨rfl, rfl, fun q hq => (linkUp_putPort (s := orderTakenUp entry s) (p := p) rfl).trans hq⟩
  have hf : resetPortOrder entry (orderTakenUp entry s) =
      (.done, setPort p (resetDown (orderTakenUp entry s).ports[p]) (orderTakenUp entry s)) := by
    have hlink' : (orderTakenUp entry s).ports[p].link = .down := hlink
    unfold resetPortOrder
    rw [← hp, portOf_val]
    dsimp only
    rw [hlink']
  obtain ⟨hanswer, hunits⟩ := Ended.orderRow (want := fun k => k == 15) h rfl hf halike hended h.2.1 rfl rfl
  obtain ⟨-, -, hports, -, hyard, hbays, hwater, -⟩ := hunits
  refine ⟨_, rfl, hanswer, ?_, fun q hq => ?_, hyard, hbays, hwater⟩
  · rw [hports, getElem_putPort_self]
    rfl
  · rw [hports, getElem_putPort_ne hq]
    rfl

theorem resetPort_up (hlink : s.ports[p].link = .up) :
    ∃ t, exec .resetPort s = .next t ∧ answered .done s t ∧ portFlushed p .resetOrder s t ∧ roleUnitLost p s t := by
  obtain ⟨hcalm, hread⟩ := h
  have hcalm' := calm_orderTakenUp hcalm entry
  have hdown := wentDown_portDown (s := orderTakenUp entry s) (p := p) (reason := .resetOrder) hcalm' hread.1 hlink
  have hf : resetPortOrder entry (orderTakenUp entry s) = (.done, portDown p .resetOrder (orderTakenUp entry s)) := by
    have hlink' : (orderTakenUp entry s).ports[p].link = .up := hlink
    unfold resetPortOrder
    rw [← hp, portOf_val]
    dsimp only
    rw [hlink']
  have htidy := hdown.tidy_eq (steady_of_calm hcalm')
  have hkept : kept (portDown p .resetOrder (orderTakenUp entry s)) = kept (orderTakenUp entry s) := kept_portDown ..
  have hend := orderRow_eq (want := fun k => k == 15) hread rfl hf (by
    exact (part_of_kept ((kept_tidy ..).trans hkept)).trans hread.1)
  have hanswer : answered .done s (fetchOrder (finishOrder .done (tidy (orderTakenUp entry s)
      (portDown p .resetOrder (orderTakenUp entry s))))) := by
    refine answered_order_end ?_ ?_
    · exact (congrArg (fun k => k.exch.orderTaken) ((kept_tidy ..).trans hkept) :)
    · exact (congrArg (fun k => k.path.bases) ((kept_tidy ..).trans hkept) :)
  have hflushed : portFlushed p .resetOrder s (settleLost (upPorts (orderTakenUp entry s)) _) := hdown.flushed
  have hlost : roleUnitLost p s (settleLost (upPorts (orderTakenUp entry s)) _) := hdown.roleUnit_lost
  refine ⟨_, congrArg Host.Outcome.next hend, hanswer, ?_, ?_⟩
  · rw [htidy]
    exact outlives_order.flushed hflushed
  · rw [htidy]
    exact outlives_order.roleUnitLost hlost

end Reset

/-- Settles O25. -/
theorem linkTimerAndResetPort : Obligations.LinkTimerAndResetPort := by
  refine ⟨⟨fun p s hq hup htimer => linkTimer_runs_out hq hup htimer, fun p s htimer => ?_⟩,
    fun entry s h => ⟨resetPort_range h, fun p hp => ⟨resetPort_held h hp, resetPort_up h hp, resetPort_down h hp⟩⟩⟩
  exact if_neg fun h => htimer h.2

end Sys2Proof.Machine

/-! PROOFS. A bay's port that comes UP while the arbiter's calls take other ports DOWN (R42, R83, R94). -/

namespace Sys2Proof.Machine

/-- A bay's port has come UP with its record but for what is queued there, at most one frame; of a list of ports, those that
have been lost are at bays with a truck called. -/
structure Rising (b : BayId) (x : Port) (ups : List PortId) (t : State) : Prop where
  port : { t.ports[bayPort b] with outbound := [] } = x
  few : t.ports[bayPort b].outbound.length ≤ 1
  empty : t.bays[b].state = .free → t.ports[bayPort b].outbound = []
  lost : ∀ q ∈ ups, linkUp q t = false → ∃ c : BayId, q = bayPort c ∧ t.bays[c].state = .calling

theorem ports_setPort (p : PortId) (x : Port) (s : State) : (setPort p x s).ports = s.ports.set p x :=
  (congrArg State.ports (besides_setPort p x s) :)

theorem ports_setPort_twice (p : PortId) (x y : Port) (s : State) :
    (setPort p y (setPort p x s)).ports = s.ports.set p y := by
  rw [ports_setPort, ports_setPort]
  exact Vector.set_set ..

theorem ports_offer (p : PortId) (f : QFrame) (s : State) : ∃ x, (offer p f s).ports = s.ports.set p x := by
  unfold offer portDown
  dsimp only
  split
  · split
    · exact ⟨_, ports_setPort ..⟩
    · exact ⟨_, (ports_notify ..).trans (ports_setPort_twice ..)⟩
  · exact ⟨_, ports_setPort ..⟩

/-- A frame offered to one port leaves every other port. -/
theorem port_offer_ne {p q : PortId} (hq : q ≠ p) (f : QFrame) (s : State) : (offer p f s).ports[q] = s.ports[q] := by
  obtain ⟨x, hports⟩ := ports_offer p f s
  rw [hports]
  exact Vector.getElem_set_ne p.isLt q.isLt (Fin.val_ne_of_ne hq.symm)

namespace Rising

variable {b : BayId} {x : Port} {ups : List PortId} {s t : State}

theorem of_eq (h : Rising b x ups s) (hports : t.ports = s.ports) (hbays : t.bays = s.bays) : Rising b x ups t where
  port := by rw [hports]; exact h.port
  few := by rw [hports]; exact h.few
  empty := by rw [hports, hbays]; exact h.empty
  lost := fun q hq hdown => by
    rw [hbays]
    refine h.lost q hq ?_
    unfold linkUp at hdown ⊢
    rw [← hports]
    exact hdown

theorem of_besides (h : Rising b x ups s) (hb : besides t = besides s) : Rising b x ups t :=
  h.of_eq (ports_of_besides hb) (bays_of_besides hb)

theorem erase (h : Rising b x ups s) (q : PortId) : Rising b x (ups.erase q) s :=
  { h with lost := fun r hr => h.lost r (List.mem_of_mem_erase hr) }

/-- A write of another bay's record, whose port is none of those on the list. -/
theorem setBayWith (h : Rising b x ups s) {c : BayId} (hc : c ≠ b) (hups : bayPort c ∉ ups) (f : Bay → Bay) :
    Rising b x ups (setBayWith c f s) := by
  have halike := (Alike.refl (s := s)).setBayWith c f
  have hports : (Machine.setBayWith c f s).ports = s.ports := halike.ports
  have hbays : (Machine.setBayWith c f s).bays = (putBay c f s).bays := halike.bays
  refine ⟨by rw [hports]; exact h.port, by rw [hports]; exact h.few, ?_, fun q hq hdown => ?_⟩
  · rw [hports, hbays, getElem_putBay_ne hc.symm]
    exact h.empty
  · have hlink : linkUp q s = false := by
      unfold linkUp at hdown ⊢
      rw [← hports]
      exact hdown
    obtain ⟨d, hd, hstate⟩ := h.lost q hq hlink
    refine ⟨d, hd, ?_⟩
    have hdc : d ≠ c := fun heq => hups (by rw [← heq, ← hd]; exact hq)
    rw [hbays, getElem_putBay_ne hdc]
    exact hstate

/-- A call to an eligible bay (R85). -/
theorem callVisit (h : Rising b x ups s) {c : BayId} (hup : s.ports[bayPort c].link = .up)
    (hfree : s.bays[c].state = .free) (slot : Slot) (v : Visit) : Rising b x ups (callVisit slot v c s) := by
  have hbays := bays_callVisit slot v c s
  have hself : (Machine.callVisit slot v c s).bays[c].state = .calling := by
    rw [hbays]
    exact congrArg Bay.state (Vector.getElem_set_self ..)
  have hother : ∀ d : BayId, d ≠ c → (Machine.callVisit slot v c s).bays[d] = s.bays[d] := fun d hd => by
    rw [hbays]
    exact Vector.getElem_set_ne c.isLt d.isLt (Fin.val_ne_of_ne hd.symm)
  have hport : ∀ q, q ≠ bayPort c → (Machine.callVisit slot v c s).ports[q] = s.ports[q] := fun q hq => by
    unfold Machine.callVisit
    dsimp only
    rw [port_offer_ne hq]
    simp
  have hcalling : ∀ d : BayId, s.bays[d].state = .calling → (Machine.callVisit slot v c s).bays[d].state = .calling :=
    fun d hd => by
      by_cases hdc : d = c
      · rw [hdc]
        exact hself
      · rw [hother d hdc]
        exact hd
  have hlost : ∀ q ∈ ups, linkUp q (Machine.callVisit slot v c s) = false →
      ∃ d : BayId, q = bayPort d ∧ (Machine.callVisit slot v c s).bays[d].state = .calling := fun q hq hdown => by
    by_cases hqc : q = bayPort c
    · exact ⟨c, hqc, hself⟩
    · unfold linkUp at hdown
      rw [hport q hqc] at hdown
      obtain ⟨d, hd, hstate⟩ := h.lost q hq hdown
      exact ⟨d, hd, hcalling d hstate⟩
  by_cases hcb : c = b
  · subst hcb
    have hnil := h.empty hfree
    have hset := ports_callVisit_of_room hup (by rw [hnil]; decide) slot v
    have hat : (Machine.callVisit slot v c s).ports[bayPort c] = { s.ports[bayPort c] with
        outbound := [signFrame v.serial (signPlate v s)] } := by
      rw [hset, hnil]
      exact Vector.getElem_set_self ..
    refine ⟨?_, ?_, fun hstate => ?_, hlost⟩
    · rw [hat]
      exact h.port
    · rw [hat]
      exact Nat.le_refl 1
    · rw [hself] at hstate
      cases hstate
  · have hat := hport (bayPort b) fun heq => hcb (bayPort_injective heq).symm
    refine ⟨by rw [hat]; exact h.port, by rw [hat]; exact h.few, ?_, hlost⟩
    rw [hat, hother b (Ne.symm hcb)]
    exact h.empty

theorem arbiterCalls (h : Rising b x ups s) (n : Nat) : Rising b x ups (arbiterCalls n s) := by
  induction n generalizing s with
  | zero => exact h
  | succ n ih =>
    cases hcall : nextCall s with
    | none =>
      rw [arbiterCalls_of_none hcall]
      exact h
    | some call =>
      obtain ⟨slot, v, c⟩ := call
      obtain ⟨-, -, -, -, helig, -⟩ := nextCall_eq_some_iff.1 hcall
      rw [arbiterCalls_of_some hcall]
      exact ih (h.callVisit (linkUp_of_eligible helig) (free_of_nextCall hcall) slot v)

theorem arbiter (h : Rising b x ups s) : Rising b x ups (arbiter s) := by
  unfold Machine.arbiter
  split
  · exact h
  · exact h.arbiterCalls 8

/-- A truck's call withdrawn at a bay that has lost its port (R87). -/
theorem portLostCall (h : Rising b x ups s) {c : BayId} (hc : c ≠ b) (hups : bayPort c ∉ ups) :
    Rising b x ups (portLostCall c s) := by
  have hset := h.setBayWith hc hups fun y => { faultOrClosed y with bound := none }
  unfold Machine.portLostCall
  dsimp only
  split
  · exact hset
  · next slot v _ =>
    have hrequeued : Rising b x ups (requeue slot v (Machine.setBayWith c (fun y => { faultOrClosed y with bound := none }) s)) :=
      hset.of_eq rfl rfl
    exact ((hrequeued.of_besides (besides_notify ..)).arbiter).of_besides (besides_postVisit ..)

/-- The ports lost are told one after another. -/
theorem settlePorts (h : Rising b x ups s) (hb : bayPort b ∉ ups) (hnodup : ups.Nodup) (n : Nat) :
    ∃ ups', Rising b x ups' (settlePorts n ups s) := by
  induction n generalizing ups s with
  | zero => exact ⟨ups, h⟩
  | succ n ih =>
    unfold Machine.settlePorts
    split
    · exact ⟨ups, h⟩
    · next q hq =>
      have hdown : linkUp q s = false := by simpa using List.find?_some hq
      obtain ⟨c, hc, hstate⟩ := h.lost q (List.mem_of_find?_eq_some hq) hdown
      have hcb : c ≠ b := fun heq => hb (by rw [← heq, ← hc]; exact List.mem_of_find?_eq_some hq)
      have hgone : bayPort c ∉ ups.erase q := fun hmem => (hnodup.mem_erase_iff.1 hmem).1 hc.symm
      have hrole : roleLost q s = Machine.portLostCall c (bayUnseen c s) := by
        rw [hc, roleLost_bayPort, bayLost_eq, hstate]
        rfl
      rw [hrole]
      refine ih (((h.erase q).setBayWith hcb hgone unseen).portLostCall hcb hgone) ?_ (hnodup.erase q)
      exact fun hmem => hb (List.mem_of_mem_erase hmem)

end Rising

end Sys2Proof.Machine

/-! PROOFS. A good frame's arrival by its kind and the port's link (R41, R42, R46, R47, R48). -/

namespace Sys2Proof.Machine

/-! ### A port's record as a good frame arrives (R41, R46, R48) -/

theorem accepted_of_running {s : State} (hpart : s.exch.part = .running) : accepted s = true := by
  unfold accepted
  simp [working, hpart]

theorem linkTimerStart_of_running {s : State} (hpart : s.exch.part = .running) :
    linkTimerStart s = some s.latched.linkTimeout := by
  unfold linkTimerStart
  rw [accepted_of_running hpart]
  rfl

theorem working_of_running {s : State} (hpart : s.exch.part = .running) : working s = true := by
  unfold working
  rw [hpart]
  rfl

/-- The record of a port UP with a good frame counted. -/
def counted (l : Latched) (x : Port) : Port := { x with badRun := 0, inGood := x.inGood + 1, timer := some l.linkTimeout }

theorem goodRecord_up {p : PortId} {s : State} (hpart : s.exch.part = .running) (hup : s.ports[p].link = .up) :
    goodRecord s.ports[p] s = counted s.latched s.ports[p] := by
  unfold goodRecord
  rw [if_pos hup, linkTimerStart_of_running hpart]
  rfl

/-- The record with one more frame in its queue, its hold flag and its flow frame aside. -/
theorem joinInbound_spec (f : QFrame) (l : Latched) (x : Port) :
    { joinInbound f l x with hold := x.hold, flow := x.flow, flowSending := x.flowSending } =
      { x with inbound := x.inbound ++ [f] } ∧
    (x.hold = false → (joinInbound f l x).hold = decide (32 - (x.inbound.length + 1) ≤ l.holdMargin)) := by
  unfold joinInbound
  dsimp only
  refine ⟨?_, fun hhold => ?_⟩
  · split <;> rfl
  · split
    · next hset =>
      rw [Bool.and_eq_true] at hset
      have hmargin : 32 - (x.inbound ++ [f]).length ≤ l.holdMargin := of_decide_eq_true hset.2
      rw [List.length_append] at hmargin
      exact (decide_eq_true hmargin).symm
    · next hset =>
      rw [hhold, Bool.not_false, Bool.true_and] at hset
      have hmargin : ¬ 32 - (x.inbound ++ [f]).length ≤ l.holdMargin := fun h => hset (decide_eq_true h)
      rw [List.length_append] at hmargin
      exact hhold.trans (decide_eq_false hmargin).symm

/-! ### A frame for a role unit (R46, R47) -/

/-- The frame that a role unit takes. -/
def roleFrame (f : Sys2Proof.Frame) : QFrame := { kind := f.kind, payload := f.payload }

section Arrival

variable {p : PortId} {f : Sys2Proof.Frame} {c : Instr} {s : State}

theorem frameForRole_up (hpart : s.exch.part = .running) (hup : s.ports[p].link = .up) : frameForRole p (roleFrame f) s =
    if s.ports[p].inbound.length < 32 then
      setPort p (joinInbound (roleFrame f) s.latched (counted s.latched s.ports[p])) s
    else overflowArrival p f.kind (counted s.latched s.ports[p]) s := by
  unfold frameForRole
  dsimp only
  rw [goodRecord_up hpart hup]
  exact if_pos ⟨hup, working_of_running hpart⟩

theorem frameForRole_down (hdown : s.ports[p].link = .down) : frameForRole p (roleFrame f) s =
    setPort p (discardInbound { s.ports[p] with badRun := 0, inGood := s.ports[p].inGood + 1 }) s := by
  have hrecord : goodRecord s.ports[p] s = { s.ports[p] with badRun := 0, inGood := s.ports[p].inGood + 1 } := by
    unfold goodRecord
    rw [if_neg (by rw [hdown]; nofun)]
  unfold frameForRole
  dsimp only
  rw [hrecord]
  exact if_neg fun h => by
    have hup : s.ports[p].link = .up := h.1
    rw [hdown] at hup
    cases hup

variable (hc : c ∈ arrivals p f) (hq : quiet s) (hgood : goodFrame p f = true)
include hc hq hgood

theorem exec_good (hlink : s.ports[p].link ≠ .held) : exec c s = .next (conclude s (goodArrival p f s)) := by
  have hframe : frameArrival p f s = goodArrival p f s := by
    unfold frameArrival
    rw [supervised_of_running hc hq.2.1, hgood, if_neg hlink]
    rfl
  rw [exec_arrival hc, hframe]

theorem exec_role (hkind : f.kind ≠ Kind.status) (hlink : s.ports[p].link ≠ .held) :
    exec c s = .next (conclude s (frameForRole p (roleFrame f) s)) := by
  have hrole : goodArrival p f s = frameForRole p (roleFrame f) s := if_neg hkind
  rw [exec_good hc hq hgood hlink, hrole]

theorem arrival_joins (hkind : f.kind ≠ Kind.status) (hup : s.ports[p].link = .up) (hroom : s.ports[p].inbound.length < 32) :
    ∃ t, exec c s = .next t ∧
      t.ports[p].inbound = s.ports[p].inbound ++ [{ kind := f.kind, payload := f.payload }] ∧
      t.ports[p].inGood = s.ports[p].inGood + 1 ∧ t.ports[p].badRun = 0 ∧
      t.ports[p].timer = some s.latched.linkTimeout ∧ t.ports[p].link = .up ∧
      (s.ports[p].hold = false → t.ports[p].hold =
        decide (32 - (s.ports[p].inbound.length + 1) ≤ s.latched.holdMargin)) ∧
      t.yard = s.yard ∧ t.bays = s.bays ∧ t.water = s.water ∧ t.gate = s.gate := by
  obtain ⟨hrecord, hhold⟩ := joinInbound_spec (roleFrame f) s.latched (counted s.latched s.ports[p])
  have hlink : (joinInbound (roleFrame f) s.latched (counted s.latched s.ports[p])).link = s.ports[p].link :=
    (congrArg Port.link hrecord :)
  obtain ⟨hend, halike⟩ := conclude_setPort (p := p)
    (f := fun y => joinInbound (roleFrame f) s.latched (counted s.latched y)) hq.1 hq.2.1 hlink
  refine ⟨_, exec_role hc hq hgood hkind (by rw [hup]; nofun), ?_⟩
  rw [frameForRole_up hq.2.1 hup, if_pos hroom, hend, halike.ports, getElem_putPort_self]
  refine ⟨?_, ?_, ?_, ?_, hlink.trans hup, hhold, halike.yard, halike.bays, halike.water, halike.gate⟩
  · exact (congrArg Port.inbound hrecord :)
  · exact (congrArg Port.inGood hrecord :)
  · exact (congrArg Port.badRun hrecord :)
  · exact (congrArg Port.timer hrecord :)

/-- The record of a port whose queue was full as a good frame arrived. -/
def overflowed (l : Latched) (x : Port) : Port := { discardInbound (counted l x) with overflow := true }

theorem arrival_overflows (hkind : f.kind ≠ Kind.status) (hup : s.ports[p].link = .up)
    (hfull : 32 ≤ s.ports[p].inbound.length) :
    ∃ t, exec c s = .next t ∧ t.ports[p].inbound = s.ports[p].inbound ∧ t.ports[p].overflow = true ∧
      t.ports[p].inDiscarded = s.ports[p].inDiscarded + 1 ∧ t.ports[p].inGood = s.ports[p].inGood + 1 ∧
      (s.ports[p].overflow = false →
        noticeGiven { kind := .portOverflow, subject := p.val, first := f.kind.toNat }
          (setPort p t.ports[p] s) t ∨ busy .exchange (setPort p t.ports[p] s) = true) := by
  have hset := (Alike.refl (s := s)).setPort p (overflowed s.latched)
  have hframe : frameForRole p (roleFrame f) s = if s.ports[p].overflow then setPort p (overflowed s.latched s.ports[p]) s
      else notify { kind := .portOverflow, subject := p.val, first := f.kind.toNat }
        (setPort p (overflowed s.latched s.ports[p]) s) := by
    rw [frameForRole_up hq.2.1 hup, if_neg (by omega)]
    rfl
  have halike : Alike (frameForRole p (roleFrame f) s) (putPort p (overflowed s.latched) s) := by
    rw [hframe]
    split
    · exact hset
    · exact hset.notify _
  have hended : Ended s (putPort p (overflowed s.latched) s) :=
    ⟨rfl, rfl, fun q hlink => (linkUp_putPort (s := s) (p := p) (f := overflowed s.latched) rfl).trans hlink⟩
  have hport : (frameForRole p (roleFrame f) s).ports[p] = overflowed s.latched s.ports[p] := by
    rw [halike.ports, getElem_putPort_self]
  refine ⟨_, exec_role hc hq hgood hkind (by rw [hup]; nofun), ?_⟩
  rw [hended.conclude halike (steady_of_calm hq.1) hq.2.1, hport]
  refine ⟨rfl, rfl, rfl, rfl, fun hno => ?_⟩
  rw [hframe, hno]
  cases hbusy : busy .exchange (setPort p (overflowed s.latched s.ports[p]) s) with
  | true => exact Or.inr rfl
  | false =>
    refine Or.inl (noticeGiven_notify ?_ hbusy _)
    exact accepted_of_running (hset.part.trans hq.2.1)

theorem arrival_discarded (hkind : f.kind ≠ Kind.status) (hdown : s.ports[p].link = .down) :
    ∃ t, exec c s = .next t ∧ t.ports[p].inbound = s.ports[p].inbound ∧ t.ports[p].link = .down ∧
      t.ports[p].inDiscarded = s.ports[p].inDiscarded + 1 ∧ t.ports[p].badRun = 0 := by
  obtain ⟨hend, halike⟩ := conclude_setPort (p := p)
    (f := fun y => discardInbound { y with badRun := 0, inGood := y.inGood + 1 }) hq.1 hq.2.1 rfl
  refine ⟨_, exec_role hc hq hgood hkind (by rw [hdown]; nofun), ?_⟩
  rw [frameForRole_down hdown, hend, halike.ports, getElem_putPort_self]
  exact ⟨rfl, hdown, rfl, rfl⟩

/-! ### STATUS (R41, R42) -/

theorem exec_status (hkind : f.kind = Kind.status) (hlink : s.ports[p].link ≠ .held) :
    exec c s = .next (conclude s (statusArrival p f.payload s)) := by
  have hstatus : goodArrival p f s = statusArrival p f.payload s := if_pos hkind
  rw [exec_good hc hq hgood hlink, hstatus]

theorem status_up (hkind : f.kind = Kind.status) (hup : s.ports[p].link = .up) :
    ∃ t, exec c s = .next t ∧ t.ports[p] = { s.ports[p] with
      badRun := 0, inGood := s.ports[p].inGood + 1, timer := some s.latched.linkTimeout,
      station := some (stationOf f.payload) } := by
  have hframe : statusArrival p f.payload s =
      setPort p { counted s.latched s.ports[p] with station := some (stationOf f.payload) } s := by
    unfold statusArrival
    dsimp only
    rw [if_neg (by rw [hup]; nofun), goodRecord_up hq.2.1 hup]
  obtain ⟨hend, halike⟩ := conclude_setPort (p := p)
    (f := fun y => { counted s.latched y with station := some (stationOf f.payload) }) hq.1 hq.2.1 rfl
  refine ⟨_, exec_status hc hq hgood hkind (by rw [hup]; nofun), ?_⟩
  rw [hframe, hend, halike.ports, getElem_putPort_self]
  rfl

end Arrival

end Sys2Proof.Machine

/-! PROOFS. A STATUS that brings a port UP, and its role unit told (R42, R55, R69, R94, R135). -/

namespace Sys2Proof.Machine

/-- The record of a port that a STATUS has brought UP. -/
def risen (l : Latched) (station : StationState) (x : Port) : Port :=
  { x with badRun := 0, inGood := x.inGood + 1, station := some station, link := .up, timer := some l.linkTimeout,
           flow := some .go, flowSending := false }

/-- The record with a STATUS counted. -/
def heard (station : StationState) (x : Port) : Port :=
  { x with badRun := 0, inGood := x.inGood + 1, station := some station }

/-- The record brought UP. -/
def lifted (l : Latched) (x : Port) : Port :=
  { x with link := .up, timer := some l.linkTimeout, flow := some .go, flowSending := false }

/-- A port UP, noted, its role unit not told. -/
def risenNoted (p : PortId) (station : StationState) (s : State) : State :=
  let s1 := setPort p { goodRecord s.ports[p] s with station := some station } s
  notify { kind := .portUp, subject := p.val, first := station.code }
    (setPort p { s1.ports[p] with link := .up, timer := linkTimerStart s1, flow := some .go, flowSending := false } s1)

/-- What a role unit's act leaves of its port: all but the frames queued to be sent. -/
def keepsRecord (p : PortId) (x : Port) (t : State) : Prop := { t.ports[p] with outbound := [] } = x

section Risen

variable {p : PortId} {station : StationState} {s : State}

theorem alike_risenNoted (hpart : s.exch.part = .running) (hdown : s.ports[p].link = .down) :
    Alike (risenNoted p station s) (putPort p (risen s.latched station) s) := by
  have hrecord : ({ goodRecord s.ports[p] s with station := some station } : Port) = heard station s.ports[p] := by
    unfold goodRecord heard
    rw [if_neg (by rw [hdown]; nofun)]
  have hfirst := (Alike.refl (s := s)).setPort p (heard station)
  have hstart : linkTimerStart (setPort p (heard station s.ports[p]) s) = some s.latched.linkTimeout := by
    rw [linkTimerStart_of_running (hfirst.part.trans hpart), hfirst.latched]
    rfl
  have hsecond := hfirst.setPort p (lifted s.latched)
  have htwice : putPort p (lifted s.latched) (putPort p (heard station) s) = putPort p (risen s.latched station) s := by
    unfold putPort
    simp [risen, heard, lifted]
  rw [htwice] at hsecond
  unfold risenNoted
  dsimp only
  rw [hrecord, hstart]
  exact hsecond.notify _

theorem statusArrival_down {payload : List Byte} (hpart : s.exch.part = .running) (hdown : s.ports[p].link = .down) :
    statusArrival p payload s = roleUp p (risenNoted p (stationOf payload) s) := by
  have hworking : working (risenNoted p (stationOf payload) s) = true :=
    working_of_running ((alike_risenNoted hpart hdown).part.trans hpart)
  unfold statusArrival
  dsimp only
  rw [if_pos hdown]
  exact if_pos hworking

/-! ### The role unit told (R55, R69, R135) -/

theorem linkUp_risen {q : PortId} (h : linkUp q s = true) : linkUp q (putPort p (risen s.latched station) s) = true := by
  by_cases hq : q = p
  · subst hq
    refine linkUp_of_up ?_
    rw [getElem_putPort_self]
    rfl
  · unfold linkUp
    rw [getElem_putPort_ne hq]
    exact h

theorem port_risen (hempty : s.ports[p].outbound = []) :
    { risen s.latched station s.ports[p] with outbound := [] } = risen s.latched station s.ports[p] := by
  unfold risen
  dsimp only
  rw [hempty]

/-- An act of a role unit that leaves every link UP is all of its event. -/
theorem conclude_risen {u w : State} (hq : quiet s) (halike : Alike u w) (hpause : w.tally = s.tally)
    (hpart : w.exch.part = .running) (hlinks : ∀ q, linkUp q s = true → linkUp q w = true)
    {x : Port} (hport : keepsRecord p x w) : keepsRecord p x (conclude s u) := by
  have hended : Ended s w := ⟨by rw [hpause], by unfold pendingCount; rw [hpause], hlinks⟩
  rw [hended.conclude halike (steady_of_calm hq.1) hpart]
  unfold keepsRecord
  rw [halike.ports]
  exact hport

theorem alike_gateUp {u w : State} (halike : Alike u w) (hp : p = entryPort ∨ p = exitPort) :
    ∃ g, Alike (roleUp p u) { w with gate := g } := by
  rcases hp with rfl | rfl
  · have hup : roleUp entryPort u = entryUp u := if_pos rfl
    rw [hup]
    unfold entryUp
    split
    · exact ⟨_, halike.update (gateWith .ready)⟩
    · exact ⟨w.gate, halike⟩
  · have hup : roleUp exitPort u = exitUp u := by
      unfold roleUp
      rw [if_neg (by decide), if_pos rfl]
    rw [hup]
    exact ⟨_, halike.update exitUp⟩

theorem alike_plantUp {u w : State} (halike : Alike u w) (hup : w.ports[plantPort].link = .up)
    (hempty : w.ports[plantPort].outbound = []) : ∃ w', Alike (roleUp plantPort u) w' ∧ w'.tally = w.tally ∧
      w'.exch.part = w.exch.part ∧ (∀ q, linkUp q w = true → linkUp q w' = true) ∧
      ({ w'.ports[plantPort] with outbound := [] } : Port) = { w.ports[plantPort] with outbound := [] } := by
  have hrole : roleUp plantPort u = pumpLook u := by
    unfold roleUp
    rw [if_neg (by decide), if_neg (by decide), if_pos rfl]
    rfl
  rw [hrole]
  unfold pumpLook
  split
  · split
    · exact ⟨w, halike, rfl, rfl, fun _ => id, rfl⟩
    · next r _ =>
      refine ⟨pumpSentOff r w, alike_sendPump halike hup (by rw [hempty]; decide), rfl, rfl, fun q hlink => ?_, ?_⟩
      · exact (linkUp_putPort (s := runStarted r w) (p := plantPort) rfl).trans hlink
      · have hport : (pumpSentOff r w).ports[plantPort] = { w.ports[plantPort] with
            outbound := w.ports[plantPort].outbound ++ [pumpRunFrame r.tank r.kind] } :=
          getElem_putPort_self ..
        rw [hport]
  · exact ⟨w, halike, rfl, rfl, fun _ => id, rfl⟩

/-! ### A bay told (R94) -/

theorem roleUp_bayPort (b : BayId) (s : State) : roleUp (bayPort b) s = arbiterIfFree b s := by
  unfold roleUp
  rw [if_neg (bayPort_ne_entryPort b), if_neg (bayPort_ne_exitPort b), if_neg (bayPort_ne_plantPort b),
    dif_pos (show 2 ≤ (bayPort b).val ∧ (bayPort b).val < 10 from ⟨Nat.le_add_left .., Nat.add_lt_add_right b.isLt 2⟩)]
  rfl

theorem bay_risen {b : BayId} {u : State} {x : Port} (hq : quiet s) (hdown : s.ports[bayPort b].link ≠ .up)
    (halike : Alike u (putPort (bayPort b) (fun _ => x) s)) (hempty : x.outbound = []) :
    keepsRecord (bayPort b) x (conclude s (roleUp (bayPort b) u)) := by
  have hport : u.ports[bayPort b] = x := by
    rw [halike.ports]
    exact getElem_putPort_self ..
  have hrising : Rising b x (upPorts s) u := by
    refine ⟨?_, ?_, fun _ => ?_, fun q hmem hlost => ?_⟩
    · rw [hport, ← hempty]
    · rw [hport, hempty]
      exact Nat.zero_le 1
    · rw [hport]
      exact hempty
    · have hne : q ≠ bayPort b := fun heq => upPorts_of_down hdown (heq ▸ hmem)
      have hup := (List.mem_filter.1 hmem).2
      have hlink : linkUp q u = linkUp q s := by
        unfold linkUp
        rw [halike.ports, getElem_putPort_ne hne]
      rw [hlink, hup] at hlost
      cases hlost
  have htold : Rising b x (upPorts s) (arbiterIfFree b u) := by
    unfold arbiterIfFree
    split
    · exact hrising.arbiter
    · exact hrising
  have htally : (arbiterIfFree b u).tally = s.tally := (loose_tally s.tally).frame.arbiterIfFree b halike.tally
  have hpart : (arbiterIfFree b u).exch.part = .running :=
    (part_of_kept (kept_arbiterIfFree ..)).trans (halike.part.trans hq.2.1)
  have hnodup : (upPorts s).Nodup := (List.nodup_finRange 11).filter _
  obtain ⟨ups, hend⟩ := htold.settlePorts (upPorts_of_down hdown) hnodup 11
  rw [roleUp_bayPort, conclude_eq_settleLost (steady_of_calm hq.1) htally hpart]
  unfold settleLost
  rw [if_pos (working_of_running hpart)]
  exact hend.port

/-! ### STATUS on a DOWN port (R42) -/

theorem port_cases (p : PortId) : p = entryPort ∨ p = exitPort ∨ p = plantPort ∨ ∃ b, p = bayPort b := by
  revert p
  decide

theorem risen_keeps (hq : quiet s) (hdown : s.ports[p].link = .down) (hempty : s.ports[p].outbound = []) :
    keepsRecord p (risen s.latched station s.ports[p]) (conclude s (roleUp p (risenNoted p station s))) := by
  have halike := alike_risenNoted (station := station) hq.2.1 hdown
  have hself : (putPort p (risen s.latched station) s).ports[p] = risen s.latched station s.ports[p] := getElem_putPort_self ..
  have hrecord : keepsRecord p (risen s.latched station s.ports[p]) (putPort p (risen s.latched station) s) := by
    unfold keepsRecord
    rw [hself]
    exact port_risen hempty
  have hlinks : ∀ q, linkUp q s = true → linkUp q (putPort p (risen s.latched station) s) = true := fun _ => linkUp_risen
  rcases port_cases p with he | hx | hp | ⟨b, hb⟩
  · obtain ⟨g, hgate⟩ := alike_gateUp (p := p) halike (Or.inl he)
    exact conclude_risen hq hgate rfl hq.2.1 hlinks hrecord
  · obtain ⟨g, hgate⟩ := alike_gateUp (p := p) halike (Or.inr hx)
    exact conclude_risen hq hgate rfl hq.2.1 hlinks hrecord
  · subst hp
    obtain ⟨w, hplant, htally, hpart, hkept, hport⟩ := alike_plantUp halike (by rw [hself]; rfl) (by rw [hself]; exact hempty)
    exact conclude_risen hq hplant htally (hpart.trans hq.2.1) (fun q hlink => hkept q (hlinks q hlink)) (hport.trans hrecord)
  · subst hb
    exact bay_risen hq (by rw [hdown]; nofun) halike hempty

end Risen

/-- Settles O23. -/
theorem goodFramesByKind : Obligations.GoodFramesByKind := by
  refine ⟨fun p f c s hc hq hgood hkind => ⟨arrival_joins hc hq hgood hkind, arrival_overflows hc hq hgood hkind,
    arrival_discarded hc hq hgood hkind⟩, fun p f c s hc hq hgood hkind => ⟨status_up hc hq hgood hkind,
    fun hdown hempty => ?_⟩⟩
  refine ⟨_, exec_status hc hq hgood hkind (by rw [hdown]; nofun), ?_⟩
  have hkeeps := risen_keeps (station := stationOf f.payload) hq hdown hempty
  rw [← statusArrival_down hq.2.1 hdown] at hkeeps
  generalize conclude s (statusArrival p f.payload s) = t at hkeeps ⊢
  unfold keepsRecord at hkeeps
  refine ⟨?_, ?_, ?_, ?_, ?_, ?_, ?_⟩
  · exact (congrArg Port.link hkeeps :)
  · exact (congrArg Port.inGood hkeeps :)
  · exact (congrArg Port.badRun hkeeps :)
  · exact (congrArg Port.timer hkeeps :)
  · exact (congrArg Port.flow hkeeps :)
  · exact (congrArg Port.station hkeeps :)
  · exact (congrArg Port.inbound hkeeps :)

end Sys2Proof.Machine

/-! PROOFS. The edit window (chapter 8): the keys, the timers that shut it, and what the Table Unit is told (R142, R143). -/

namespace Sys2Proof.Machine

/-! ### The window's own operations -/

/-- What a window that leaves OPEN leaves in the table. -/
def leftOpen (w : Window) (lockout : Option Nat) (x : TableUnit) : TableUnit :=
  { x with window := w, lifetime := none, lockout := lockout, touched := [] }

/-- What a shut window leaves in the table. -/
def tableShut (x : TableUnit) : TableUnit := { x with window := .shut, lifetime := none, lockout := none }

theorem alike_leaveOpen (u : TableId) (w : Window) (l : Option Nat) (r : Nat) (s : State) :
    Alike (leaveOpen u w l r s) (putTable (leftOpen w l) s) := by
  have hleft : Alike (editWindow r u (setTable (leftOpen w l s.table) s)) (putTable (leftOpen w l) s) :=
    (Alike.refl.setTable (leftOpen w l)).notify _
  unfold leaveOpen
  dsimp only
  split
  · exact hleft
  · exact hleft.notify _

theorem alike_shutWindow (s : State) : Alike (shutWindow s) (putTable tableShut s) := Alike.refl.setTable tableShut

theorem table_leaveOpen (u : TableId) (w : Window) (l : Option Nat) (r : Nat) (s : State) :
    (leaveOpen u w l r s).table = leftOpen w l s.table := (alike_leaveOpen u w l r s).table
theorem table_shutWindow (s : State) : (shutWindow s).table = tableShut s.table := (alike_shutWindow s).table

/-! ### The keys (R142) -/

/-- The table after a key that is acted on. -/
def keyedTable (key : Handed) (lifetime : Nat) (x : TableUnit) : TableUnit :=
  match x.window with
  | .shut =>
    match key with
    | .openFirst u => { x with window := .primed u }
    | _ => x
  | .primed u =>
    if key = .openSecond u then
      { x with window := .opened u, lifetime := some lifetime, touched := [], refusedTouched := false,
               refusedTally := false }
    else { x with window := .lockout, lockout := lockoutTimer }
  | .opened _ => if key = .closeWindow then leftOpen .shut none x else leftOpen .lockout lockoutTimer x
  | .lockout => { x with lockout := lockoutTimer }

theorem keyedTable_lockout {key : Handed} {n : Nat} {x : TableUnit} (hw : x.window = .lockout) :
    keyedTable key n x = { x with lockout := some 60 } := by
  unfold keyedTable
  rw [hw]
  rfl

theorem alike_editKey (key : Handed) (s : State) :
    Alike (editKey key s) (putTable (fun _ => keyedTable key s.latched.editLifetime s.table) s) := by
  cases hw : s.table.window with
  | shut =>
    unfold editKey keyedTable
    rw [hw]
    cases key with
    | openFirst u => exact Alike.refl.setTable fun x => { x with window := .primed u }
    | _ => exact Alike.refl
  | primed u =>
    unfold editKey keyedTable
    rw [hw]
    dsimp only
    split
    · exact (Alike.refl.setTable fun x => { x with
        window := .opened u, lifetime := some s.latched.editLifetime, touched := [], refusedTouched := false,
        refusedTally := false }).notify _
    · exact (Alike.refl.setTable fun x => { x with window := .lockout, lockout := lockoutTimer }).notify _
  | opened u =>
    unfold editKey keyedTable
    rw [hw]
    dsimp only
    split
    · exact alike_leaveOpen u .shut none 3 s
    · exact alike_leaveOpen u .lockout lockoutTimer 2 s
  | lockout =>
    have hedit : editKey key s = setTable { s.table with lockout := lockoutTimer } s := by
      unfold editKey
      split <;> simp_all
    rw [hedit, keyedTable_lockout hw]
    exact Alike.refl.setTable fun x => { x with lockout := lockoutTimer }

theorem exec_editCommand {h : Handed} {c : Instr} {s : State} (hc : editCommand h = some c)
    (hnext : nextHanded s = some h) :
    exec c s = .next (afterTurn [.table] s (editKeyActed h (dropHanded h s))) := by
  cases h with
  | openFirst u =>
    obtain rfl := Option.some.inj hc
    show execOpenFirstKey s = _
    rw [execOpenFirstKey, hnext]
    rfl
  | openSecond u =>
    obtain rfl := Option.some.inj hc
    show execOpenSecondKey s = _
    rw [execOpenSecondKey, hnext]
    rfl
  | closeWindow =>
    obtain rfl := Option.some.inj hc
    show execCloseKey s = _
    rw [execCloseKey, if_pos hnext]
    rfl
  | wrongKey =>
    obtain rfl := Option.some.inj hc
    show execWrongEditKey s = _
    rw [execWrongEditKey, if_pos hnext]
    rfl
  | start | stop | orderPost _ | noticeTaken _ | commit _ _ _ | poolPost _ | serviceFirst | serviceSecond
  | serviceWrong _ => cases hc

/-! ### The timers and what the unit is told (R143) -/

theorem lifetimeOver_opened {u : TableId} {s : State} (hw : s.table.window = .opened u) (hl : s.table.lifetime = some 0) :
    lifetimeOver s = some u := by simp [lifetimeOver, hw, hl]

theorem lockoutOver_lockout {s : State} (hw : s.table.window = .lockout) (hl : s.table.lockout = some 0) :
    lockoutOver s = true := by simp [lockoutOver, hw, hl]

theorem table_leaveExpiry (e : Told) (s : State) : (leaveExpiry e s).table = s.table := by
  unfold leaveExpiry
  split <;> rfl

theorem mem_arrived_reach (e : Event) (s : State) : ∃ x ∈ (reach e s).path.arrived, x.event = e :=
  List.mem_map.1 (by rw [events_reach]; simp)

/-- What waits once waits. -/
theorem mem_arrived_leaveExpiry (e : Told) (s : State) : ∃ x ∈ (leaveExpiry e s).path.arrived, x.event = .told e := by
  unfold leaveExpiry
  split
  · next h =>
    obtain ⟨x, hx, he⟩ := List.any_eq_true.1 h
    exact ⟨x, hx, eq_of_beq he⟩
  · exact mem_arrived_reach ..

/-- A late event stays late as others reach their units. -/
theorem waits_reach {u : UnitId} {e : Event} {s : State} (h : waits u s = true) : waits u (reach e s) = true := by
  obtain ⟨x, hx, hlate⟩ := List.any_eq_true.1 h
  obtain ⟨hl, hfor⟩ := Bool.and_eq_true_iff.1 hlate
  unfold waits reach
  dsimp only
  split
  · exact List.any_eq_true.2 ⟨x.passed e.units, List.mem_append_left _ (List.mem_map_of_mem hx),
      by simp [Arrival.passed, hl, hfor]⟩
  · exact List.any_eq_true.2 ⟨x, List.mem_append_left _ hx, hlate⟩

theorem busy_reach {u : UnitId} {e : Event} {s : State} (h : busy u s = true) : busy u (reach e s) = true := by
  rcases Bool.or_eq_true_iff.1 h with hh | hw
  · exact Bool.or_eq_true_iff.2 (Or.inl hh)
  · exact Bool.or_eq_true_iff.2 (Or.inr (waits_reach hw))

theorem busy_leaveLifetime {s : State} (h : busy .table s = true) : busy .table (leaveLifetime s) = true := by
  unfold leaveLifetime leaveExpiry
  repeat' split
  · exact h
  · exact busy_reach h
  · exact h

/-- An event whose one unit takes none at once is late. -/
theorem late_mem_reach {e : Event} {u : UnitId} {s : State} (he : e.units = [u]) (hb : busy u s = true) :
    ∃ x ∈ (reach e s).path.arrived, x.event = e ∧ x.late = true :=
  ⟨⟨e, true, s.exch.orderTaken⟩, by simp [reach, he, hb], rfl, rfl⟩

/-- The fallback and HALTED shut the window at once (R143). -/
theorem window_tableTold {e : Told} (he : e = .fallback ∨ e = .windowHalted) (s : State) :
    (tableTold e s).table.window = .shut := by
  rcases he with rfl | rfl
  · show (tableFallback s).table.window = .shut
    unfold tableFallback
    cases hw : s.table.window with
    | shut => exact hw
    | primed u => exact congrArg TableUnit.window (table_shutWindow s)
    | opened u => exact congrArg TableUnit.window (table_leaveOpen ..)
    | lockout => exact congrArg TableUnit.window (table_shutWindow s)
  · exact congrArg TableUnit.window (table_shutWindow s)

/-- STOPPING leaves a window that is neither primed nor open (R143). -/
theorem window_tableStopping (u : TableId) (s : State) :
    (tableStopping s).table.window ≠ .primed u ∧ (tableStopping s).table.window ≠ .opened u := by
  unfold tableStopping
  cases hw : s.table.window with
  | shut => simp [hw]
  | primed u => simp [table_shutWindow, tableShut]
  | opened u => simp [table_leaveOpen, leftOpen]
  | lockout => simp [hw]

/-! ### What the table keeps while events have their turn -/

/-- A property of the table that the window's shutting keeps. -/
structure WindowStable (P : TableUnit → Prop) : Prop where
  left : ∀ {x}, P x → P (leftOpen .shut none x)
  shut : ∀ {x}, P x → P (tableShut x)

theorem windowStable_shut : WindowStable fun x => x.window = .shut := ⟨fun _ => rfl, fun _ => rfl⟩
theorem windowStable_commits (cs : List (TableId × Nat)) : WindowStable fun x => x.commits = cs := ⟨id, id⟩

theorem table_tellPage (s : State) : (tellPage s).table = s.table := by
  unfold tellPage
  split
  · rfl
  · exact table_of_kept (kept_closePage 0 s)

theorem table_completeLoading (s : State) : (completeLoading s).table = s.table := by
  unfold completeLoading
  rw [table_of_kept (kept_pageSearch _), table_of_kept (kept_refreshAll ..), table_of_kept (kept_notifyNow ..)]
  rfl

namespace WindowStable

variable {P : TableUnit → Prop} {s t : State}

theorem leaveOpen (W : WindowStable P) (h : P s.table) (u : TableId) (r : Nat) :
    P (Machine.leaveOpen u .shut none r s).table := by
  rw [table_leaveOpen]
  exact W.left h

theorem shutWindow (W : WindowStable P) (h : P s.table) : P (Machine.shutWindow s).table := by
  rw [table_shutWindow]
  exact W.shut h

theorem tableTold (W : WindowStable P) (h : P s.table) (e : Told) : P (Machine.tableTold e s).table := by
  cases e with
  | lifetime =>
    show P (tableExpired s).table
    unfold tableExpired
    split
    · exact h
    · exact W.leaveOpen h _ _
  | fallback =>
    show P (tableFallback s).table
    unfold tableFallback
    split
    · exact W.leaveOpen h _ _
    · exact W.shutWindow h
    · exact W.shutWindow h
    · exact h
  | stopping =>
    show P (tableStopping s).table
    unfold tableStopping
    split
    · exact W.leaveOpen h _ _
    · exact W.shutWindow h
    · exact h
    · exact h
  | windowHalted => exact W.shutWindow h
  | lockout =>
    show P (if lockoutOver s then Machine.shutWindow s else s).table
    split
    · exact W.shutWindow h
    · exact h
  | pageHalted => exact h

theorem tellTable (W : WindowStable P) (h : P s.table) (e : Told) : P (Machine.tellTable e s).table := by
  cases hb : busy .table s with
  | true => rw [table_tellTable_of_busy hb]; exact h
  | false => rw [tellTable_of_free hb]; exact W.tableTold h e

theorem enterHalted (W : WindowStable P) (h : P s.table) : P (Machine.enterHalted s).table := by
  unfold Machine.enterHalted
  rw [table_of_kept (kept_postLine ..), table_tellPage]
  refine W.tellTable ?_ _
  have htable : (notifyNow { kind := .halted } s).table = s.table := table_of_kept (kept_notifyNow _ s)
  show P (refreshNow _ _).table
  rw [table_of_kept (kept_refreshNow ..)]
  show P (notifyNow _ s).table
  rw [htable]
  exact h

theorem windDownOwn (W : WindowStable P) (h : P s.table) : P (Machine.windDownOwn s).table := by
  unfold Machine.windDownOwn
  split
  · exact W.enterHalted h
  · exact h

theorem conclude (W : WindowStable P) (h : P t.table) : P (Machine.conclude s t).table := by
  have htidy : P (tidy s t).table := by rw [table_of_kept (kept_tidy s t)]; exact h
  unfold Machine.conclude windDown
  repeat' split
  · exact htidy
  · exact htidy
  · exact W.windDownOwn htidy

theorem act (W : WindowStable P) (h : P s.table) (e : Event) : P (Machine.act e s).table := by
  have hkeeps : ∀ {t : State}, kept t = kept s → P t.table := fun hk => by rw [table_of_kept hk]; exact h
  match e with
  | .ask (.notice n asked) => exact hkeeps (kept_writeNotice n asked s)
  | .ask (.refresh r) => exact hkeeps (kept_refreshNow r s)
  | .ask .complete =>
    show P (if s.exch.part = .loading then completeLoading s else s).table
    split
    · rw [table_completeLoading]; exact h
    · exact h
  | .ask .windDown => exact W.windDownOwn h
  | .told .pageHalted => exact hkeeps (kept_closePage 0 s)
  | .told .lifetime | .told .lockout | .told .fallback | .told .stopping | .told .windowHalted => exact W.tableTold h _
  | .closing slot => exact W.conclude (hkeeps (kept_takeClosing slot s))
  | .value _ | .read _ _ => exact h

theorem serveUpTo (W : WindowStable P) (h : P s.table) (n : Nat) : P (Machine.serveUpTo n s).table := by
  induction n generalizing s with
  | zero => exact h
  | succ n ih =>
    unfold Machine.serveUpTo
    split
    · exact h
    · next e _ => exact ih (W.act (s := dropArrival e s) h e)

theorem afterTurn (W : WindowStable P) (h : P t.table) (us : List UnitId) : P (Machine.afterTurn us s t).table := by
  unfold Machine.afterTurn
  split
  · exact W.serveUpTo h _
  · exact h

end WindowStable

/-- What the Table Unit has been told stands first, and it holds nothing: its turn shuts the window. -/
theorem shut_serveWaiting {e : Told} {a : Arrival} {xs : List Arrival} {s : State} (he : e = .fallback ∨ e = .windowHalted)
    (harr : s.path.arrived = a :: xs) (hevent : a.event = .told e) (hheld : s.path.held = []) :
    (serveWaiting s).table.window = .shut := by
  have howner : e.owner = .table := by rcases he with rfl | rfl <;> rfl
  have hfirst : firstFor .table s = some (.told e) := by
    simp [firstFor, harr, hevent, Event.isFor, Event.units, howner]
  have hready : ready (.told e) s = true := by
    simp [ready, Event.units, howner, canTake, holds, hheld, hfirst]
  have hdue : nextDue s = some (.told e) := by
    simp only [nextDue, harr, List.map_cons, hevent]
    exact List.find?_cons_of_pos (by simp [Event.unattended, hready])
  have hact : (act (.told e) (dropArrival (.told e) s)).table.window = .shut := by
    have htold : act (.told e) (dropArrival (.told e) s) = tableTold e (dropArrival (.told e) s) := by
      rcases he with rfl | rfl <;> rfl
    rw [htold]
    exact window_tableTold he _
  unfold serveWaiting
  obtain ⟨n, hn⟩ : ∃ n, 256 * (s.path.arrived.length + 1) = n + 1 := ⟨256 * s.path.arrived.length + 255, by omega⟩
  rw [hn, serveUpTo, hdue]
  exact windowStable_shut.serveUpTo hact n

/-- The grant that lets the one held request join gives the Table Unit its turn. -/
theorem shut_memoryPortFree {e : Told} {a : Arrival} {h : Held} {r : Request} {rest : List Request} {s : State}
    (he : e = .fallback ∨ e = .windowHalted) (harr : s.path.arrived = [a]) (hevent : a.event = .told e)
    (hheld : s.path.held = [h]) (hqueue : s.path.queue = r :: rest) (hroom : rest.length < Config.queuePlaces)
    (hhost : s.path.host = none) (hwaiting : s.path.waiting = []) :
    (serveWaiting (portFree s)).table.window = .shut := by
  obtain ⟨hq, hh, hn, hw, -, b, ys, hb, hbe⟩ := finishPort_of_hostIdle hhost harr
  unfold portFree
  dsimp only
  generalize finishPort s = u at *
  rw [hw, hwaiting, acceptOps, grant_of_hostIdle (s := { u with path := { u.path with waiting := [] } }) hn
    (hq.trans hqueue)]
  unfold grantHead
  refine shut_serveWaiting (a := b) (xs := ys) he ?_ (hbe.trans hevent) (held_drainQueue (h := h) (hh.trans hheld) hroom)
  exact (arrived_drainHeld ..).trans hb

/-! ### The statement -/

theorem keyedTable_primed {u : TableId} {key : Handed} {n : Nat} {x : TableUnit} (hw : x.window = .primed u) :
    (key = .openSecond u → (keyedTable key n x).window = .opened u ∧ (keyedTable key n x).lifetime = some n ∧
        (keyedTable key n x).touched = []) ∧
      (key ≠ .openSecond u → (keyedTable key n x).window = .lockout ∧ (keyedTable key n x).lockout = some 60) := by
  unfold keyedTable
  rw [hw]
  dsimp only
  exact ⟨fun hk => by rw [if_pos hk]; exact ⟨rfl, rfl, rfl⟩, fun hk => by rw [if_neg hk]; exact ⟨rfl, rfl⟩⟩

theorem keyedTable_opened {u : TableId} {key : Handed} {n : Nat} {x : TableUnit} (hw : x.window = .opened u) :
    (keyedTable key n x).touched = [] ∧ (keyedTable key n x).lifetime = none ∧
      (key = .closeWindow → (keyedTable key n x).window = .shut) ∧
      (key ≠ .closeWindow → (keyedTable key n x).window = .lockout ∧ (keyedTable key n x).lockout = some 60) := by
  unfold keyedTable
  rw [hw]
  dsimp only
  by_cases hk : key = .closeWindow
  · rw [if_pos hk]
    exact ⟨rfl, rfl, fun _ => rfl, fun hne => absurd hk hne⟩
  · rw [if_neg hk]
    exact ⟨rfl, rfl, fun h => absurd h hk, fun _ => ⟨rfl, rfl⟩⟩

theorem keyedTable_shut {key : Handed} {n : Nat} {x : TableUnit} (hw : x.window = .shut) :
    (∀ u, key = .openFirst u → keyedTable key n x = { x with window := .primed u }) ∧
      ((∀ u, key ≠ .openFirst u) → keyedTable key n x = x) := by
  unfold keyedTable
  rw [hw]
  refine ⟨fun u hk => by rw [hk], fun hk => ?_⟩
  cases key with
  | openFirst u => exact absurd rfl (hk u)
  | _ => rfl

/-- A key that is acted on: its effect, and that it is taken. -/
theorem editKeyActed_acts {h : Handed} {s : State} (hpart : s.exch.part = .running) (hfall : s.clock.fallback = false) :
    (editKeyActed h (dropHanded h s)).table = keyedTable h s.latched.editLifetime s.table ∧
      (editKeyActed h (dropHanded h s)).path.handed = s.path.handed.erase h := by
  have hact : editKeyActed h (dropHanded h s) = editKey h (dropHanded h s) := if_pos ⟨hpart, hfall⟩
  have ha := alike_editKey h (dropHanded h s)
  rw [hact]
  exact ⟨ha.table, (congrArg PathKept.handed ha.path :).trans (handed_dropHanded h s)⟩

/-- Settles O45: the keys by the window, the timers at a free and a busy unit, and the turn of what waits. -/
theorem editKeysMoveTheWindow : Obligations.EditKeysMoveTheWindow := by
  refine ⟨fun h c s hc hnext hpart hfall => ⟨_, exec_editCommand hc hnext, ?_⟩, fun h c s hc hnext hout => ?_,
    fun u s hw hl hb => ⟨leaveOpen u .shut none 4 s, ?_, ?_⟩, fun s hw hl hb => ⟨_, ?_, table_shutWindow s⟩, fun e s he hb => ⟨?_, ?_⟩,
    fun c e s hb hcase => ?_, fun s hb => ⟨?_, ?_, fun u => ?_⟩,
    fun e a h r rest s he harr hevent _ hheld hqueue hroom hhost hwaiting =>
      ⟨_, rfl, shut_memoryPortFree he harr hevent hheld hqueue hroom hhost hwaiting⟩⟩
  · obtain ⟨htable, hhanded⟩ := editKeyActed_acts (h := h) hpart hfall
    rw [htable]
    exact ⟨hhanded, keyedTable_shut, fun u => keyedTable_primed, fun u => keyedTable_opened, keyedTable_lockout⟩
  · have hignored : editKeyActed h (dropHanded h s) = dropHanded h s := by
      refine if_neg fun hacts => ?_
      rcases hout with hpart | hfall
      · exact hpart hacts.1
      · exact absurd (hacts.2.symm.trans hfall) (by simp)
    rw [exec_editCommand hc hnext, hignored]
  · show execLifetimeTimer s = .next (leaveOpen u .shut none 4 s)
    rw [execLifetimeTimer, if_neg (by simp [hb]), tableExpired, lifetimeOver_opened hw hl]
  · rw [table_leaveOpen]
    exact ⟨rfl, rfl, rfl⟩
  · show execLockoutTimer s = .next (shutWindow s)
    rw [execLockoutTimer, if_pos (lockoutOver_lockout hw hl), if_neg (by simp [hb])]
  · exact table_tellTable_of_busy hb
  · unfold tellTable
    rw [if_pos hb]
    exact late_mem_reach (by rw [Event.units, he]) (busy_leaveLifetime hb)
  · rcases hcase with ⟨rfl, rfl, u, hw, hl⟩ | ⟨rfl, rfl, hw, hl⟩
    · refine ⟨leaveExpiry .lifetime s, ?_, table_leaveExpiry .lifetime s, mem_arrived_leaveExpiry .lifetime s⟩
      show execLifetimeTimer s = _
      rw [execLifetimeTimer, if_pos hb, leaveLifetime, lifetimeOver_opened hw hl]
      rfl
    · refine ⟨leaveExpiry .lockout s, ?_, table_leaveExpiry .lockout s, mem_arrived_leaveExpiry .lockout s⟩
      show execLockoutTimer s = _
      rw [execLockoutTimer, if_pos (lockoutOver_lockout hw hl), if_pos hb]
  · rw [tellTable_of_free hb]
    exact window_tableTold (Or.inl rfl) s
  · rw [tellTable_of_free hb]
    exact window_tableTold (Or.inr rfl) s
  · rw [tellTable_of_free hb]
    exact window_tableStopping u s

end Sys2Proof.Machine

/-! PROOFS. Commits (chapter 8): the readback issued, and the entry judged, applied and noted on its EDIT line (R146, R147,
R148). -/

namespace Sys2Proof.Machine

/-! ### COMMIT (R146) -/

theorem exec_commit {u : TableId} {i : Nat} {v : Word} {s : State} (h : nextHanded s = some (.commit u i v)) :
    exec .commit s = .next (afterTurn [.table] s (commitHanded u i (dropHanded (.commit u i v) s))) := by
  show execCommit s = _
  rw [execCommit, h]
  rfl

theorem table_handCommit (u : TableId) (i : Nat) (s : State) :
    (handCommit u i s).table = { s.table with commits := s.table.commits ++ [(u, i)] } :=
  (table_of_kept (kept_present ..) :)

theorem issued_handCommit (u : TableId) (i : Nat) (s : State) :
    issued (.read (.readback u i) (s.path.bases.table u + u.entrySize * i) u.readbackLines) (handCommit u i s) = true :=
  issued_present (by simp [Issue.isRequest]) ..

/-! ### An entry accepted (R147) -/

/-- What a line's composition counts by, in the Tally Unit's record. -/
def lineCount (x : TallyUnit) : Word × Nat × List Slot := (x.lineNumber, x.reservations, x.closings)

/-- The neighbours' records aside, the table, the part's state and the line's count stand alike. -/
structure SameLedger (s t : State) : Prop where
  table : t.table = s.table
  part : t.exch.part = s.exch.part
  count : lineCount t.tally = lineCount s.tally

theorem SameLedger.trans {s t u : State} (h : SameLedger s t) (h' : SameLedger t u) : SameLedger s u :=
  ⟨h'.table.trans h.table, h'.part.trans h.part, h'.count.trans h.count⟩

/-- What keeps the records the shared operations leave alone, and the Tally Unit. -/
theorem SameLedger.of_stores {s t : State} (hk : kept t = kept s) (hs : stores t = stores s) : SameLedger s t :=
  ⟨table_of_kept hk, part_of_kept hk, congrArg lineCount (tally_of_stores hs)⟩

theorem SameLedger.creditTest (a : AccountId) (s : State) : SameLedger s (creditTest a s) :=
  ⟨table_of_kept (kept_creditTest a s), part_of_kept (kept_creditTest a s), (congrArg lineCount (alike_creditTest a s).tally :)⟩

theorem SameLedger.tellAccount (i : Nat) (before after : State) : SameLedger after (tellAccount i before after) := by
  unfold Machine.tellAccount
  split
  · exact ⟨rfl, rfl, rfl⟩
  · dsimp only
    split
    · exact ⟨rfl, rfl, rfl⟩
    · split
      · exact (SameLedger.creditTest _ after).trans (.of_stores (kept_creditEased ..) (stores_creditEased ..))
      · exact SameLedger.creditTest _ after

/-- An accepted entry: the copies are those with the entry stored (R147). -/
theorem sameLedger_acceptEntry (u : TableId) (i : Nat) (x : Option Entry) (s : State) :
    SameLedger (storeEntry u i x s) (acceptEntry u i x s) := by
  cases u with
  | vehicles => exact ⟨rfl, rfl, rfl⟩
  | accounts => exact SameLedger.tellAccount i s _
  | programmes => exact .of_stores (kept_arbiter _) (stores_arbiter _)
  | tariffs => exact ⟨rfl, rfl, rfl⟩

theorem storeEntry_keeps (u : TableId) (i : Nat) (x : Option Entry) (s : State) :
    (storeEntry u i x s).exch = s.exch ∧ (storeEntry u i x s).tally = s.tally ∧
      (storeEntry u i x s).table.commits = s.table.commits := by
  cases u <;> exact ⟨rfl, rfl, rfl⟩

/-! ### The EDIT line (R148) -/

/-- The EDIT line's own effect: one line, in its reservation's place. -/
theorem edited_composeEdit (u : TableId) (i outcome reason sum : Nat) (s : State) :
    kept (composeEdit u i outcome reason sum s) = kept s ∧
      lineCount (composeEdit u i outcome reason sum s).tally =
        (s.tally.lineNumber + 1, s.tally.reservations - 1, s.tally.closings) := by
  have hlined : Lined (s.tally.composed true) s (composeEdit u i outcome reason sum s) := Lined.refl.composeLine ..
  exact ⟨kept_composeLine rfl rfl, (congrArg lineCount hlined.tally :)⟩

/-- The state in which a readback is judged: its commit is no longer under way. -/
def commitTaken (u : TableId) (i : Nat) (s : State) : State :=
  { s with table := { s.table with commits := s.table.commits.erase (u, i) } }

theorem judgeCommit_commitTaken (u : TableId) (i : Nat) (bytes : List Byte) (s : State) :
    judgeCommit u i bytes (commitTaken u i s) = judgeCommit u i bytes s := rfl

/-- A commit finished: one line for its reservation, and no closing waits that did not. -/
structure CommitDone (s t : State) : Prop where
  count : lineCount t.tally = (s.tally.lineNumber + 1, s.tally.reservations - 1, s.tally.closings)
  part : t.exch.part = s.exch.part

/-- A readback accepted. -/
theorem finishCommit_ok {u : TableId} {i : Nat} {bytes : List Byte} {e : Option Entry} {s : State}
    (h : judgeCommit u i bytes s = .ok e) : CommitDone s (finishCommit u i bytes s) ∧
      (finishCommit u i bytes s).table = (storeEntry u i e (commitTaken u i s)).table := by
  have hledger := sameLedger_acceptEntry u i e (commitTaken u i s)
  obtain ⟨hexch, htally, -⟩ := storeEntry_keeps u i e (commitTaken u i s)
  have hline : ∀ outcome, CommitDone s (composeEdit u i outcome 0 (checksum bytes) (acceptEntry u i e (commitTaken u i s))) ∧
      (composeEdit u i outcome 0 (checksum bytes) (acceptEntry u i e (commitTaken u i s))).table =
        (storeEntry u i e (commitTaken u i s)).table := fun outcome => by
    obtain ⟨hk, hcount⟩ := edited_composeEdit u i outcome 0 (checksum bytes) (acceptEntry u i e (commitTaken u i s))
    have hbefore := hledger.count
    rw [htally] at hbefore
    have hnumber : (acceptEntry u i e (commitTaken u i s)).tally.lineNumber = s.tally.lineNumber :=
      congrArg Prod.fst hbefore
    have hreserved : (acceptEntry u i e (commitTaken u i s)).tally.reservations = s.tally.reservations :=
      congrArg (fun c => c.2.1) hbefore
    have hclosings : (acceptEntry u i e (commitTaken u i s)).tally.closings = s.tally.closings :=
      congrArg (fun c => c.2.2) hbefore
    rw [hnumber, hreserved, hclosings] at hcount
    refine ⟨⟨hcount, (part_of_kept hk).trans (hledger.part.trans ?_)⟩, (table_of_kept hk).trans hledger.table⟩
    rw [hexch]
    rfl
  have hjudge : judgeCommit u i bytes (commitTaken u i s) = .ok e := h
  unfold finishCommit
  dsimp only
  rw [show judgeCommit u i bytes { s with table := { s.table with commits := s.table.commits.erase (u, i) } } = .ok e
    from hjudge]
  cases e with
  | none => exact hline 2
  | some x => exact hline 1

/-- A readback rejected: the copies and the index stand. -/
theorem finishCommit_error {u : TableId} {i : Nat} {bytes : List Byte} {r : EntryReason} {s : State}
    (h : judgeCommit u i bytes s = .error r) : CommitDone s (finishCommit u i bytes s) ∧
      kept (finishCommit u i bytes s) = kept (commitTaken u i s) := by
  have hfinish : finishCommit u i bytes s = composeEdit u i 3 r.code (checksum bytes) (commitTaken u i s) := by
    unfold finishCommit
    dsimp only
    rw [show judgeCommit u i bytes { s with table := { s.table with commits := s.table.commits.erase (u, i) } } = .error r
      from h]
    rfl
  obtain ⟨hk, hcount⟩ := edited_composeEdit u i 3 r.code (checksum bytes) (commitTaken u i s)
  rw [hfinish]
  exact ⟨⟨hcount, (part_of_kept hk :)⟩, hk⟩

theorem commitDone (u : TableId) (i : Nat) (bytes : List Byte) (s : State) : CommitDone s (finishCommit u i bytes s) := by
  cases h : judgeCommit u i bytes s with
  | ok e => exact (finishCommit_ok h).1
  | error r => exact (finishCommit_error h).1

/-! ### COMMIT_READBACK (R147, R148) -/

/-- In RUNNING an event ends without the wind-down test. -/
theorem conclude_of_running {s t : State} (h : t.exch.part = .running) : conclude s t = tidy s t := by
  unfold conclude
  rw [windDown_eq_self (windDownMet_eq_false (by rw [part_of_kept (kept_tidy ..), h]; decide))]

/-- The row in a quiet part: nothing follows the commit's own effect but the event's end. -/
theorem exec_commitReadback {u : TableId} {i : Nat} {bytes : List Byte} {s : State} (hq : quiet s)
    (h : findReadback s = some (u, i, bytes)) :
    exec .commitReadback s = .next (conclude (dropReturned (.readback u i, bytes) s)
      (finishCommit u i bytes (dropReturned (.readback u i, bytes) s))) := by
  obtain ⟨⟨hheld, hlate, hclosings, -, -⟩, hpart, -⟩ := hq
  have hnone : serveClosings (finishCommit u i bytes (dropReturned (.readback u i, bytes) s)) =
      finishCommit u i bytes (dropReturned (.readback u i, bytes) s) := by
    have hcount := (commitDone u i bytes (dropReturned (.readback u i, bytes) s)).count
    have hc : (finishCommit u i bytes (dropReturned (.readback u i, bytes) s)).tally.closings = [] :=
      (congrArg (fun c => c.2.2) hcount :).trans hclosings
    unfold serveClosings
    rw [hc]
    rfl
  show execCommitReadback s = _
  unfold execCommitReadback
  rw [h]
  dsimp only
  rw [takeRead_of_calm hheld hlate, whenWorking,
    if_pos (working_of_running (s := dropReturned (.readback u i, bytes) s) hpart), hnone]

/-- A copy after a commit: the entry at its index, the rest as before. -/
theorem lookup_stored {α : Type} {m m' : List (Nat × α)} (h : copySorted m) {i : Nat} {x : Option α}
    (hm : m' = store m i x) : lookup m' i = x ∧ ∀ j, j ≠ i → lookup m' j = lookup m j := by
  subst hm
  exact ⟨by rw [lookup_store h, if_pos rfl], fun j hj => by rw [lookup_store h, if_neg (Ne.symm hj)]⟩

/-- The copy of the commit's table alone takes the entry. -/
theorem copies_storeEntry {u : TableId} {i : Nat} {e : Option Entry} {s : State} (h : copiesSorted s = true) :
    (u = .vehicles → lookup (storeEntry u i e s).table.vehicles i = e.bind Entry.toVehicle ∧
      ∀ j, j ≠ i → lookup (storeEntry u i e s).table.vehicles j = lookup s.table.vehicles j) ∧
    (u = .accounts → lookup (storeEntry u i e s).table.accounts i = e.bind Entry.toAccount ∧
      ∀ j, j ≠ i → lookup (storeEntry u i e s).table.accounts j = lookup s.table.accounts j) ∧
    (u = .programmes → lookup (storeEntry u i e s).table.programmes i = e.bind Entry.toProgramme ∧
      ∀ j, j ≠ i → lookup (storeEntry u i e s).table.programmes j = lookup s.table.programmes j) ∧
    (u = .tariffs → lookup (storeEntry u i e s).table.tariffs i = e.bind Entry.toTariff ∧
      ∀ j, j ≠ i → lookup (storeEntry u i e s).table.tariffs j = lookup s.table.tariffs j) := by
  simp only [copiesSorted, Bool.and_eq_true, decide_eq_true_eq] at h
  obtain ⟨⟨⟨hv, ha⟩, hp⟩, ht⟩ := h
  refine ⟨?_, ?_, ?_, ?_⟩ <;> rintro rfl
  · exact lookup_stored hv rfl
  · exact lookup_stored ha rfl
  · exact lookup_stored hp rfl
  · exact lookup_stored ht rfl

theorem other_copies_storeEntry (u : TableId) (i : Nat) (e : Option Entry) (s : State) :
    (u ≠ .vehicles → (storeEntry u i e s).table.vehicles = s.table.vehicles) ∧
    (u ≠ .accounts → (storeEntry u i e s).table.accounts = s.table.accounts) ∧
    (u ≠ .programmes → (storeEntry u i e s).table.programmes = s.table.programmes) ∧
    (u ≠ .tariffs → (storeEntry u i e s).table.tariffs = s.table.tariffs) := by
  cases u with
  | vehicles => exact ⟨fun h => absurd rfl h, fun _ => rfl, fun _ => rfl, fun _ => rfl⟩
  | accounts => exact ⟨fun _ => rfl, fun h => absurd rfl h, fun _ => rfl, fun _ => rfl⟩
  | programmes => exact ⟨fun _ => rfl, fun _ => rfl, fun h => absurd rfl h, fun _ => rfl⟩
  | tariffs => exact ⟨fun _ => rfl, fun _ => rfl, fun _ => rfl, fun h => absurd rfl h⟩

/-- Settles O46: COMMIT by its request, COMMIT_READBACK by its verdict. -/
theorem commitIsReadBackAndApplied : Obligations.CommitIsReadBackAndApplied := by
  refine ⟨fun u i v s hnext hw => ⟨_, exec_commit hnext, ?_, ?_⟩, fun u i bytes s hq hfind hsorted =>
    ⟨_, exec_commitReadback hq hfind, ?_⟩⟩
  · have hhand : commitHanded u i (dropHanded (.commit u i v) s) = handCommit u i (dropHanded (.commit u i v) s) := if_pos hw
    refine (windowStable_commits _).afterTurn ?_ _
    rw [hhand, table_handCommit]
    rfl
  · have hhand : commitHanded u i (dropHanded (.commit u i v) s) = handCommit u i (dropHanded (.commit u i v) s) := if_pos hw
    rw [hhand]
    exact ((Run.refl (L := { takes := true })).afterTurn rfl).issued rfl rfl (issued_handCommit u i (dropHanded _ s))
  · generalize hd : dropReturned (.readback u i, bytes) s = d
    have htabled : d.table = s.table := by subst hd; rfl
    have htallyd : d.tally = s.tally := by subst hd; rfl
    have hgated : d.gate = s.gate := by subst hd; rfl
    have hpartd : d.exch.part = .running := by subst hd; exact hq.2.1
    have hjudged : judgeCommit u i bytes d = judgeCommit u i bytes s := by subst hd; rfl
    have hsortedd : copiesSorted (commitTaken u i d) = true := by subst hd; exact hsorted
    have hdone := commitDone u i bytes d
    have hpart : (finishCommit u i bytes d).exch.part = .running := hdone.part.trans hpartd
    have hk : kept (conclude d (finishCommit u i bytes d)) = kept (finishCommit u i bytes d) :=
      kept_conclude (by rw [hpart]; decide)
    have htable := table_of_kept hk
    have htidy := conclude_of_running (s := d) hpart
    have hnumber : (conclude d (finishCommit u i bytes d)).tally.lineNumber = s.tally.lineNumber + 1 := by
      rw [htidy, tally_tidy TallyUnit.lineNumber, ← htallyd]
      exact congrArg Prod.fst hdone.count
    have hreserved : (conclude d (finishCommit u i bytes d)).tally.reservations = s.tally.reservations - 1 := by
      rw [htidy, tally_tidy TallyUnit.reservations, ← htallyd]
      exact congrArg (fun c => c.2.1) hdone.count
    rw [htable]
    cases hj : judgeCommit u i bytes s with
    | ok e =>
      have hstored := (finishCommit_ok (hjudged.trans hj)).2
      obtain ⟨-, -, hcommits⟩ := storeEntry_keeps u i e (commitTaken u i d)
      obtain ⟨hv, ha, hp, ht⟩ := other_copies_storeEntry u i e (commitTaken u i d)
      rw [hstored]
      rw [← htabled]
      refine ⟨hcommits, hnumber, hreserved, hv, ha, hp, ht, nofun, fun e' he' => ?_⟩
      cases he'
      exact copies_storeEntry hsortedd
    | error r =>
      have hk' := (finishCommit_error (hjudged.trans hj)).2
      have htable' : (finishCommit u i bytes d).table = (commitTaken u i d).table := table_of_kept hk'
      have hmap : (conclude d (finishCommit u i bytes d)).gate.tagMap = s.gate.tagMap :=
        (congrArg Kept.tagMap (hk.trans hk') :).trans (congrArg GateUnit.tagMap hgated)
      rw [htable', ← htabled]
      exact ⟨rfl, hnumber, hreserved, fun _ => rfl, fun _ => rfl, fun _ => rfl, fun _ => rfl,
        fun _ _ => ⟨rfl, rfl, rfl, rfl, hmap⟩, nofun⟩

end Sys2Proof.Machine

/-! PROOFS. Pages (chapter 10): the placements of a line, of a page's closing and of the drain, and what they leave of the
Tally Unit (R162 to R167). -/

namespace Sys2Proof.Machine

/-! ### Placements are added at the end -/

/-- The second state's placements are the first's and more. -/
def PlacesOn (s t : State) : Prop := ∃ more, placements t = placements s ++ more

theorem PlacesOn.refl {s : State} : PlacesOn s s := ⟨[], (List.append_nil _).symm⟩

theorem PlacesOn.trans {s t u : State} (h : PlacesOn s t) (h' : PlacesOn t u) : PlacesOn s u := by
  obtain ⟨m, hm⟩ := h
  obtain ⟨n, hn⟩ := h'
  exact ⟨m ++ n, by rw [hn, hm, List.append_assoc]⟩

theorem PlacesOn.of_eq {s t : State} (h : placements t = placements s) : PlacesOn s t := ⟨[], by rw [h, List.append_nil]⟩

/-- While no request is granted, placements are added at the end. -/
theorem Change.placesOn {L : Scope} {s t : State} (c : Change L s t) (hhost : L.host = false) : PlacesOn s t := by
  cases c with
  | present u i => exact ⟨_, placements_present u i s⟩
  | makeWay u r => exact .of_eq (placements_makeWay u r s)
  | notice n asked _ => exact placements_writeNotice n asked s
  | takeNotice n asked _ _ => exact (placements_writeNotice n asked (dropArrival _ s) :)
  | halt _ => exact (⟨_, placements_present .exchange _ { s with exch := { s.exch with part := .halted } }⟩ : PlacesOn _ _)
  | path x hL _ _ _ _ _ => exact absurd hL (Bool.eq_false_iff.1 hhost)
  | _ => exact PlacesOn.refl

theorem Run.placesOn {L : Scope} {s t : State} (h : Run L s t) (hhost : L.host = false) : PlacesOn s t :=
  h.keeps (P := PlacesOn s) (fun c hs => hs.trans (c.placesOn hhost)) .refl

/-- A placement that stands is issued. -/
theorem issued_of_mem_placements {a : Nat} {bytes : List Byte} {s : State} (h : (a, bytes) ∈ placements s) :
    issued (.place a bytes) s = true := by
  rw [issued_iff]
  rcases List.mem_append.1 h with hq | hh
  · obtain ⟨r, hr, hplaced⟩ := List.mem_filterMap.1 hq
    cases r with
    | place a' b' =>
      obtain ⟨rfl, rfl⟩ := Prod.mk.inj (Option.some.inj hplaced)
      exact Or.inl hr
    | read _ _ _ | refresh _ _ _ => cases hplaced
  · obtain ⟨x, hx, hplaced⟩ := List.mem_filterMap.1 hh
    refine Or.inr ⟨x, hx, ?_⟩
    cases hi : x.issue with
    | place a' b' =>
      rw [hi] at hplaced
      obtain ⟨rfl, rfl⟩ := Prod.mk.inj (Option.some.inj hplaced)
      simp [Issue.isRequest]
    | read _ _ _ | refresh _ =>
      rw [hi] at hplaced
      cases hplaced

/-! ### A page sought and closed (R162, R164) -/

/-- The Tally Unit's record after the search for a page in a part that works. -/
def TallyUnit.searched (x : TallyUnit) : TallyUnit :=
  { x with poolRead := x.poolRead || (x.page.isNone && x.poolPos != x.poolPosted) }

theorem alike_pageSearch {s : State} (hw : working s = true) :
    Alike (pageSearch s) (putTally TallyUnit.searched s) := by
  unfold pageSearch
  split
  · next h =>
    simp only [Bool.and_eq_true, Bool.not_eq_true'] at h
    obtain ⟨⟨⟨hpage, hread⟩, -⟩, hoffer⟩ := h
    have hset : { s with tally := { s.tally with poolRead := true } } = putTally TallyUnit.searched s := by
      have hmust : (s.tally.poolRead || (s.tally.page.isNone && s.tally.poolPos != s.tally.poolPosted)) = true := by
        rw [hpage, hread]
        exact hoffer
      unfold putTally TallyUnit.searched
      rw [hmust]
    rw [hset]
    exact Alike.refl.present _ _
  · next h =>
    have hset : s = putTally TallyUnit.searched s := by
      have hnone : (s.tally.poolRead || (s.tally.page.isNone && s.tally.poolPos != s.tally.poolPosted)) =
          s.tally.poolRead := by
        simp only [hw, pageOffered, Bool.and_eq_true, Bool.not_eq_true', and_true, not_and, Bool.not_eq_true] at h
        cases hread : s.tally.poolRead with
        | true => rfl
        | false =>
          cases hpage : s.tally.page.isNone with
          | false => rfl
          | true => exact h ⟨hpage, hread⟩
      unfold putTally TallyUnit.searched
      rw [hnone]
    rw [← hset]
    exact Alike.refl

theorem page_pageSearch (s : State) : (pageSearch s).tally.page = s.tally.page := by
  unfold pageSearch
  split
  · rw [tally_present]
  · rfl

/-- The Tally Unit's record without its page. -/
def TallyUnit.pageless (x : TallyUnit) : TallyUnit := { x with page := none }

theorem alike_placeTold (u : UnitId) (r : Rec) (a : Nat) (bytes : List Byte) (s : State) : Alike (placeTold u r a bytes s) s :=
  Alike.refl.of_posted (besides_placeTold ..) (kept_placeTold ..)

theorem alike_closePage {p : Page} {s : State} (h : s.tally.page = some p) (r : Nat) :
    Alike (closePage r s) (putTally TallyUnit.pageless s) := by
  unfold closePage
  rw [h]
  exact ((alike_placeTold .tally (.line 4) p.addr (p.header true) s).notify _).setTally TallyUnit.pageless

theorem placements_closePage {p : Page} {s : State} (h : s.tally.page = some p) (r : Nat) :
    ∃ more, placements (closePage r s) = placements s ++ [(p.addr, p.header true)] ++ more := by
  unfold closePage
  rw [h]
  dsimp only
  rw [placements_setTally]
  obtain ⟨more, hmore⟩ := placements_notify
    { kind := .pageClosed, reason := r, subject := p.seq.toNat, first := p.addr, second := p.lines }
    (placeTold .tally (.line 4) p.addr (p.header true) s)
  exact ⟨more, by rw [hmore, placements_placeTold]⟩

/-! ### A line on the page (R163) -/

theorem withLine_eq_raised {p : Page} {l : TallyLine} (h : l.header.length = 24) : p.withLine l = p.raised l := by
  unfold Page.withLine Page.raised
  rw [h]

/-- A line's three placements, and the record `t` with the line on the page. -/
def linePlaced (p : Page) (l : TallyLine) (t : TallyUnit) (s : State) : State :=
  setTally { t with page := some (p.raised l) } (placeTold .tally (.line 4) p.addr ((p.raised l).header false)
    (present .tally (.place (p.addr + p.used) l.header) (placeItems (p.addr + p.used + 24) l.items s)))

theorem placeLine_eq {p : Page} {l : TallyLine} {s : State} (hpage : s.tally.page = some p) (hlen : l.header.length = 24)
    (t : TallyUnit) : placeLine l t s = if 4096 < (p.raised l).used + 80 then pageSearch (closePage 1 (linePlaced p l t s))
      else linePlaced p l t s := by
  unfold placeLine linePlaced
  rw [hpage, ← withLine_eq_raised hlen, ← hlen]
  rfl

theorem alike_linePlaced (p : Page) (l : TallyLine) (t : TallyUnit) (s : State) :
    Alike (linePlaced p l t s) (putTally (fun _ => { t with page := some (p.raised l) }) s) := by
  have hitems : Alike (placeItems (p.addr + p.used + 24) l.items s) s := by
    unfold placeItems
    split
    · exact Alike.refl
    · exact Alike.refl.present _ _
  exact ((alike_placeTold ..).trans (hitems.present .tally (.place (p.addr + p.used) l.header))).setTally
    fun _ => { t with page := some (p.raised l) }

theorem placements_linePlaced (p : Page) (l : TallyLine) (t : TallyUnit) (s : State) :
    placements (linePlaced p l t s) = placements s ++ linePlacements p l := by
  have hitems : placements (placeItems (p.addr + p.used + 24) l.items s) =
      placements s ++ if l.items = [] then [] else [(p.addr + p.used + 24, l.items)] := by
    unfold placeItems
    by_cases h : l.items = []
    · simp [h]
    · rw [if_neg (by simpa using h), if_neg h, placements_present]
      rfl
  unfold linePlaced linePlacements
  rw [placements_setTally, placements_placeTold, placements_present, hitems]
  simp [Issue.placed]

theorem page_linePlaced (p : Page) (l : TallyLine) (t : TallyUnit) (s : State) :
    (linePlaced p l t s).tally.page = some (p.raised l) := congrArg TallyUnit.page (alike_linePlaced p l t s).tally

/-- A line that fills its page closes it, the page's closed header behind the line (R164). -/
theorem page_closed {p : Page} (l : TallyLine) (t : TallyUnit) (s : State) :
    (pageSearch (closePage 1 (linePlaced p l t s))).tally.page = none ∧
      ∃ more, placements (pageSearch (closePage 1 (linePlaced p l t s))) =
        placements s ++ linePlacements p l ++ [(p.addr, (p.raised l).header true)] ++ more := by
  have hpage := page_linePlaced p l t s
  obtain ⟨more, hmore⟩ := placements_closePage hpage 1
  refine ⟨?_, more, ?_⟩
  · rw [page_pageSearch]
    exact congrArg TallyUnit.page (alike_closePage hpage 1).tally
  · rw [placements_pageSearch, hmore, placements_linePlaced]
    rfl

/-! ### The drain (R167) -/

/-- The Tally Unit's record after a drain that takes every pending line. -/
def TallyUnit.drained (p : Page) (x : TallyUnit) : TallyUnit := { x with page := some p, lines := [] }

theorem drainLines_fits {ls : List TallyLine} {p : Page} {s : State} (hpage : s.tally.page = some p)
    (hlines : s.tally.lines = ls) (hlen : ∀ l ∈ ls, l.header.length = 24 ∧ l.items.length ≤ 56)
    (hroom : p.used + 80 * ls.length + 80 ≤ 4096) :
    Alike (drainLines ls s) (putTally (TallyUnit.drained (ls.foldl Page.raised p)) s) ∧
      placements (drainLines ls s) = placements s ++ drainPlacements p ls := by
  induction ls generalizing p s with
  | nil =>
    have hself : s = putTally (TallyUnit.drained p) s := by
      unfold putTally TallyUnit.drained
      rw [← hpage, ← hlines]
    refine ⟨?_, (List.append_nil _).symm⟩
    show Alike s (putTally (TallyUnit.drained p) s)
    rw [← hself]
    exact Alike.refl
  | cons l ls ih =>
    obtain ⟨hheader, hitems⟩ := hlen l (List.mem_cons_self ..)
    simp only [List.length_cons] at hroom
    have hused : (p.raised l).used ≤ p.used + 80 := by
      show p.used + 24 + l.items.length ≤ p.used + 80
      omega
    have hstep : drainLines (l :: ls) s = drainLines ls (linePlaced p l { s.tally with lines := ls } s) := by
      rw [drainLines, if_pos (by rw [hpage]; rfl), placeLine_eq hpage hheader, if_neg (by omega)]
    have halike := alike_linePlaced p l { s.tally with lines := ls } s
    obtain ⟨hrest, hplaced⟩ := ih (page_linePlaced p l { s.tally with lines := ls } s)
      (congrArg TallyUnit.lines halike.tally) (fun x hx => hlen x (List.mem_cons_of_mem _ hx)) (by omega)
    rw [hstep]
    refine ⟨hrest.trans ((halike.update (putTally (TallyUnit.drained (ls.foldl Page.raised (p.raised l))))).trans ?_), ?_⟩
    · exact Alike.refl
    · rw [hplaced, placements_linePlaced, List.append_assoc]
      rfl

/-- Without a page the drain leaves the list. -/
theorem drainLines_pageless {s : State} (h : s.tally.page = none) (ls : List TallyLine) : drainLines ls s = s := by
  cases ls with
  | nil => rfl
  | cons l ls => rw [drainLines, if_neg (by simp [h])]

end Sys2Proof.Machine

/-! PROOFS. The page rows (chapter 10): POOL POST, POOL_ENTRY_READ and CUT_PAGE (R161, R162, R167, R169). -/

namespace Sys2Proof.Machine

/-! ### POOL POST (R161) -/

theorem exec_poolPost {v : Count} {s : State} (h : nextHanded s = some (.poolPost v)) :
    exec .poolPost s = .next (takeValue (.poolPost v) (whenWorking (poolPosted v)) s) := by
  show execPoolPost s = _
  unfold execPoolPost
  rw [h]

theorem poolPostValid_iff {v : Count} {s : State} : poolPostValid v s = true ↔ dist s.tally.poolPos v ≤ 32 ∧
    dist s.tally.poolPos s.tally.poolPosted ≤ dist s.tally.poolPos v := by
  unfold poolPostValid
  rw [Bool.and_eq_true, decide_eq_true_iff, decide_eq_true_iff]
  rfl

/-- A count accepted, and the search for a page. -/
theorem alike_poolPosted {v : Count} {s : State} (h : poolPostValid v s = true) (hw : working s = true) :
    Alike (poolPosted v s) (putTally (fun x => TallyUnit.searched { x with poolPosted := v }) s) := by
  have hset : Alike (setTally { s.tally with poolPosted := v } s) (putTally (fun x => { x with poolPosted := v }) s) :=
    Alike.refl.setTally fun x => { x with poolPosted := v }
  unfold poolPosted
  rw [if_pos h]
  exact (alike_pageSearch (hset.working.trans hw)).trans (hset.update (putTally TallyUnit.searched))

theorem poolPost_accepted {v : Count} {s : State} (hnext : nextHanded s = some (.poolPost v)) (hq : quiet s)
    (hvalid : poolPostValid v s = true) : ∃ t, exec .poolPost s = .next t ∧
      t.tally = TallyUnit.searched { s.tally with poolPosted := v } := by
  obtain ⟨hc, hpart, -⟩ := hq
  have ha : Alike (poolPosted v (dropHanded (.poolPost v) s)) _ :=
    alike_poolPosted (s := dropHanded (.poolPost v) s) hvalid (working_of_running hpart)
  have hend : conclude (dropHanded (.poolPost v) s) (poolPosted v (dropHanded (.poolPost v) s)) =
      poolPosted v (dropHanded (.poolPost v) s) :=
    (Ended.of_ports (s := dropHanded (.poolPost v) s)).conclude ha (steady_of_calm (calm_dropHanded hc _)) hpart
  refine ⟨_, exec_poolPost hnext, ?_⟩
  rw [takeValue_of_calm hc.2.1, whenWorking,
    if_pos (working_of_running (s := dropHanded (.poolPost v) s) hpart), hend]
  exact ha.tally

theorem poolPost_refused {v : Count} {s : State} (hnext : nextHanded s = some (.poolPost v)) (hq : quiet s)
    (hinvalid : ¬ poolPostValid v s = true) : ∃ t, exec .poolPost s = .next t ∧ sameUnits s t ∧
      noticeGiven { kind := .poolPostInvalid, first := v.toNat, second := s.tally.poolPosted.toNat } s t := by
  obtain ⟨hc, hpart, -⟩ := hq
  have hcalm := calm_dropHanded hc (.poolPost v)
  have hposted : poolPosted v (dropHanded (.poolPost v) s) = notify
      { kind := .poolPostInvalid, first := v.toNat, second := s.tally.poolPosted.toNat } (dropHanded (.poolPost v) s) :=
    if_neg hinvalid
  have hb := besides_notify { kind := .poolPostInvalid, first := v.toNat, second := s.tally.poolPosted.toNat }
    (dropHanded (.poolPost v) s)
  refine ⟨_, exec_poolPost hnext, ?_⟩
  rw [takeValue_working_of_besides hc hpart (by rw [hposted, part_of_kept (kept_notify ..)]; exact hpart)
    (by rw [hposted, hb]; rfl), hposted]
  exact ⟨sameUnits_of_besides hb, noticeGiven_congr rfl rfl rfl (noticeGiven_notify
    (accepted_of_running (s := dropHanded (.poolPost v) s) hpart) (busy_eq_false hcalm.1 hcalm.2.1 _) _)⟩

/-! ### A pool entry judged (R162, R167) -/

/-- The page that an entry offers. -/
def offeredPage (entry : List Byte) (seq : Word) : Page :=
  { addr := field 0 4 entry, seq := seq, used := 32, lines := 0, hostRef := BitVec.ofNat 32 (field 4 4 entry),
    firstTime := none, lastTime := none }

/-- An entry's address is that of a page in the tally span. -/
def offersPage (entry : List Byte) (s : State) : Prop :=
  field 0 4 entry % 4096 = 0 ∧ s.path.bases.tally ≤ field 0 4 entry ∧
    field 0 4 entry < s.path.bases.tally + 4096 * s.path.bases.tallyPages

/-- The Tally Unit's record when an entry has been read back. -/
def TallyUnit.entryRead (x : TallyUnit) : TallyUnit := { x with poolRead := false, poolPos := x.poolPos + 1 }

/-- The same, with the page taken. -/
def TallyUnit.pageTaken (p : Page) (x : TallyUnit) : TallyUnit :=
  { x.entryRead with page := some p, pageSeq := x.pageSeq + 1, poolEmptyGiven := false }

theorem alike_entryRead (s : State) : Alike (setTally s.tally.entryRead s) (putTally TallyUnit.entryRead s) :=
  Alike.refl.setTally TallyUnit.entryRead

theorem inTallySpan_iff {a : Nat} {s : State} : inTallySpan a s = true ↔
    s.path.bases.tally ≤ a ∧ a < s.path.bases.tally + 4096 * s.path.bases.tallyPages := by
  unfold inTallySpan
  rw [Bool.and_eq_true, decide_eq_true_iff, decide_eq_true_iff]
  rfl

theorem judgePoolEntry_eq (line : List Byte) (s : State) : judgePoolEntry line s =
    if ¬ field 0 4 (line.drop (poolEntryOff s)) % 4096 = 0 then
      poolEntryInvalid 1 s.tally.poolPos (field 0 4 (line.drop (poolEntryOff s))) (setTally s.tally.entryRead s)
    else if (!inTallySpan (field 0 4 (line.drop (poolEntryOff s))) (setTally s.tally.entryRead s)) = true then
      poolEntryInvalid 2 s.tally.poolPos (field 0 4 (line.drop (poolEntryOff s))) (setTally s.tally.entryRead s)
    else takePage (field 0 4 (line.drop (poolEntryOff s))) (BitVec.ofNat 32 (field 4 4 (line.drop (poolEntryOff s))))
      (setTally s.tally.entryRead s) := rfl

theorem judgePoolEntry_offered {line : List Byte} {s : State} (h : offersPage (line.drop (poolEntryOff s)) s) :
    judgePoolEntry line s = takePage (field 0 4 (line.drop (poolEntryOff s)))
      (BitVec.ofNat 32 (field 4 4 (line.drop (poolEntryOff s)))) (setTally s.tally.entryRead s) := by
  obtain ⟨halign, hspan⟩ := h
  have hbases : (setTally s.tally.entryRead s).path.bases = s.path.bases := (alike_entryRead s).bases
  have hin : inTallySpan (field 0 4 (line.drop (poolEntryOff s))) (setTally s.tally.entryRead s) = true := by
    rw [inTallySpan_iff, hbases]
    exact hspan
  rw [judgePoolEntry_eq, if_neg (not_not.2 halign), if_neg (by simp [hin])]

theorem judgePoolEntry_refused {line : List Byte} {s : State} (h : ¬ offersPage (line.drop (poolEntryOff s)) s) :
    ∃ r, judgePoolEntry line s = poolEntryInvalid r s.tally.poolPos (field 0 4 (line.drop (poolEntryOff s)))
      (setTally s.tally.entryRead s) := by
  have hbases : (setTally s.tally.entryRead s).path.bases = s.path.bases := (alike_entryRead s).bases
  rw [judgePoolEntry_eq]
  split
  · exact ⟨1, rfl⟩
  · next halign =>
    have hout : ¬ inTallySpan (field 0 4 (line.drop (poolEntryOff s))) (setTally s.tally.entryRead s) = true := by
      rw [inTallySpan_iff, hbases]
      exact fun hin => h ⟨not_not.1 halign, hin⟩
    exact ⟨2, if_pos (by simp [hout])⟩

theorem alike_poolEntryInvalid {r a : Nat} {c : Count} {s : State} (hw : working s = true) :
    Alike (poolEntryInvalid r c a s) (putTally TallyUnit.searched s) := by
  have hn : Alike (notify { kind := .poolEntryInvalid, reason := r, first := c.toNat, second := a } s) s :=
    Alike.refl.notify _
  exact (alike_pageSearch (hn.working.trans hw)).trans (hn.update (putTally TallyUnit.searched))

/-- An entry passed over: the next is sought. -/
theorem alike_judgePoolEntry_refused {line : List Byte} {s : State} (h : ¬ offersPage (line.drop (poolEntryOff s)) s)
    (hw : working s = true) :
    Alike (judgePoolEntry line s) (putTally (fun x => x.entryRead.searched) s) := by
  obtain ⟨r, hr⟩ := judgePoolEntry_refused h
  rw [hr]
  exact (alike_poolEntryInvalid ((alike_entryRead s).working.trans hw)).trans
    ((alike_entryRead s).update (putTally TallyUnit.searched))

/-- The Tally Unit's record with a page begun. -/
def TallyUnit.begun (p : Page) (x : TallyUnit) : TallyUnit :=
  { x with page := some p, pageSeq := x.pageSeq + 1, poolEmptyGiven := false }

/-- A page taken, before the drain. -/
def pageBegun (p : Page) (s : State) : State :=
  let u := placeTold .tally (.line 4) p.addr (p.header false) s
  setTally (u.tally.begun p) u

theorem takePage_eq (entry : List Byte) (s : State) :
    takePage (field 0 4 entry) (BitVec.ofNat 32 (field 4 4 entry)) s =
      serveClosings (drainLines (pageBegun (offeredPage entry s.tally.pageSeq) s).tally.lines
        (pageBegun (offeredPage entry s.tally.pageSeq) s)) := rfl

theorem alike_pageBegun (p : Page) (s : State) : Alike (pageBegun p s) (putTally (TallyUnit.begun p) s) :=
  (alike_placeTold .tally (.line 4) p.addr (p.header false) s).setTally (TallyUnit.begun p)

theorem placements_pageBegun (p : Page) (s : State) :
    placements (pageBegun p s) = placements s ++ [(p.addr, p.header false)] := by
  unfold pageBegun
  dsimp only
  rw [placements_setTally, placements_placeTold]

/-- A page taken: its header, the pending lines that it holds, and no closing. -/
theorem takePage_drains {entry : List Byte} {s : State} (hclosings : s.tally.closings = [])
    (hfew : s.tally.lines.length ≤ 16) (hlen : ∀ l ∈ s.tally.lines, l.header.length = 24 ∧ l.items.length ≤ 56) :
    let p := offeredPage entry s.tally.pageSeq
    let t := takePage (field 0 4 entry) (BitVec.ofNat 32 (field 4 4 entry)) s
    Alike t (putTally (fun x => TallyUnit.drained (s.tally.lines.foldl Page.raised p) (x.begun p)) s) ∧
      placements t = placements s ++ [(p.addr, p.header false)] ++ drainPlacements p s.tally.lines := by
  intro p t
  have ht : t = serveClosings (drainLines (pageBegun p s).tally.lines (pageBegun p s)) := takePage_eq entry s
  have hset := alike_pageBegun p s
  have hplaced := placements_pageBegun p s
  rw [ht]
  generalize pageBegun p s = u at hset hplaced ⊢
  have hlines : u.tally.lines = s.tally.lines := (congrArg TallyUnit.lines hset.tally :)
  have hpage : u.tally.page = some p := (congrArg TallyUnit.page hset.tally :)
  obtain ⟨hdrain, hdrained⟩ := drainLines_fits hpage hlines hlen (by show 32 + _ + 80 ≤ 4096; omega)
  have hnone : (drainLines s.tally.lines u).tally.closings = [] :=
    (congrArg TallyUnit.closings hdrain.tally :).trans ((congrArg TallyUnit.closings hset.tally :).trans hclosings)
  rw [hlines, serveClosings, hnone]
  exact ⟨hdrain.trans (hset.update (putTally (TallyUnit.drained (s.tally.lines.foldl Page.raised p)))),
    hdrained.trans (by rw [hplaced])⟩

/-- An entry that offers a page, read back. -/
theorem judgePoolEntry_drains {line : List Byte} {s : State} (h : offersPage (line.drop (poolEntryOff s)) s)
    (hclosings : s.tally.closings = []) (hfew : s.tally.lines.length ≤ 16)
    (hlen : ∀ l ∈ s.tally.lines, l.header.length = 24 ∧ l.items.length ≤ 56) :
    let p := offeredPage (line.drop (poolEntryOff s)) s.tally.pageSeq
    Alike (judgePoolEntry line s) (putTally (fun x => TallyUnit.drained (s.tally.lines.foldl Page.raised p)
        (x.pageTaken p)) s) ∧
      placements (judgePoolEntry line s) = placements s ++ [(p.addr, p.header false)] ++
        drainPlacements p s.tally.lines := by
  have hread := alike_entryRead s
  have hplaced : placements (setTally s.tally.entryRead s) = placements s := placements_setTally ..
  rw [judgePoolEntry_offered h]
  generalize setTally s.tally.entryRead s = u at hread hplaced ⊢
  have htally : u.tally = s.tally.entryRead := hread.tally
  obtain ⟨ha, hp⟩ := takePage_drains (entry := line.drop (poolEntryOff s)) (s := u) (by rw [htally]; exact hclosings)
    (by rw [htally]; exact hfew) (by rw [htally]; exact hlen)
  rw [htally] at ha hp
  refine ⟨?_, hp.trans (by rw [hplaced]; rfl)⟩
  exact ha.trans (hread.update (putTally fun x => TallyUnit.drained (s.tally.lines.foldl Page.raised
    (offeredPage (line.drop (poolEntryOff s)) s.tally.pageSeq))
      (x.begun (offeredPage (line.drop (poolEntryOff s)) s.tally.pageSeq))))

/-! ### POOL_ENTRY_READ -/

theorem pool_of_findReturned {tag : ReadTag} {line : List Byte} {s : State} (h : findReturned isPool s = some (tag, line)) :
    tag = .pool := by
  have hp : isPool tag = true := tag_of_findReturned h
  cases tag with
  | pool => rfl
  | _ => cases hp

theorem exec_poolEntryRead {tag : ReadTag} {line : List Byte} {s : State} (h : findReturned isPool s = some (tag, line))
    (hb : busy .tally s = false) :
    exec .poolEntryRead s = .next (poolReturned line (dropReturned (.pool, line) s)) := by
  obtain rfl := pool_of_findReturned h
  show execPoolEntryRead s = _
  unfold execPoolEntryRead
  rw [h]
  exact congrArg _ (takeRead_of_free (by simpa [Event.units] using hb) _)

theorem poolReturned_of_running {line : List Byte} {s : State} (h : s.exch.part = .running)
    (hj : (judgePoolEntry line s).exch.part = .running) :
    poolReturned line s = tidy s (judgePoolEntry line s) := by
  unfold poolReturned
  rw [if_pos (working_of_running h), conclude_of_running hj]

/-! ### CUT_PAGE (R169) -/

/-- A page cut: it is closed, and the next is sought. -/
theorem alike_cut {p : Page} {s : State} (h : s.tally.page = some p) (hw : working s = true) :
    Alike (pageSearch (closePage 2 s)) (putTally (fun x => x.pageless.searched) s) := by
  have hclose := alike_closePage h 2
  exact (alike_pageSearch (hclose.working.trans hw)).trans (hclose.update (putTally TallyUnit.searched))

theorem cutOrder_refused {entry : List Byte} {s : State} (hfew : tallyFull s = false)
    (h : ∀ p, s.tally.page = some p → p.lines = 0) : cutOrder entry s = (.refusedState, s) := by
  unfold cutOrder
  rw [if_neg (by simp [hfew])]
  split
  · rfl
  · next p hp => exact if_pos (h p hp)

theorem cutOrder_done {entry : List Byte} {p : Page} {s : State} (hfew : tallyFull s = false) (hp : s.tally.page = some p)
    (h : 0 < p.lines) : cutOrder entry s = (.done, pageSearch (closePage 2 s)) := by
  unfold cutOrder
  rw [if_neg (by simp [hfew]), hp]
  exact if_neg (by omega)

theorem cutPage_done {entry : List Byte} {p : Page} {s : State} (h : orderReady 13 entry s) (hp : s.tally.page = some p)
    (hlines : 0 < p.lines) : ∃ t, exec .cutPage s = .next t ∧ answered .done s t ∧
      t.tally = s.tally.pageless.searched ∧ issued (.place p.addr (p.header true)) t = true := by
  obtain ⟨hcalm, hread⟩ := h
  have hpart : s.exch.part = .running := hread.1
  have hf : cutOrder entry (orderTakenUp entry s) = (.done, pageSearch (closePage 2 (orderTakenUp entry s))) :=
    cutOrder_done (tallyFull_of_calm (calm_orderTakenUp hcalm entry)) hp hlines
  have ha := alike_cut (s := orderTakenUp entry s) hp (working_of_running hpart)
  have hended : Ended s (putTally (fun x => x.pageless.searched) (orderTakenUp entry s)) := .of_ports
  obtain ⟨hanswered, hsame⟩ := Ended.orderRow ⟨hcalm, hread⟩ (want := fun k => k == 13) rfl hf ha hended hpart rfl rfl
  obtain ⟨-, -, -, -, -, -, -, -, htally, -⟩ := hsame
  refine ⟨_, rfl, hanswered, htally, ?_⟩
  rw [Ended.orderRow_eq hread (steady_of_calm hcalm) (want := fun k => k == 13) rfl hf ha hended hpart]
  have hrun : Run { rows := true } (pageSearch (closePage 2 (orderTakenUp entry s)))
      (fetchOrder (finishOrder .done (pageSearch (closePage 2 (orderTakenUp entry s))))) :=
    (Run.refl.finishOrder rfl).fetchOrder rfl
  refine hrun.issued rfl rfl (issued_of_mem_placements ?_)
  obtain ⟨more, hmore⟩ := placements_closePage (s := orderTakenUp entry s) hp 2
  rw [placements_pageSearch, hmore]
  simp

/-! ### The statement -/

/-- The drain at a page's taking, to the end of its row. -/
theorem poolEntryRead_drains {tag : ReadTag} {line : List Byte} {s : State}
    (hfind : findReturned isPool s = some (tag, line)) (hb : busy .tally s = false) (hpart : s.exch.part = .running)
    (hclosings : s.tally.closings = []) (hfew : s.tally.lines.length ≤ 16)
    (hlen : ∀ l ∈ s.tally.lines, l.header.length = 24 ∧ l.items.length ≤ 56)
    (h : offersPage (line.drop (poolEntryOff s)) s) :
    let p := offeredPage (line.drop (poolEntryOff s)) s.tally.pageSeq
    ∃ t more, exec .poolEntryRead s = .next t ∧
      (∃ flag, t.tally = { TallyUnit.drained (s.tally.lines.foldl Page.raised p) (s.tally.pageTaken p) with pause := flag }) ∧
      placements t = placements s ++ [(p.addr, p.header false)] ++ drainPlacements p s.tally.lines ++ more ∧
      (s.tally.pause = false → pendingCount s < 8 → more = []) := by
  intro p
  obtain ⟨ha, hp⟩ := judgePoolEntry_drains (s := dropReturned (.pool, line) s) h hclosings hfew hlen
  have hrunning : (judgePoolEntry line (dropReturned (.pool, line) s)).exch.part = .running := ha.part.trans hpart
  have hplaced : placements (dropReturned (.pool, line) s) = placements s := placements_congr rfl rfl
  have hrow := poolReturned_of_running (s := dropReturned (.pool, line) s) hpart hrunning
  rw [exec_poolEntryRead hfind hb, hrow]
  rw [hplaced] at hp
  have hkeep := tally_tidy (fun x => { x with pause := false }) (b := dropReturned (.pool, line) s)
    (s := judgePoolEntry line (dropReturned (.pool, line) s))
  have hflag : ∃ flag, (tidy (dropReturned (.pool, line) s)
      (judgePoolEntry line (dropReturned (.pool, line) s))).tally =
        { TallyUnit.drained (s.tally.lines.foldl Page.raised p) (s.tally.pageTaken p) with pause := flag } := by
    rw [ha.tally] at hkeep
    generalize (tidy (dropReturned (.pool, line) s) (judgePoolEntry line (dropReturned (.pool, line) s))).tally = x at *
    exact ⟨x.pause, congrArg (fun z : TallyUnit => { z with pause := x.pause }) hkeep⟩
  by_cases hsteady : s.tally.pause = false ∧ pendingCount s < 8
  · obtain ⟨hpause, hpending⟩ := hsteady
    refine ⟨_, [], rfl, hflag, ?_, fun _ _ => rfl⟩
    have hself : tidy (dropReturned (.pool, line) s) (judgePoolEntry line (dropReturned (.pool, line) s)) =
        judgePoolEntry line (dropReturned (.pool, line) s) := by
      have hless : pendingCount (judgePoolEntry line (dropReturned (.pool, line) s)) < Config.pauseCount := by
        rw [ha.reads pendingCount]
        have hres : s.tally.reservations ≤ pendingCount s := Nat.le_add_left ..
        show 0 + s.tally.reservations < 8
        omega
      rw [tidy, pauseCheck_eq_self ((congrArg TallyUnit.pause ha.tally).trans hpause) hless]
      refine settleLost_eq_self fun q hq => ?_
      rw [ha.reads (linkUp q)]
      exact (List.mem_filter.1 hq).2
    rw [hself, hp, List.append_nil]
    rfl
  · obtain ⟨more, hmore⟩ := ((Run.refl (L := {}) (s := judgePoolEntry line (dropReturned (.pool, line) s))).tidy
      (a := dropReturned (.pool, line) s)).placesOn rfl
    exact ⟨_, more, rfl, hflag, by rw [hmore, hp]; rfl, fun hpause hpending => absurd ⟨hpause, hpending⟩ hsteady⟩

/-- Settles O49. -/
theorem pagesAreTakenAndCut : Obligations.PagesAreTakenAndCut := by
  refine ⟨fun v s hnext hq => ⟨fun hnear hahead => ?_, fun hbad => ?_⟩, fun v s hnext hw => ?_,
    fun tag line s hfind hq hpage hlines => ?_, fun tag line s hfind hb hw => ?_,
    fun entry s h => ⟨fun hnone => ?_, fun p hp hl => cutPage_done h hp hl⟩,
    fun before reserved header items p s hpage hlines hlen => ?_,
    fun tag line s hfind hb hpart hpage hclosings hfew hlen => ?_, fun l ls p s hpage hlen hfull => ?_⟩
  · exact poolPost_accepted hnext hq (poolPostValid_iff.2 ⟨hnear, hahead⟩)
  · refine poolPost_refused hnext hq fun hvalid => ?_
    obtain ⟨hnear, hahead⟩ := poolPostValid_iff.1 hvalid
    omega
  · rw [exec_poolPost hnext, takeValue_of_not_working hw]
    rfl
  · obtain ⟨⟨hheld, hlate, hclosings, -, -⟩, hpart, -⟩ := hq
    have hb : busy .tally s = false := busy_eq_false hheld hlate _
    intro e addr valid
    by_cases hvalid : offersPage (line.drop (poolEntryOff s)) s
    · obtain ⟨t, more, hexec, ⟨flag, htally⟩, -, -⟩ := poolEntryRead_drains hfind hb hpart hclosings (by simp [hlines])
        (by simp [hlines]) hvalid
      refine ⟨t, hexec, ?_⟩
      rw [htally, hlines]
      exact ⟨rfl, fun _ => ⟨rfl, rfl, rfl⟩, fun hn => absurd hvalid hn⟩
    · have ha := alike_judgePoolEntry_refused (s := dropReturned (.pool, line) s) hvalid (working_of_running hpart)
      have hrow := poolReturned_of_running (s := dropReturned (.pool, line) s) hpart (ha.part.trans hpart)
      refine ⟨_, (exec_poolEntryRead hfind hb).trans (congrArg _ hrow), ?_⟩
      rw [tally_tidy TallyUnit.poolPos, tally_tidy TallyUnit.page, tally_tidy TallyUnit.pageSeq,
        tally_tidy TallyUnit.poolRead, ha.tally]
      refine ⟨rfl, fun hv => absurd hv hvalid, fun _ => ⟨hpage, rfl, ?_⟩⟩
      show (false || (s.tally.page.isNone && (s.tally.poolPos + 1 != s.tally.poolPosted))) = _
      rw [hpage]
      rfl
  · refine ⟨_, exec_poolEntryRead hfind hb, ?_⟩
    have hnot : poolReturned line (dropReturned (.pool, line) s) = { dropReturned (.pool, line) s with
        tally := { s.tally with poolRead := false } } := if_neg (by rw [show working (dropReturned (.pool, line) s) = false from hw]; simp)
    rw [hnot]
  · have hf := cutOrder_refused (entry := entry) (s := orderTakenUp entry s)
      (tallyFull_of_calm (calm_orderTakenUp h.1 entry)) hnone
    obtain ⟨hanswered, hsame, -⟩ := orderRow_refused h (want := fun k => k == 13) rfl hf
    exact ⟨_, rfl, hanswered, hsame⟩
  · intro l t
    have hcompose : t = placeLine l (before.composed reserved) s := by
      have hnow : placesAtOnce s = true := by simp [placesAtOnce, hlines, hpage]
      exact if_pos hnow
    have hlined : Lined (before.composed reserved) s t := Lined.refl.composeLine ..
    refine ⟨hlined.lineNumber, fun hfits => ?_, fun hfull => ?_⟩
    · rw [hcompose, placeLine_eq hpage hlen, if_neg (by omega)]
      exact ⟨page_linePlaced .., placements_linePlaced ..⟩
    · rw [hcompose, placeLine_eq hpage hlen, if_pos (by omega)]
      exact page_closed ..
  · intro e addr p halign hlow hhigh
    obtain ⟨t, more, hexec, ⟨flag, htally⟩, hplaced, hmore⟩ :=
      poolEntryRead_drains hfind hb hpart hclosings hfew hlen ⟨halign, hlow, hhigh⟩
    exact ⟨t, more, hexec, by rw [htally]; rfl, by rw [htally]; rfl, hplaced, hmore⟩
  · have hplace : drainLines (l :: ls) s =
        drainLines ls (pageSearch (closePage 1 (linePlaced p l { s.tally with lines := ls } s))) := by
      rw [drainLines, if_pos (by rw [hpage]; rfl), placeLine_eq hpage hlen, if_pos hfull]
    have hclosed := (page_closed l { s.tally with lines := ls } s (p := p)).1
    rw [hplace, drainLines_pageless hclosed]
    refine ⟨?_, hclosed⟩
    have hkeeps : ∀ u : State, (pageSearch u).tally.lines = u.tally.lines := fun u => by
      unfold pageSearch
      split
      · rw [tally_present]
      · rfl
    rw [hkeeps, (alike_closePage (page_linePlaced ..) 1).tally]
    exact congrArg TallyUnit.lines (alike_linePlaced p l { s.tally with lines := ls } s).tally

end Sys2Proof.Machine

/-! PROOFS. The depot clock (chapter 11): the boundary, the rollover and SET_CLOCK (R134, R171 to R174). -/

namespace Sys2Proof.Machine

/-! ### The rollover (R134, R172) -/

/-- The Water Unit's record at the beginning of a depot day. -/
def dayBegun (w : WaterUnit) : WaterUnit := { w with settled := 0, reserveGiven := false, exhaustedGiven := false }

/-- DAY_ROLLED. -/
def dayRolled (reason : Nat) (old new : BitVec 16) : Notice :=
  { kind := .dayRolled, reason := reason, first := old.toNat, second := new.toNat }

theorem rollover_eq (reason : Nat) (old : BitVec 16) (s : State) : rollover reason old s =
    postLine 2 (notify (dayRolled reason old s.clock.now.day) (retry (setWater (dayBegun s.water) s))) := rfl

theorem kept_rollover (reason : Nat) (old : BitVec 16) (s : State) : kept (rollover reason old s) = kept s := by
  rw [rollover_eq, kept_postLine, kept_notify, kept_retry]
  exact kept_setWater rfl rfl rfl rfl

theorem refreshAsked_rollover (reason : Nat) (old : BitVec 16) (s : State) :
    refreshAsked (.line 2) (rollover reason old s) = true := refreshAsked_post ..

/-- With nobody waiting for water, the wait list's retry does nothing. -/
theorem retry_dayBegun {s : State} (h : s.water.waitList = []) :
    retry (setWater (dayBegun s.water) s) = setWater (dayBegun s.water) s := by
  refine retry_of_nil ?_
  have hwater := (Alike.refl (s := s).setWater dayBegun).water
  rw [hwater]
  exact h

theorem alike_rollover {s : State} (h : s.water.waitList = []) (reason : Nat) (old : BitVec 16) :
    Alike (rollover reason old s) (putWater dayBegun s) := by
  rw [rollover_eq, retry_dayBegun h]
  exact ((Alike.refl.setWater dayBegun).notify _).postLine 2

theorem noticed_rollover {s : State} (h : s.water.waitList = []) (hr : Ringing 32 0 s s) (reason : Nat) (old : BitVec 16) :
    noticeNth 0 (dayRolled reason old s.clock.now.day) s.clock.now s (rollover reason old s) := by
  rw [rollover_eq, retry_dayBegun h]
  exact noticeNth_of_run ((hr.setWater (dayBegun s.water)).mono (by omega : 2 ≤ 31) |>.noticed _)
    ((Run.refl (L := {})).postLine (k := 2)) rfl rfl

theorem freshDrawn_dayBegun (s : State) :
    freshDrawn (putWater dayBegun s) = (s.water.grants.toList.map grantFresh).sum := Nat.zero_add _

/-- A notice asked for since an update of the clock has been asked for since the state before it. -/
theorem noticeNth_congr {k : Nat} {n : Notice} {now : Stamp} {s s' t : State} (hx : s'.exch = s.exch)
    (hb : s'.path.bases = s.path.bases) (h : noticeNth k n now s' t) : noticeNth k n now s t := by
  unfold noticeNth at h ⊢
  rwa [hx, hb] at h

/-! ### The boundary (R171, R173) -/

theorem countDown_eq_map (t : Option Nat) : countDown t = t.map (fun n => n - 1) := by cases t <;> rfl

/-- The state as a boundary finds it: the divider count is 0. -/
def dividerReset (s : State) : State := putClock { s.clock with divider := 0 } s

/-- The counts made, and the clock at its next second. -/
def ticked (s : State) : State :=
  putClock { (tickTimers s).clock with now := nextStamp s.clock.now } (tickTimers s)

theorem exec_depotSecondBoundary {s : State} (hrun : s.clock.running = true) (hdue : overdue s = false) :
    exec .depotSecondBoundary s = .next (conclude (dividerReset s) (advanceClock (tickTimers (dividerReset s)))) := by
  have hnone : serveDue (dividerReset s) = dividerReset s := by
    have hover : overdue (dividerReset s) = false := hdue
    rw [serveDue, hover]
    rfl
  have hb : boundary (dividerReset s) = conclude (dividerReset s) (advanceClock (tickTimers (dividerReset s))) := by
    unfold boundary
    dsimp only
    rw [hnone]
    exact if_pos hrun
  show execDepotSecondBoundary s = _
  rw [execDepotSecondBoundary, if_pos hrun, ← hb]
  rfl

theorem advanceClock_sameDay {s : State} (h : s.clock.now.second ≠ 86399) : advanceClock (tickTimers s) = ticked s := by
  have hday : (nextStamp s.clock.now).day = s.clock.now.day := by
    unfold nextStamp
    rw [if_neg h]
  exact if_pos hday

theorem advanceClock_nextDay {s : State} (h : s.clock.now.second = 86399) :
    advanceClock (tickTimers s) = rollover 1 s.clock.now.day (ticked s) := by
  have hday : ¬ (nextStamp s.clock.now).day = s.clock.now.day := by
    unfold nextStamp
    rw [if_pos h]
    intro hsame
    have : (1 : BitVec 16) = 0 := by
      have hsub := congrArg (· - s.clock.now.day) hsame
      simpa [BitVec.add_comm, BitVec.add_sub_cancel] using hsub
    exact absurd this (by decide)
  exact if_neg hday

/-- What a boundary counts leaves the links, the pause and the pending list. -/
theorem linkUp_ticked (p : PortId) (s : State) : linkUp p (ticked s) = linkUp p s := by
  unfold linkUp ticked tickTimers putClock
  rw [Fin.getElem_fin, getElem_mapVec]
  rfl

theorem ended_ticked (s : State) : Ended s (ticked s) := ⟨rfl, rfl, fun p hp => (linkUp_ticked p s).trans hp⟩

theorem ports_ticked (s : State) (p : PortId) :
    (ticked s).ports[p] = { s.ports[p] with timer := s.ports[p].timer.map (fun n => n - 1) } := by
  show (mapVec tickPort s.ports)[p] = _
  rw [Fin.getElem_fin, getElem_mapVec, ← countDown_eq_map]
  rfl

theorem slots_ticked (s : State) (slot : Slot) : (ticked s).yard.slots[slot] =
    (s.yard.slots[slot]).map (fun v => { v with callTimer := v.callTimer.map (fun n => n - 1) }) := by
  show (mapVec tickVisit s.yard.slots)[slot] = _
  rw [Fin.getElem_fin, getElem_mapVec]
  show tickVisit s.yard.slots[slot] = _
  cases s.yard.slots[slot] with
  | none => rfl
  | some v =>
    show some { v with callTimer := countDown v.callTimer } = _
    rw [countDown_eq_map]
    rfl

theorem bays_ticked (s : State) (b : BayId) : (ticked s).bays[b] = tickBay s.bays[b] := by
  show (mapVec tickBay s.bays)[b] = _
  rw [Fin.getElem_fin, getElem_mapVec]
  rfl

theorem tickBay_idle {x : Bay} (h : x.state ≠ .running) : tickBay x = x := if_neg h

theorem tickBay_running {x : Bay} (h : x.state = .running) : (tickBay x).timer = x.timer.map (fun n => n - 1) ∧
    ∀ z r, x.session = some z → z.stages[z.current]? = some r →
      (tickBay x).session = some { z with stages := z.stages.set z.current { r with elapsed := r.elapsed + 1 } } := by
  have htick : tickBay x = { x with session := x.session.map tickSession, timer := countDown x.timer } := if_pos h
  rw [htick]
  refine ⟨countDown_eq_map _, fun z r hz hr => ?_⟩
  have hstage : z.stage = some r := hr
  show x.session.map tickSession = _
  rw [hz]
  show some (tickSession z) = _
  rw [tickSession, hstage]

theorem age_ticked {s : State} (hw : working s = true) {k : TankId} (hk : tankFitted k s = true) :
    (ticked s).water.tanks[k].age = min (s.latched.turnover * 60) (s.water.tanks[k].age + 1) := by
  have htanks : (ticked s).water.tanks = vecOf 4 (fun k => if tankFitted k s then
      tickTank s.latched.turnover s.water.tanks[k] else s.water.tanks[k]) := if_pos hw
  rw [htanks, Fin.getElem_fin, getElem_vecOf]
  show Tank.age (if tankFitted k s then _ else _) = _
  rw [if_pos hk]
  rfl

/-- A boundary within the day, in a quiet part. -/
theorem boundary_sameDay {s : State} (hq : quiet s) (h : s.clock.now.second ≠ 86399) :
    conclude (dividerReset s) (advanceClock (tickTimers (dividerReset s))) = ticked (dividerReset s) := by
  obtain ⟨hc, hpart, -⟩ := hq
  rw [advanceClock_sameDay (s := dividerReset s) h]
  exact (ended_ticked (dividerReset s)).conclude Alike.refl (steady_of_calm (s := dividerReset s) hc) hpart

/-- The last second of a day: the rollover follows the counts. -/
theorem boundary_nextDay {s : State} (h : s.clock.now.second = 86399) :
    conclude (dividerReset s) (advanceClock (tickTimers (dividerReset s))) =
      conclude (dividerReset s) (rollover 1 s.clock.now.day (ticked (dividerReset s))) := by
  rw [advanceClock_nextDay (s := dividerReset s) h]
  rfl

theorem now_ticked_nextDay {s : State} (h : s.clock.now.second = 86399) :
    (ticked s).clock.now = { day := s.clock.now.day + 1, second := 0 } := by
  show nextStamp s.clock.now = _
  rw [nextStamp, if_pos h]

/-! ### SET_CLOCK (R174) -/

/-- The clock set to a day and a second. -/
def clockSet (day : BitVec 16) (second : Nat) (s : State) : State :=
  putClock { s.clock with now := { day := day, second := second } } s

theorem setClock_sameDay {day : BitVec 16} {second : Nat} {s : State} (h : day = s.clock.now.day) :
    setClock day second s = postLine 2 (clockSet day second s) := if_pos h
theorem setClock_otherDay {day : BitVec 16} {second : Nat} {s : State} (h : day ≠ s.clock.now.day) :
    setClock day second s = rollover 2 s.clock.now.day (clockSet day second s) := if_neg h

theorem alike_setClock_rolls {day : BitVec 16} {second : Nat} {s : State} (h : day ≠ s.clock.now.day)
    (hwait : s.water.waitList = []) : Alike (setClock day second s) (putWater dayBegun (clockSet day second s)) := by
  have hwait' : (clockSet day second s).water.waitList = [] := hwait
  rw [setClock_otherDay h]
  exact alike_rollover hwait' 2 s.clock.now.day

/-- The day set shows in DAY_ROLLED, with the day before it. -/
theorem noticed_setClock_rolls {day : BitVec 16} {second : Nat} {s : State} (h : day ≠ s.clock.now.day)
    (hwait : s.water.waitList = []) (hc : calm s) (hpart : s.exch.part = .running) (hq : s.path.queue.length ≤ 32) :
    noticeNth 0 (dayRolled 2 s.clock.now.day day) { day := day, second := second } s (setClock day second s) := by
  have hwait' : (clockSet day second s).water.waitList = [] := hwait
  have hring : Ringing 32 0 (clockSet day second s) (clockSet day second s) := Ringing.calm hc hpart hq
  rw [setClock_otherDay h]
  exact noticeNth_congr (s' := clockSet day second s) rfl rfl (noticed_rollover hwait' hring 2 s.clock.now.day)

theorem kept_setClock (day : BitVec 16) (second : Nat) (s : State) :
    kept (setClock day second s) = kept (clockSet day second s) := by
  by_cases h : day = s.clock.now.day
  · rw [setClock_sameDay h, kept_postLine]
  · rw [setClock_otherDay h, kept_rollover]

theorem setClockOrder_done {entry : List Byte} {s : State} (h : arg32 entry ≤ 86399) :
    setClockOrder entry s = (.done, setClock (BitVec.ofNat 16 (arg16 4 entry)) (arg32 entry) s) := if_neg (by omega)

/-- The order's end: its effect, and what is asked for stays so. -/
theorem setClock_ends {entry : List Byte} {s : State} (h : orderReady 14 entry s) (hsecond : arg32 entry ≤ 86399) :
    let u := setClock (BitVec.ofNat 16 (arg16 4 entry)) (arg32 entry) (orderTakenUp entry s)
    let t := orderRow (fun k => k == 14) setClockOrder s
    t = fetchOrder (finishOrder .done (tidy (orderTakenUp entry s) u)) ∧ answered .done s t ∧
      t.clock = { s.clock with now := { day := BitVec.ofNat 16 (arg16 4 entry), second := arg32 entry } } := by
  intro u t
  have hf : setClockOrder entry (orderTakenUp entry s) = (.done, u) := setClockOrder_done hsecond
  have hk : kept u = kept (clockSet (BitVec.ofNat 16 (arg16 4 entry)) (arg32 entry) (orderTakenUp entry s)) :=
    kept_setClock ..
  have hpart : u.exch.part = .running := (part_of_kept hk).trans h.2.1
  have hend := orderRow_eq h.2 (want := fun k => k == 14) rfl hf ((part_of_kept (kept_tidy ..)).trans hpart)
  obtain ⟨hanswered, hunits⟩ := orderRow_ends h.2 (want := fun k => k == 14) rfl hf hpart
    (congrArg (fun k => k.exch.orderTaken) hk :) (congrArg (fun k => k.path.bases) hk :)
  refine ⟨hend, hanswered, ?_⟩
  exact (clock_of_besides hunits).trans ((clock_of_kept (kept_tidy ..)).trans (clock_of_kept hk))

/-- A day that stands: the clock's line alone. -/
theorem setClock_keeps {entry : List Byte} {s : State} (h : orderReady 14 entry s) (hsecond : arg32 entry ≤ 86399)
    (hday : BitVec.ofNat 16 (arg16 4 entry) = s.clock.now.day) :
    sameUnits (clockSet (BitVec.ofNat 16 (arg16 4 entry)) (arg32 entry) (orderTakenUp entry s))
      (orderRow (fun k => k == 14) setClockOrder s) := by
  have ha : Alike (setClock (BitVec.ofNat 16 (arg16 4 entry)) (arg32 entry) (orderTakenUp entry s))
      (clockSet (BitVec.ofNat 16 (arg16 4 entry)) (arg32 entry) (orderTakenUp entry s)) := by
    rw [setClock_sameDay (s := orderTakenUp entry s) hday]
    exact Alike.refl.postLine 2
  exact (Ended.orderRow h (want := fun k => k == 14) rfl (setClockOrder_done hsecond) ha .of_ports h.2.1 rfl rfl).2

/-- A change of day with nobody waiting for water: the rollover's own effect. -/
theorem setClock_rolls {entry : List Byte} {s : State} (h : orderReady 14 entry s) (hsecond : arg32 entry ≤ 86399)
    (hday : BitVec.ofNat 16 (arg16 4 entry) ≠ s.clock.now.day) (hwait : s.water.waitList = []) :
    sameUnits (putWater dayBegun (clockSet (BitVec.ofNat 16 (arg16 4 entry)) (arg32 entry) (orderTakenUp entry s)))
      (orderRow (fun k => k == 14) setClockOrder s) := by
  have ha := alike_setClock_rolls (second := arg32 entry) (s := orderTakenUp entry s) hday hwait
  exact (Ended.orderRow h (want := fun k => k == 14) rfl (setClockOrder_done hsecond) ha .of_ports h.2.1 rfl rfl).2

/-! ### The statement -/

/-- Settles O51: the boundary on either side of midnight, the rollover, and SET_CLOCK by its day. -/
theorem boundariesAndSetClock : Obligations.BoundariesAndSetClock := by
  refine ⟨fun s hoff => ?_, fun s hq hrun hdue hsecond => ?_, fun s hq hrun hdue hsecond => ?_, fun reason old s => rfl,
    fun entry s h => ⟨fun hrange => ?_, fun hsecond => ⟨_, rfl, ?_⟩⟩⟩
  · show execDepotSecondBoundary s = _
    rw [execDepotSecondBoundary, if_neg (by simp [hoff])]
  · refine ⟨_, exec_depotSecondBoundary hrun hdue, ?_⟩
    rw [boundary_sameDay hq hsecond]
    have hworking : working (dividerReset s) = true := working_of_running hq.2.1
    have hnow : (ticked (dividerReset s)).clock.now = { s.clock.now with second := s.clock.now.second + 1 } := by
      show nextStamp s.clock.now = _
      rw [nextStamp, if_neg hsecond]
    refine ⟨rfl, hrun, hnow, countDown_eq_map _, ports_ticked (dividerReset s), countDown_eq_map _, rfl, countDown_eq_map _,
      countDown_eq_map _, countDown_eq_map _, rfl, slots_ticked (dividerReset s), fun b => ?_,
      fun k hk => age_ticked (s := dividerReset s) hworking hk, rfl, rfl⟩
    rw [bays_ticked]
    exact ⟨tickBay_idle, tickBay_running⟩
  · refine ⟨_, exec_depotSecondBoundary hrun hdue, ?_⟩
    obtain ⟨hc, hpart, -⟩ := hq
    rw [boundary_nextDay hsecond]
    have hclock : (ticked (dividerReset s)).clock.now = { day := s.clock.now.day + 1, second := 0 } :=
      now_ticked_nextDay (s := dividerReset s) hsecond
    have hk := kept_rollover 1 s.clock.now.day (ticked (dividerReset s))
    have hrunning : (rollover 1 s.clock.now.day (ticked (dividerReset s))).exch.part = .running :=
      (part_of_kept hk).trans hpart
    have hkept := (kept_conclude (a := dividerReset s) (b := rollover 1 s.clock.now.day (ticked (dividerReset s)))
      (by rw [hrunning]; decide)).trans hk
    refine ⟨?_, ?_, fun hwait => ?_⟩
    · rw [clock_of_kept hkept]
      exact hclock
    · exact ((Run.refl (L := {})).conclude (a := dividerReset s)).refreshAsked rfl rfl rfl (refreshAsked_rollover ..)
    · have ha := alike_rollover (s := ticked (dividerReset s)) hwait 1 s.clock.now.day
      have hended : Ended (dividerReset s) (putWater dayBegun (ticked (dividerReset s))) :=
        ⟨rfl, rfl, (ended_ticked (dividerReset s)).links⟩
      rw [hended.conclude ha (steady_of_calm (s := dividerReset s) hc) hpart]
      have hwater : (rollover 1 s.clock.now.day (ticked (dividerReset s))).water =
          dayBegun (ticked (dividerReset s)).water := ha.water
      have hnow : (rollover 1 s.clock.now.day (ticked (dividerReset s))).clock.now =
          (ticked (dividerReset s)).clock.now := congrArg ClockUnit.now ha.clock
      rw [hwater, ha.reads freshDrawn, freshDrawn_dayBegun]
      refine ⟨rfl, rfl, rfl, rfl, rfl, fun hqueue => ?_⟩
      have hring : Ringing 32 0 (ticked (dividerReset s)) (ticked (dividerReset s)) := Ringing.calm hc hpart hqueue
      have hnoticed := noticed_rollover (s := ticked (dividerReset s)) hwait hring 1 s.clock.now.day
      rw [hnow]
      rw [show (ticked (dividerReset s)).clock.now.day = s.clock.now.day + 1 from congrArg Stamp.day hclock] at hnoticed
      exact noticeNth_congr rfl rfl hnoticed
  · have hf : setClockOrder entry (orderTakenUp entry s) = (.refusedRange, orderTakenUp entry s) := if_pos hrange
    obtain ⟨hanswered, hsame, -⟩ := orderRow_refused h (want := fun k => k == 14) rfl hf
    exact ⟨_, rfl, hanswered, hsame⟩
  · obtain ⟨hend, hanswered, hclock⟩ := setClock_ends h hsecond
    refine ⟨hanswered, hclock, fun hday => ?_, fun hday => ⟨?_, fun hwait => ?_⟩⟩
    · obtain ⟨-, -, hports, hgate, hyard, hbays, hwater, htable, htally, -⟩ := setClock_keeps h hsecond hday
      exact ⟨hports, hgate, hyard, hbays, hwater, htable, htally⟩
    · have hasked : refreshAsked (.line 2)
          (setClock (BitVec.ofNat 16 (arg16 4 entry)) (arg32 entry) (orderTakenUp entry s)) = true := by
        rw [setClock_otherDay (s := orderTakenUp entry s) hday]
        exact refreshAsked_rollover ..
      show refreshAsked (.line 2) (orderRow (fun k => k == 14) setClockOrder s) = true
      rw [hend]
      exact refreshAsked_order_end (((Run.refl (L := {})).tidy (a := orderTakenUp entry s)).refreshAsked rfl rfl rfl
        hasked) .done
    · obtain ⟨-, -, -, -, -, -, hwater, -, -, -⟩ := setClock_rolls h hsecond hday hwait
      have hfresh : freshDrawn (orderRow (fun k => k == 14) setClockOrder s) =
          (s.water.grants.toList.map grantFresh).sum := by
        unfold freshDrawn
        rw [hwater]
        exact Nat.zero_add _
      refine ⟨hwater, hfresh, fun hqueue => ?_⟩
      have hnoticed := noticed_setClock_rolls (second := arg32 entry) (s := orderTakenUp entry s) hday hwait
        (calm_orderTakenUp h.1 entry) h.2.1 hqueue
      show noticeNth 0 _ (orderRow (fun k => k == 14) setClockOrder s).clock.now s
        (orderRow (fun k => k == 14) setClockOrder s)
      rw [hclock, hend]
      exact noticeNth_order_end (noticeNth_of_run (noticeNth_congr (s := s) rfl rfl hnoticed)
        ((Run.refl (L := {})).tidy (a := orderTakenUp entry s)) rfl rfl)

end Sys2Proof.Machine

/-! PROOFS. The bays at the fallback flag (R111, R177): what their rules leave of the yard, the ports and the Table Unit's
readiness. -/

namespace Sys2Proof.Machine

/-! ### What is asked of the Exchange Unit leaves the Table Unit free (R14) -/

theorem not_isFor_table_of_exchange {e : Event} (h : e.isFor .exchange = true) : e.isFor .table = false := by
  match e with
  | .value .start | .value .stop | .value (.orderPost _) | .value (.noticeTaken _) => rfl
  | .value (.openFirst _) | .value (.openSecond _) | .value .closeWindow | .value .wrongKey | .value (.commit _ _ _)
  | .value (.poolPost _) | .value .serviceFirst | .value .serviceSecond | .value (.serviceWrong _) => cases h
  | .read .hostHalf _ => rfl
  | .read .order entry =>
    show (orderUnits entry).contains UnitId.table = false
    unfold orderUnits
    split <;> rfl
  | .read (.table _ _) _ | .read (.readback _ _) _ | .read (.balances _) _ | .read .pool _ => cases h
  | .ask _ => rfl
  | .told t => cases t <;> cases h
  | .closing _ => cases h

theorem busy_table_congr {s t : State} (hheld : t.path.held = s.path.held) (harr : t.path.arrived = s.path.arrived) :
    busy .table t = busy .table s := by
  unfold busy holds waits
  rw [hheld, harr]

theorem busy_table_present (i : Issue) (s : State) : busy .table (present .exchange i s) = busy .table s := by
  have hholds : holds .table (present .exchange i s) = holds .table s := by
    unfold holds present
    split
    · rfl
    · rw [List.any_append]
      exact Bool.or_false _
  have hwaits : waits .table (present .exchange i s) = waits .table s := by
    unfold waits
    rw [arrived_present]
  unfold busy
  rw [hholds, hwaits]

theorem waits_table_reach (i : ExItem) (s : State) : waits .table (reach (.ask i) s) = waits .table s := by
  have hpassed : ∀ a : Arrival, ((a.passed [.exchange]).late && (a.passed [.exchange]).event.isFor .table) =
      (a.late && a.event.isFor .table) := fun a => by
    show ((a.late || (a.event.isFor .exchange || false)) && a.event.isFor .table) = _
    cases hx : a.event.isFor .exchange with
    | true => simp [not_isFor_table_of_exchange hx]
    | false => simp
  unfold waits reach
  dsimp only
  rw [List.any_append]
  have hlast : ∀ late, List.any [(⟨.ask i, late, s.exch.orderTaken⟩ : Arrival)]
      (fun a => a.late && a.event.isFor .table) = false := fun late => by
    simp [Event.isFor, Event.units]
  rw [hlast, Bool.or_false]
  split
  · rw [List.any_map]
    exact congrArg (s.path.arrived.any ·) (funext hpassed)
  · rfl

theorem busy_table_reach (i : ExItem) (s : State) : busy .table (reach (.ask i) s) = busy .table s := by
  unfold busy
  rw [waits_table_reach]
  rfl

theorem busy_table_makeWay (u : UnitId) (r : Rec) (s : State) : busy .table (makeWay u r s) = busy .table s := by
  have hholds : holds .table (makeWay u r s) = holds .table s :=
    (giveWay_perm u r s.path.held).any_eq
  unfold busy
  rw [hholds]
  rfl

theorem busy_table_writeNotice (n : Notice) (asked : Stamp) (s : State) :
    busy .table (writeNotice n asked s) = busy .table s := by
  have hkeep : ∀ (pos : Option Count) (u : State), busy .table (keepDropPos n pos u) = busy .table u :=
    fun pos u => busy_table_congr (queue_keepDropPos_held ..) (arrived_keepDropPos ..)
  unfold writeNotice
  split
  · dsimp only
    rw [busy_table_present, hkeep]
    exact (busy_table_makeWay .exchange _ _).trans (busy_table_present _ s)
  · dsimp only
    split
    · exact hkeep _ _
    · rw [busy_table_present]
      exact hkeep _ _

theorem busy_table_notify (n : Notice) (s : State) : busy .table (notify n s) = busy .table s := by
  unfold notify askNotice
  repeat' split
  · exact busy_table_reach ..
  · exact busy_table_writeNotice ..
  · rfl

theorem busy_table_post (r : Rec) (s : State) : busy .table (post r s) = busy .table s := by
  unfold post
  split
  · exact busy_table_reach ..
  · exact busy_table_present ..

theorem busy_table_postChanged (k : Fin 64) (a s : State) : busy .table (postChanged k a s) = busy .table s := by
  unfold postChanged
  split
  · rfl
  · exact busy_table_post ..

theorem busy_table_setPort (p : PortId) (x : Port) (s : State) : busy .table (setPort p x s) = busy .table s := by
  unfold setPort
  dsimp only
  split
  · exact busy_table_postChanged ..
  · rfl

theorem busy_table_offer (p : PortId) (f : QFrame) (s : State) : busy .table (offer p f s) = busy .table s := by
  unfold offer
  dsimp only
  repeat' split
  · exact busy_table_setPort ..
  · exact (busy_table_notify ..).trans ((busy_table_setPort ..).trans (busy_table_setPort ..))
  · exact busy_table_setPort ..

/-! ### One bay's part of the fallback (R111) -/

/-- A bay at rest: neither called for nor washing. -/
def BayState.resting : BayState → Bool
  | .free | .closed | .clearing | .fault => true
  | .calling | .waitingWater | .running | .settling => false

/-- While bay `b`'s record becomes `x`: the Table Unit stays free, the flag set, every visit's slot taken, and the other bays
and the links of the other ports stand. -/
structure Falls (b : BayId) (x : Bay) (s t : State) : Prop where
  free : busy .table t = false
  fallback : t.clock.fallback = true
  tally : t.tally = s.tally
  slots : ∀ slot : Slot, (s.yard.slots[slot]).isSome = true → (t.yard.slots[slot]).isSome = true
  bay : t.bays[b] = x
  bays : ∀ b' : BayId, b' ≠ b → t.bays[b'] = s.bays[b']
  links : ∀ p : PortId, p ≠ bayPort b → linkUp p t = linkUp p s

namespace Falls

variable {b : BayId} {x : Bay} {s t u : State}

theorem start (hfree : busy .table s = false) (hfall : s.clock.fallback = true) (b : BayId) : Falls b s.bays[b] s s :=
  ⟨hfree, hfall, rfl, fun _ h => h, rfl, fun _ _ => rfl, fun _ _ => rfl⟩

/-- What asks for requests alone. -/
theorem besides (h : Falls b x s t) (hb : Machine.besides u = Machine.besides t)
    (hbusy : busy .table u = busy .table t) : Falls b x s u where
  free := hbusy.trans h.free
  fallback := (congrArg ClockUnit.fallback (clock_of_besides hb)).trans h.fallback
  tally := (tally_of_besides hb).trans h.tally
  slots slot hs := by rw [yard_of_besides hb]; exact h.slots slot hs
  bay := by rw [bays_of_besides hb]; exact h.bay
  bays b' hb' := by rw [bays_of_besides hb]; exact h.bays b' hb'
  links p hp := by
    unfold linkUp
    rw [ports_of_besides hb]
    exact h.links p hp

theorem notify (h : Falls b x s t) (n : Notice) : Falls b x s (notify n t) :=
  h.besides (besides_notify ..) (busy_table_notify ..)
theorem post (h : Falls b x s t) (r : Rec) : Falls b x s (post r t) := h.besides (besides_post ..) (busy_table_post ..)

/-- The water unit's record written. -/
theorem setWater (h : Falls b x s t) (w : WaterUnit) : Falls b x s (setWater w t) := by
  have hput : Falls b x s { t with water := w } :=
    ⟨h.free, h.fallback, h.tally, h.slots, h.bay, h.bays, h.links⟩
  exact hput.besides (besides_postChanged ..) (busy_table_postChanged ..)

/-- The bay's own record written. -/
theorem setBayWith (h : Falls b x s t) (f : Bay → Bay) : Falls b (f x) s (setBayWith b f t) := by
  have hput : Falls b (f x) s (putBay b f t) := by
    refine ⟨h.free, h.fallback, h.tally, h.slots, ?_, fun b' hb' => ?_, h.links⟩
    · rw [← h.bay]
      exact Vector.getElem_set_self ..
    · exact (getElem_putBay_ne hb' f t).trans (h.bays b' hb')
  exact hput.besides (besides_postChanged ..) (busy_table_postChanged ..)

/-- A visit's record written. -/
theorem putVisit (h : Falls b x s t) (slot : Slot) (v : Visit) : Falls b x s (putVisit slot (some v) t) := by
  refine ⟨h.free, h.fallback, h.tally, fun slot' hs => ?_, h.bay, h.bays, h.links⟩
  have hold := h.slots slot' hs
  show ((t.yard.slots.set slot (some v))[slot']).isSome = true
  rw [Fin.getElem_fin, Vector.getElem_set]
  split
  · rfl
  · exact hold

theorem setVisit (h : Falls b x s t) (slot : Slot) (v : Visit) : Falls b x s (setVisit slot (some v) t) :=
  (h.putVisit slot v).post _

/-- The queue written. -/
theorem enqueue (h : Falls b x s t) (slot : Slot) (v : Visit) : Falls b x s (enqueue slot v t) :=
  ⟨h.free, h.fallback, h.tally, h.slots, h.bay, h.bays, h.links⟩

/-- A frame offered to the bay's own port. -/
theorem offer (h : Falls b x s t) (f : QFrame) : Falls b x s (offer (bayPort b) f t) := by
  have hb := besidesPorts_offer (bayPort b) f t
  refine ⟨(busy_table_offer ..).trans h.free, ?_, (tally_of_besidesPorts hb).trans h.tally, fun slot hs => ?_, ?_,
    fun b' hb' => ?_, fun p hp => ?_⟩
  · rw [clock_of_besidesPorts hb]; exact h.fallback
  · rw [yard_of_besidesPorts hb]; exact h.slots slot hs
  · rw [bays_of_besidesPorts hb]; exact h.bay
  · rw [bays_of_besidesPorts hb]; exact h.bays b' hb'
  · unfold linkUp
    rw [port_offer_ne hp]
    exact h.links p hp

/-- With the flag set no bay is called. -/
theorem arbiter (h : Falls b x s t) : Falls b x s (arbiter t) := by
  have hnone : Machine.arbiter t = t := if_pos h.fallback
  rw [hnone]
  exact h

theorem arbiterIfFree (h : Falls b x s t) (b' : BayId) : Falls b x s (arbiterIfFree b' t) := by
  unfold Machine.arbiterIfFree
  split
  · exact h.arbiter
  · exact h

/-- A call ended at the bay. -/
theorem endCallAtBay (h : Falls b x s t) :
    Falls b { freeOrClosed x with bound := none, lastTag := none } s (endCallAtBay b t) := by
  have hended := (h.setBayWith fun x => { freeOrClosed x with bound := none, lastTag := none }).offer stageStopFrame
  unfold Machine.endCallAtBay
  dsimp only
  split
  · exact hended.notify _
  · exact hended

theorem withdrawCall (h : Falls b x s t) (slot : Slot) (v : Visit) (cause : Nat) :
    Falls b x s (withdrawCall slot v cause t) :=
  (((h.putVisit slot _).enqueue slot _).notify _).arbiter.post _

/-- A session ended for a reason. -/
theorem endSession (h : Falls b x s t) {z : Session} (hz : x.session = some z) (r : AbortReason) :
    Falls b (bayAfter (some r) x) s (endSession b (some r) t) := by
  have hset := h.setBayWith (bayAfter (some r))
  have hsession : t.bays[b].session = some z := by rw [h.bay]; exact hz
  unfold Machine.endSession
  rw [hsession]
  dsimp only
  refine arbiterIfFree ?_ b
  split
  · exact hset.notify _
  · exact (hset.setVisit _ _).notify _

end Falls

theorem resting_freeOrClosed (x : Bay) : (freeOrClosed x).state.resting = true := by
  unfold freeOrClosed
  split <;> rfl

theorem resting_bayAfter (x : Bay) : (bayAfter (some .fallback) x).state.resting = true := by
  unfold bayAfter
  rw [if_neg (by simp)]
  dsimp only
  split
  · rfl
  · exact resting_freeOrClosed _

/-- A bay that is called for has its visit, and one that waits for water its session. -/
def Sound (b : BayId) (s : State) : Prop :=
  (s.bays[b].state = .calling → (boundVisit b s).isSome = true) ∧
    (s.bays[b].state = .waitingWater → (s.bays[b].session).isSome = true)

/-- A bay's rule brings it to rest, or leaves it, its port with it; a sound bay is left neither called for nor waiting. -/
theorem falls_bayFallback {s : State} (b : BayId) (hfree : busy .table s = false) (hfall : s.clock.fallback = true) :
    ∃ x, Falls b x s (bayFallback b s) ∧ (x.state.resting = true ∨
      x = s.bays[b] ∧ (bayFallback b s).ports = s.ports ∧ (Sound b s → x.state ≠ .calling ∧ x.state ≠ .waitingWater)) := by
  have hstart := Falls.start hfree hfall b
  unfold bayFallback
  split
  · next hstate =>
    split
    · next hnone =>
      refine ⟨_, hstart, Or.inr ⟨rfl, rfl, fun hsound => absurd (hsound.1 hstate) ?_⟩⟩
      rw [boundVisit, hnone]
      simp
    · next slot v _ =>
      exact ⟨_, hstart.endCallAtBay.withdrawCall slot v 2, Or.inl (resting_freeOrClosed s.bays[b])⟩
  · next hstate =>
    have hwithdrawn := hstart.setWater { s.water with waitList := s.water.waitList.filter (fun e => e.bay != b) }
    cases hz : s.bays[b].session with
    | none =>
      have hnone : endSession b (some .fallback) (withdraw b s) = withdraw b s := by
        unfold endSession
        rw [show (withdraw b s).bays[b].session = none from (congrArg Bay.session hwithdrawn.bay).trans hz]
      rw [hnone]
      exact ⟨_, hwithdrawn, Or.inr ⟨rfl, ports_setWater ..,
        fun hsound => absurd (hsound.2 hstate) (by rw [hz]; simp)⟩⟩
    | some z => exact ⟨_, hwithdrawn.endSession hz .fallback, Or.inl (resting_bayAfter s.bays[b])⟩
  all_goals next hstate => exact ⟨_, hstart, Or.inr ⟨rfl, rfl, fun _ => by rw [hstate]; exact ⟨nofun, nofun⟩⟩⟩

end Sys2Proof.Machine

/-! PROOFS. The fallback flag told to every bay and to the Table Unit (R111, R143, R177), and the loss of the ports that the
ends of calls have overrun (R43). -/

namespace Sys2Proof.Machine

/-! ### All the bays (R111) -/

/-- What the bays' rules at the flag keep of the state they began in: a bay stands or has come to rest, and a port lost is that
of a bay at rest. -/
structure Standing (s t : State) : Prop where
  tally : t.tally = s.tally
  slots : ∀ slot : Slot, (s.yard.slots[slot]).isSome = true → (t.yard.slots[slot]).isSome = true
  bays : ∀ b : BayId, t.bays[b] = s.bays[b] ∨ t.bays[b].state.resting = true
  links : ∀ p : PortId, linkUp p s = true → linkUp p t = false → ∃ b, p = bayPort b ∧ t.bays[b].state.resting = true

/-- The same while the bays are told: the flag is set, and the Table Unit free. -/
structure Fallen (s t : State) : Prop extends Standing s t where
  free : busy .table t = false
  fallback : t.clock.fallback = true

/-- A bay that is neither called for nor waits for water. -/
def idle (x : Bay) : Prop := x.state ≠ .calling ∧ x.state ≠ .waitingWater

theorem idle_of_resting {x : Bay} (h : x.state.resting = true) : idle x :=
  ⟨fun hc => by simp [hc, BayState.resting] at h, fun hw => by simp [hw, BayState.resting] at h⟩

namespace Fallen

variable {s t : State}

/-- A sound bay is sound still: it stands, its visit's slot is taken, or it is at rest. -/
theorem sound (h : Fallen s t) {b : BayId} (hs : Sound b s) : Sound b t := by
  rcases h.bays b with hsame | hrest
  · refine ⟨fun hc => ?_, fun hw => ?_⟩
    · rw [hsame] at hc
      have hbound := hs.1 hc
      unfold boundVisit at hbound ⊢
      rw [hsame]
      cases hslot : s.bays[b].bound with
      | none =>
        rw [hslot] at hbound
        cases hbound
      | some slot =>
        rw [hslot] at hbound
        simp only [Option.bind_some, Option.isSome_map] at hbound ⊢
        exact h.slots slot hbound
    · rw [hsame] at hw ⊢
      exact hs.2 hw
  · exact ⟨fun hc => absurd hc (idle_of_resting hrest).1, fun hw => absurd hw (idle_of_resting hrest).2⟩

/-- One more bay. -/
theorem step (h : Fallen s t) (b : BayId) : Fallen s (bayFallback b t) ∧ (Sound b s → idle (bayFallback b t).bays[b]) ∧
    ∀ b' : BayId, idle t.bays[b'] → idle (bayFallback b t).bays[b'] := by
  obtain ⟨x, hf, hx⟩ := falls_bayFallback b h.free h.fallback
  have hbay : (bayFallback b t).bays[b] = t.bays[b] ∨ (bayFallback b t).bays[b].state.resting = true := by
    rw [hf.bay]
    exact hx.symm.imp_left fun hsame => hsame.1
  have hbays : ∀ b' : BayId, (bayFallback b t).bays[b'] = t.bays[b'] ∨ (bayFallback b t).bays[b'].state.resting = true := fun b' => by
    by_cases hb : b' = b
    · rw [hb]; exact hbay
    · exact Or.inl (hf.bays b' hb)
  refine ⟨⟨⟨hf.tally.trans h.tally, fun slot hs => hf.slots slot (h.slots slot hs), fun b' => ?_,
    fun p hp hlost => ?_⟩, hf.free, hf.fallback⟩, fun hsound => ?_, fun b' hidle => ?_⟩
  · rcases hbays b' with hsame | hrest
    · rw [hsame]; exact h.bays b'
    · exact Or.inr hrest
  · by_cases hown : p = bayPort b
    · rcases hx with hrest | ⟨-, hports, -⟩
      · exact ⟨b, hown, by rw [hf.bay]; exact hrest⟩
      · have hlink : linkUp p t = false := by
          unfold linkUp at hlost ⊢
          rwa [hports] at hlost
        obtain ⟨b', hp', hrest⟩ := h.links p hp hlink
        refine ⟨b', hp', ?_⟩
        rcases hbays b' with hsame | hrest'
        · rw [hsame]; exact hrest
        · exact hrest'
    · rw [hf.links p hown] at hlost
      obtain ⟨b', hp', hrest⟩ := h.links p hp hlost
      refine ⟨b', hp', ?_⟩
      rcases hbays b' with hsame | hrest'
      · rw [hsame]; exact hrest
      · exact hrest'
  · rw [hf.bay]
    rcases hx with hrest | ⟨-, -, hidle⟩
    · exact idle_of_resting hrest
    · exact hidle (h.sound hsound)
  · rcases hbays b' with hsame | hrest
    · rw [hsame]; exact hidle
    · exact idle_of_resting hrest

/-- A list of bays, one after another. -/
theorem bays_told (h : Fallen s t) (l : List BayId) : Fallen s (l.foldl (fun acc b => bayFallback b acc) t) ∧
    ∀ b : BayId, (b ∈ l ∧ Sound b s) ∨ idle t.bays[b] → idle (l.foldl (fun acc b => bayFallback b acc) t).bays[b] := by
  induction l generalizing t with
  | nil => exact ⟨h, fun b hb => hb.elim (fun hm => by simp at hm) id⟩
  | cons a l ih =>
    obtain ⟨hstep, hsound, hidle⟩ := h.step a
    obtain ⟨hrest, htold⟩ := ih hstep
    refine ⟨hrest, fun b hb => htold b ?_⟩
    rcases hb with ⟨hmem, hs⟩ | hi
    · rcases List.mem_cons.1 hmem with rfl | hmem
      · exact Or.inr (hsound hs)
      · exact Or.inl ⟨hmem, hs⟩
    · exact Or.inr (hidle b hi)

end Fallen

/-! ### The Table Unit told (R143) -/

theorem alike_tableFallback (s : State) : ∃ f, Alike (tableFallback s) (putTable f s) := by
  unfold tableFallback
  split
  · exact ⟨_, alike_leaveOpen ..⟩
  · exact ⟨_, alike_shutWindow s⟩
  · exact ⟨_, alike_shutWindow s⟩
  · exact ⟨id, Alike.refl⟩

theorem Standing.putTable {s t u : State} (h : Standing s t) {f : TableUnit → TableUnit} (ha : Alike u (putTable f t)) :
    Standing s u := by
  have hports : u.ports = t.ports := ha.ports
  have hbays : u.bays = t.bays := ha.bays
  have hyard : u.yard = t.yard := ha.yard
  have htally : u.tally = t.tally := ha.tally
  refine ⟨htally.trans h.tally, fun slot hs => by rw [hyard]; exact h.slots slot hs,
    fun b => by rw [hbays]; exact h.bays b, fun p hp hlost => ?_⟩
  have hlink : linkUp p t = false := by
    unfold linkUp at hlost ⊢
    rwa [hports] at hlost
  rw [hbays]
  exact h.links p hp hlink

theorem tellFallback_eq (s : State) :
    tellFallback s = tellTable .fallback (allBays.foldl (fun acc b => bayFallback b acc) s) := rfl

/-- The flag told to all: the window is shut, and the sound bays are idle. -/
theorem standing_tellFallback {s t : State} (h : Fallen s t) : Standing s (tellFallback t) ∧
    (tellFallback t).table.window = .shut ∧ ∀ b : BayId, Sound b s → idle (tellFallback t).bays[b] := by
  obtain ⟨hbays, hidle⟩ := h.bays_told allBays
  rw [tellFallback_eq]
  generalize allBays.foldl (fun acc b => bayFallback b acc) t = u at hbays hidle ⊢
  have htell : tellTable .fallback u = tableFallback u := tellTable_of_free hbays.free
  obtain ⟨f, ha⟩ := alike_tableFallback u
  have hwindow : (tableFallback u).table.window = .shut := window_tableTold (Or.inl rfl) u
  have hb : (tableFallback u).bays = u.bays := ha.bays
  rw [htell, hb]
  exact ⟨hbays.toStanding.putTable ha, hwindow, fun b hs => hidle b (Or.inl ⟨List.mem_finRange b, hs⟩)⟩

/-! ### The ports that the calls' ends have lost (R43) -/

/-- A bay at rest loses its port: it stays at rest. -/
theorem bayLost_resting {b : BayId} {s : State} (h : s.bays[b].state.resting = true) :
    ∃ f, Alike (bayLost b s) (putBay b f s) ∧ (f s.bays[b]).state.resting = true := by
  have hunseen := alike_bayUnseen b (Alike.refl (s := s))
  have hfault : (faultOrClosed (unseen s.bays[b])).state.resting = true := by
    unfold faultOrClosed
    split <;> rfl
  have hstays : (unseen s.bays[b]).state.resting = true := h
  rw [bayLost_eq]
  cases hstate : s.bays[b].state with
  | free => exact ⟨unseen, hunseen, hstays⟩
  | closed => exact ⟨unseen, hunseen, hstays⟩
  | fault => exact ⟨unseen, hunseen, hstays⟩
  | clearing =>
    refine ⟨fun x => faultOrClosed (unseen x), (hunseen.setBayWith b faultOrClosed).trans ?_, hfault⟩
    unfold putBay
    dsimp only
    simp only [Fin.getElem_fin, Vector.getElem_set_self, Vector.set_set]
    exact Alike.refl
  | calling | waitingWater | running | settling =>
    rw [hstate] at h
    cases h

/-- The bays that stand or rest, and the yard, through the loss of ports of bays at rest. -/
structure Rested (s t : State) : Prop where
  yard : t.yard = s.yard
  table : t.table = s.table
  bays : ∀ b : BayId, t.bays[b] = s.bays[b] ∨ t.bays[b].state.resting = true

theorem Rested.idle {s t : State} (h : Rested s t) {b : BayId} (hi : Machine.idle s.bays[b]) : Machine.idle t.bays[b] := by
  rcases h.bays b with hsame | hrest
  · rw [hsame]; exact hi
  · exact idle_of_resting hrest

theorem rested_settlePorts (n : Nat) {ups : List PortId} {s : State}
    (h : ∀ p ∈ ups, linkUp p s = false → ∃ b, p = bayPort b ∧ s.bays[b].state.resting = true) :
    Rested s (settlePorts n ups s) := by
  induction n generalizing ups s with
  | zero => exact ⟨rfl, rfl, fun _ => Or.inl rfl⟩
  | succ n ih =>
    unfold settlePorts
    split
    · exact ⟨rfl, rfl, fun _ => Or.inl rfl⟩
    · next p hp =>
      have hlost : linkUp p s = false := by simpa using List.find?_some hp
      obtain ⟨b, hpb, hrest⟩ := h p (List.mem_of_find?_eq_some hp) hlost
      obtain ⟨f, ha, hf⟩ := bayLost_resting hrest
      rw [hpb, roleLost_bayPort]
      have hports : (bayLost b s).ports = s.ports := ha.ports
      have hyard : (bayLost b s).yard = s.yard := ha.yard
      have htable : (bayLost b s).table = s.table := ha.table
      have hbays : ∀ b' : BayId, (bayLost b s).bays[b'] = s.bays[b'] ∨ (bayLost b s).bays[b'].state.resting = true := fun b' => by
        rw [ha.bays]
        by_cases hb : b' = b
        · rw [hb, getElem_putBay_self]
          exact Or.inr hf
        · exact Or.inl (getElem_putBay_ne hb f s)
      have hnext := ih (ups := ups.erase (bayPort b)) (s := bayLost b s) fun q hq hlostq => by
        have hlinkq : linkUp q s = false := by
          unfold linkUp at hlostq ⊢
          rwa [hports] at hlostq
        obtain ⟨b', hqb, hrest'⟩ := h q (List.mem_of_mem_erase hq) hlinkq
        refine ⟨b', hqb, ?_⟩
        rcases hbays b' with hsame | hr
        · rw [hsame]; exact hrest'
        · exact hr
      refine ⟨hnext.yard.trans hyard, hnext.table.trans htable, fun b' => ?_⟩
      rcases hnext.bays b' with hsame | hr
      · rw [hsame]; exact hbays b'
      · exact Or.inr hr

/-- The end of an event at which the flag has been told to all: the pause stands, and the ports lost are settled. -/
theorem rested_tidy {s t : State} (h : Standing s t) (hc : calm s) : Rested t (tidy s t) := by
  obtain ⟨-, -, -, hpause, hfew⟩ := hc
  have hpending : pendingCount t = pendingCount s := congrArg (fun x : TallyUnit => x.lines.length + x.reservations) h.tally
  rw [tidy, pauseCheck_eq_self ((congrArg TallyUnit.pause h.tally).trans hpause) (by rw [hpending]; exact hfew)]
  unfold settleLost
  split
  · exact rested_settlePorts 11 fun p hp hlost => h.links p (List.mem_filter.1 hp).2 hlost
  · exact ⟨rfl, rfl, fun _ => Or.inl rfl⟩

end Sys2Proof.Machine

/-! PROOFS. The service monitor (chapter 11): its table of states and keys, the countdown, the lapse (R176, R177). -/

namespace Sys2Proof.Machine

/-! ### The lapse (R177) -/

/-- The Clock and Monitor's record of a lapse. -/
def lapsedClock (c : ClockUnit) : ClockUnit :=
  { c with monitor := .lapsed, countdown := none, faultLine := true
           fallback := c.fallback || c.latchedAction == some .fallback }

/-- A lapse before the units are told of the flag. -/
def lapsed (cause value : Nat) (s : State) : State :=
  postLine 2 (notify { kind := .monitor, reason := 2, first := cause, second := value } (putClock (lapsedClock s.clock) s))

theorem lapse_eq (cause value : Nat) (s : State) : lapse cause value s =
    if (s.clock.latchedAction == some .fallback) = true then tellFallback (lapsed cause value s)
    else lapsed cause value s := rfl

theorem alike_lapsed (cause value : Nat) (s : State) : Alike (lapsed cause value s) (putClock (lapsedClock s.clock) s) :=
  (Alike.refl.notify _).postLine 2

theorem alike_setMonitor (c : ClockUnit) (s : State) : Alike (setMonitor c s) (putClock c s) :=
  Alike.refl.postChanged 2 s

theorem clock_setMonitor (c : ClockUnit) (s : State) : (setMonitor c s).clock = c := (alike_setMonitor c s).clock

theorem tellTable_fallback_keeps (s : State) : (tellTable .fallback s).clock = s.clock ∧
    (tellTable .fallback s).exch.part = s.exch.part := by
  cases hb : busy .table s with
  | true =>
    have htell : tellTable .fallback s = reach (.told .fallback) (leaveLifetime s) := by
      unfold tellTable
      rw [if_pos hb]
    rw [htell]
    unfold leaveLifetime leaveExpiry
    repeat' split
    all_goals exact ⟨rfl, rfl⟩
  | false =>
    obtain ⟨f, ha⟩ := alike_tableFallback s
    rw [tellTable_of_free hb]
    exact ⟨ha.clock, ha.part⟩

theorem kept_bays_told (l : List BayId) (s : State) : kept (l.foldl (fun acc b => bayFallback b acc) s) = kept s := by
  induction l generalizing s with
  | nil => rfl
  | cons b l ih => exact (ih _).trans (kept_bayFallback b s)

theorem tellFallback_keeps (s : State) : (tellFallback s).clock = s.clock ∧ (tellFallback s).exch.part = s.exch.part := by
  have hk := kept_bays_told allBays s
  obtain ⟨hclock, hpart⟩ := tellTable_fallback_keeps (allBays.foldl (fun acc b => bayFallback b acc) s)
  rw [tellFallback_eq]
  exact ⟨hclock.trans (clock_of_kept hk), hpart.trans (part_of_kept hk)⟩

theorem lapse_keeps (cause value : Nat) (s : State) : (lapse cause value s).clock = lapsedClock s.clock ∧
    (lapse cause value s).exch.part = s.exch.part := by
  have ha := alike_lapsed cause value s
  rw [lapse_eq]
  split
  · obtain ⟨hclock, hpart⟩ := tellFallback_keeps (lapsed cause value s)
    exact ⟨hclock.trans ha.clock, hpart.trans ha.part⟩
  · exact ⟨ha.clock, ha.part⟩

/-! ### What a value handed leaves of the other units -/

/-- Two states alike in what the flag's telling reads: the bays, the yard, the ports, the Tally Unit, the part's state and the
Table Unit's readiness. -/
structure Near (s t : State) : Prop where
  bays : t.bays = s.bays
  yard : t.yard = s.yard
  ports : t.ports = s.ports
  tally : t.tally = s.tally
  part : t.exch.part = s.exch.part
  busy : busy .table t = busy .table s

namespace Near

variable {s t u : State}

theorem refl : Near s s := ⟨rfl, rfl, rfl, rfl, rfl, rfl⟩
theorem drawn : Near s (drawn s) := ⟨rfl, rfl, rfl, rfl, rfl, rfl⟩

theorem of_alike (h : Near s t) {c : ClockUnit} (ha : Alike u (putClock c t)) (hb : Machine.busy .table u = Machine.busy .table t) :
    Near s u :=
  ⟨ha.bays.trans h.bays, ha.yard.trans h.yard, ha.ports.trans h.ports, ha.tally.trans h.tally, ha.part.trans h.part,
    hb.trans h.busy⟩

theorem setMonitor (h : Near s t) (c : ClockUnit) : Near s (setMonitor c t) :=
  h.of_alike (alike_setMonitor c t) (busy_table_postChanged ..)

theorem notify (h : Near s t) (n : Notice) : Near s (notify n t) :=
  h.of_alike (c := t.clock) (Alike.refl.notify n) (busy_table_notify ..)

theorem lapsed (h : Near s t) (cause value : Nat) : Near s (lapsed cause value t) :=
  h.of_alike (alike_lapsed cause value t) ((busy_table_post ..).trans (busy_table_notify ..))

theorem standing (h : Near s t) : Standing s t where
  tally := h.tally
  slots slot hs := by rw [h.yard]; exact hs
  bays b := by rw [h.bays]; exact Or.inl rfl
  links p hp hlost := by
    unfold linkUp at hp hlost
    rw [h.ports, hp] at hlost
    cases hlost

/-- The flag set at a lapse, and told to all. -/
theorem lapse_fallback (h : Near s t) (hfree : Machine.busy .table s = false) (cause value : Nat)
    (hfall : t.clock.latchedAction = some .fallback) : Standing s (lapse cause value t) ∧
      (lapse cause value t).table.window = .shut ∧ ∀ b : BayId, Sound b s → idle (lapse cause value t).bays[b] := by
  have hl := h.lapsed cause value
  have hset : (Machine.lapsed cause value t).clock.fallback = true := by
    rw [(alike_lapsed cause value t).clock]
    show (t.clock.fallback || t.clock.latchedAction == some .fallback) = true
    simp [hfall]
  have hlapse : lapse cause value t = tellFallback (Machine.lapsed cause value t) := if_pos (by simp [hfall])
  rw [hlapse]
  exact standing_tellFallback ⟨hl.standing, hl.busy.trans hfree, hset⟩

theorem lapse (h : Near s t) (hfree : Machine.busy .table s = false) (cause value : Nat) :
    Standing s (lapse cause value t) := by
  by_cases hfall : t.clock.latchedAction = some .fallback
  · exact (h.lapse_fallback hfree cause value hfall).1
  · have hlapse : Machine.lapse cause value t = Machine.lapsed cause value t := if_neg (by simpa using hfall)
    rw [hlapse]
    exact (h.lapsed cause value).standing

end Near

/-! ### The end of the monitor's event (R28) -/

theorem openVisits_pos_iff {s : State} : 0 < openVisits s ↔ ∃ slot : Slot, (s.yard.slots[slot]).isSome = true := by
  unfold openVisits
  rw [List.length_pos_iff_exists_mem]
  constructor
  · rintro ⟨v, hv⟩
    obtain ⟨hmem, hsome⟩ := List.mem_filter.1 hv
    obtain ⟨i, hi, rfl⟩ := List.mem_iff_getElem.1 hmem
    exact ⟨⟨i, by simpa using hi⟩, by simpa using hsome⟩
  · rintro ⟨slot, hslot⟩
    exact ⟨s.yard.slots[slot], List.mem_filter.2 ⟨Vector.mem_toList_iff.2 (Vector.getElem_mem _), hslot⟩⟩

/-- The part works on: in RUNNING, or in STOPPING with a visit left. -/
def worksOn (s : State) : Prop := s.exch.part = .running ∨ (s.exch.part = .stopping ∧ calm s ∧ 0 < openVisits s)

theorem working_of_worksOn {s : State} (h : worksOn s) : working s = true := by
  unfold working
  rcases h with h | ⟨h, -, -⟩ <;> simp [h]

theorem busy_table_of_calm {s : State} (h : calm s) : busy .table s = false := busy_eq_false h.1 h.2.1 _

/-- The event ends without the wind-down, since a visit is left. -/
theorem conclude_of_worksOn {s u : State} (h : worksOn s) (hpart : u.exch.part = s.exch.part)
    (hstands : busy .table s = false → Standing s u) : conclude s u = tidy s u := by
  rcases h with hrun | ⟨-, hc, hvisit⟩
  · exact conclude_of_running (hpart.trans hrun)
  · have hs := hstands (busy_table_of_calm hc)
    have hleft : 0 < openVisits (tidy s u) := by
      obtain ⟨slot, hslot⟩ := openVisits_pos_iff.1 hvisit
      refine openVisits_pos_iff.2 ⟨slot, ?_⟩
      rw [(rested_tidy hs hc).yard]
      exact hs.slots slot hslot
    have hnot : windDownMet (tidy s u) = false := by
      have hne : (openVisits (tidy s u) == 0) = false := by simpa using (Nat.pos_iff_ne_zero.1 hleft)
      simp [windDownMet, hne]
    rw [conclude, windDown_eq_self hnot]

/-! ### The monitor's table (R176) -/

/-- The effect of a SERVICE value. -/
def serviceEffect : Handed → State → State
  | .serviceFirst => serviceFirst
  | .serviceSecond => serviceSecond
  | .serviceWrong v => serviceOther v
  | _ => id

theorem exec_serviceCommand {h : Handed} {c : Instr} {s : State} (hc : serviceCommand h = some c)
    (hnext : nextHanded s = some h) : exec c s = .next (whenWorking (serviceEffect h) (dropHanded h s)) := by
  cases h with
  | serviceFirst =>
    obtain rfl := Option.some.inj hc
    show execServiceFirstKey s = _
    rw [execServiceFirstKey, if_pos hnext]
    rfl
  | serviceSecond =>
    obtain rfl := Option.some.inj hc
    show execServiceSecondKey s = _
    rw [execServiceSecondKey, if_pos hnext]
    rfl
  | serviceWrong v =>
    obtain rfl := Option.some.inj hc
    show execServiceWrongValue s = _
    rw [execServiceWrongValue, hnext]
    rfl
  | start | stop | orderPost _ | noticeTaken _ | commit _ _ _ | poolPost _ | openFirst _ | openSecond _ | closeWindow
  | wrongKey => cases hc

/-- The monitor armed, from the parameters. -/
def armedClock (l : Latched) (c : ClockUnit) : ClockUnit :=
  { c with monitor := .armed, countdown := some (periodOf l.periodCode), loaded := some (periodOf l.periodCode)
           latchedPeriod := some l.periodCode, latchedAction := some l.action }

/-- The countdown reloaded with the latched period. -/
def reloadedClock (c : ClockUnit) : ClockUnit :=
  let period := periodOf (c.latchedPeriod.getD 0)
  { c with monitor := .armed, countdown := some (if c.countdown = some 0 then period - 1 else period)
           loaded := some period }

/-- The Clock and Monitor's record after a SERVICE value, by the monitor's state. -/
def servedClock (h : Handed) (l : Latched) (c : ClockUnit) : ClockUnit :=
  match c.monitor with
  | .idle => if h = .serviceFirst then { c with monitor := .primed } else c
  | .primed => if h = .serviceSecond then armedClock l c else { c with monitor := .idle }
  | .armed =>
    if h = .serviceFirst then
      if c.countdown = some 0 then lapsedClock c else { c with monitor := .armedPrimed }
    else lapsedClock c
  | .armedPrimed => if h = .serviceSecond then reloadedClock c else lapsedClock c
  | .lapsed => c

/-- What a SERVICE value does: the Clock and Monitor's record by the table, the part's state, and what stands of the rest. -/
structure Served (c : ClockUnit) (s u : State) : Prop where
  clock : u.clock = c
  part : u.exch.part = s.exch.part
  stands : busy .table s = false → Standing s u

namespace Served

variable {s : State}

theorem same : Served s.clock s s := ⟨rfl, rfl, fun _ => Near.refl.standing⟩

theorem set (c : ClockUnit) : Served c s (setMonitor c s) :=
  ⟨clock_setMonitor c s, (Near.refl.setMonitor c).part, fun _ => (Near.refl.setMonitor c).standing⟩

theorem armed : Served (armedClock s.latched s.clock) s (armMonitor s) := by
  have hn : Near s (armMonitor s) := (Near.refl.setMonitor (armedClock s.latched s.clock)).notify
    { kind := .monitor, reason := 1, first := periodOf s.latched.periodCode, second := s.latched.action.code }
  have hclock : (armMonitor s).clock = armedClock s.latched s.clock :=
    ((alike_setMonitor (armedClock s.latched s.clock) s).notify
      { kind := .monitor, reason := 1, first := periodOf s.latched.periodCode, second := s.latched.action.code }).clock
  exact ⟨hclock, hn.part, fun _ => hn.standing⟩

theorem lapse {t : State} (h : Near s t) {c : ClockUnit} (hc : lapsedClock t.clock = c) (cause value : Nat) :
    Served c s (lapse cause value t) := by
  obtain ⟨hclock, hpart⟩ := lapse_keeps cause value t
  exact ⟨hclock.trans hc, hpart.trans h.part, fun hfree => h.lapse hfree cause value⟩

theorem lapseValue (v : Option Word) : Served (lapsedClock s.clock) s (lapseValue v s) := by
  unfold Machine.lapseValue
  split
  · exact lapse Near.refl rfl 2 _
  · exact lapse Near.drawn rfl 2 _

theorem primeArmed : Served (if s.clock.countdown = some 0 then lapsedClock s.clock
    else { s.clock with monitor := .armedPrimed }) s (primeArmed s) := by
  unfold Machine.primeArmed
  dsimp only
  split
  · refine lapse (Near.refl.setMonitor { s.clock with monitor := .armedPrimed }) ?_ 1 0
    rw [clock_setMonitor]
    rfl
  · exact set _

theorem other {h : Handed} (hfirst : h ≠ .serviceFirst) (hsecond : h ≠ .serviceSecond) (v : Option Word) :
    Served (servedClock h s.latched s.clock) s (serviceOther v s) := by
  unfold serviceOther servedClock
  cases s.clock.monitor with
  | idle =>
    dsimp only
    rw [if_neg hfirst]
    exact same
  | primed =>
    dsimp only
    rw [if_neg hsecond]
    exact set _
  | armed =>
    dsimp only
    rw [if_neg hfirst]
    exact lapseValue v
  | armedPrimed =>
    dsimp only
    rw [if_neg hsecond]
    exact lapseValue v
  | lapsed => exact same

theorem first : Served (servedClock .serviceFirst s.latched s.clock) s (serviceFirst s) := by
  unfold serviceFirst servedClock serviceOther
  cases hm : s.clock.monitor with
  | idle => exact set _
  | primed => exact set _
  | armed => exact primeArmed
  | armedPrimed => exact lapseValue _
  | lapsed => exact same

theorem second : Served (servedClock .serviceSecond s.latched s.clock) s (serviceSecond s) := by
  unfold serviceSecond servedClock serviceOther
  cases hm : s.clock.monitor with
  | idle => exact same
  | primed => exact armed
  | armed => exact lapseValue _
  | armedPrimed => exact set _
  | lapsed => exact same

theorem effect {h : Handed} {c : Instr} (hc : serviceCommand h = some c) (s : State) :
    Served (servedClock h s.latched s.clock) s (serviceEffect h s) := by
  cases h with
  | serviceFirst => exact first
  | serviceSecond => exact second
  | serviceWrong v => exact other (h := .serviceWrong v) (by simp) (by simp) v
  | start | stop | orderPost _ | noticeTaken _ | commit _ _ _ | poolPost _ | openFirst _ | openSecond _ | closeWindow
  | wrongKey => cases hc

/-- The clock's record stands to the end of the event. -/
theorem concluded {c : ClockUnit} {u : State} (h : Served c s u) (hw : worksOn s) : (conclude s u).clock = c := by
  rw [conclude_of_worksOn hw h.part h.stands, clock_of_kept (kept_tidy ..)]
  exact h.clock

end Served

/-- A SERVICE value acted on: the clock's record is as the monitor's table says. -/
theorem clock_serviceCommand {h : Handed} {c : Instr} {s : State} (hc : serviceCommand h = some c)
    (hnext : nextHanded s = some h) (hw : worksOn s) :
    ∃ t, exec c s = .next t ∧ t.clock = servedClock h s.latched s.clock := by
  have hworks : worksOn (dropHanded h s) := hw.imp_right fun ⟨hpart, hcalm, hvisit⟩ => ⟨hpart, calm_dropHanded hcalm h, hvisit⟩
  refine ⟨_, exec_serviceCommand hc hnext, ?_⟩
  rw [whenWorking, if_pos (working_of_worksOn hworks)]
  exact (Served.effect hc (dropHanded h s)).concluded hworks

end Sys2Proof.Machine

/-! PROOFS. The statement of the service monitor (R176, R177): the SERVICE values and MONITOR_COUNTDOWN. -/

namespace Sys2Proof.Machine

/-! ### The table of states and keys, entry by entry -/

section Table

variable {h : Handed} {l : Latched} {c : ClockUnit}

theorem servedClock_idle (hm : c.monitor = .idle) :
    (servedClock h l c).monitor = if h = .serviceFirst then .primed else .idle := by
  unfold servedClock
  rw [hm]
  dsimp only
  split
  · rfl
  · exact hm

theorem servedClock_primed (hm : c.monitor = .primed) :
    (h = .serviceSecond → servedClock h l c = armedClock l c) ∧
      (h ≠ .serviceSecond → (servedClock h l c).monitor = .idle) := by
  unfold servedClock
  rw [hm]
  exact ⟨fun hs => if_pos hs, fun hs => by dsimp only; rw [if_neg hs]⟩

theorem servedClock_armed (hm : c.monitor = .armed) :
    (h = .serviceFirst → c.countdown ≠ some 0 → servedClock h l c = { c with monitor := .armedPrimed }) ∧
      (h = .serviceFirst → c.countdown = some 0 → servedClock h l c = lapsedClock c) ∧
      (h ≠ .serviceFirst → servedClock h l c = lapsedClock c) := by
  unfold servedClock
  rw [hm]
  dsimp only
  exact ⟨fun hf hn => by rw [if_pos hf, if_neg hn], fun hf h0 => by rw [if_pos hf, if_pos h0], fun hf => if_neg hf⟩

theorem servedClock_armedPrimed (hm : c.monitor = .armedPrimed) :
    (h = .serviceSecond → servedClock h l c = reloadedClock c) ∧
      (h ≠ .serviceSecond → servedClock h l c = lapsedClock c) := by
  unfold servedClock
  rw [hm]
  exact ⟨fun hs => if_pos hs, fun hs => if_neg hs⟩

theorem servedClock_lapsed (hm : c.monitor = .lapsed) : servedClock h l c = c := by
  unfold servedClock
  rw [hm]

/-- A reload: the latched period, or one second less at the boundary that brought the countdown to 0 (log 3). -/
theorem reloadedClock_of_latched {code : Nat} (hcode : c.latchedPeriod = some code) :
    (reloadedClock c).monitor = .armed ∧ (reloadedClock c).countdown =
      some (if c.countdown = some 0 then 2 ^ (code + 1) - 2 else 2 ^ (code + 1) - 1) := by
  refine ⟨rfl, ?_⟩
  unfold reloadedClock
  rw [hcode]
  rfl

end Table

/-! ### MONITOR_COUNTDOWN (R176, R177) -/

theorem exec_monitorCountdown_due {s : State} (h : monitorDue s = true) :
    exec .monitorCountdown s = .next (conclude s (lapse 1 0 s)) := by
  show execMonitorCountdown s = _
  rw [execMonitorCountdown, if_pos h]

theorem exec_monitorCountdown_early {s : State} (h : monitorDue s = false) : exec .monitorCountdown s = .next s := by
  show execMonitorCountdown s = _
  rw [execMonitorCountdown, if_neg (by simp [h])]

/-- A lapse by countdown. -/
theorem served_countdown (s : State) : Served (lapsedClock s.clock) s (lapse 1 0 s) := Served.lapse Near.refl rfl 1 0

/-- Without the fallback the depot runs on as before. -/
theorem alike_conclude_lapse {s : State} (hc : calm s) (hw : worksOn s) (hno : s.clock.latchedAction ≠ some .fallback) :
    Alike (conclude s (lapse 1 0 s)) (putClock (lapsedClock s.clock) s) := by
  have hserved := served_countdown s
  have hlapse : lapse 1 0 s = lapsed 1 0 s := if_neg (by simpa using hno)
  have ha := alike_lapsed 1 0 s
  have hended : Ended s (putClock (lapsedClock s.clock) s) := .of_ports
  rw [conclude_of_worksOn hw hserved.part hserved.stands, hlapse, hended.tidy ha (steady_of_calm hc)]
  exact ha

/-- Under the fallback the window shuts and every sound bay is idle. -/
theorem conclude_lapse_fallback {s : State} (hc : calm s) (hw : worksOn s) (hfall : s.clock.latchedAction = some .fallback) :
    (conclude s (lapse 1 0 s)).table.window = .shut ∧
      ∀ b : BayId, Sound b s → idle (conclude s (lapse 1 0 s)).bays[b] := by
  have hserved := served_countdown s
  obtain ⟨hstanding, hwindow, hidle⟩ := Near.refl.lapse_fallback (busy_table_of_calm hc) 1 0 hfall
  have hrested := rested_tidy hstanding hc
  rw [conclude_of_worksOn hw hserved.part hserved.stands]
  exact ⟨(congrArg TableUnit.window hrested.table).trans hwindow, fun b hs => hrested.idle (hidle b hs)⟩

/-! ### The statement -/

/-- The lapse's record, from a flag that was clear. -/
theorem lapsedClock_of_clear {c : ClockUnit} (h : c.fallback = false) : lapsedClock c =
    { c with monitor := .lapsed, countdown := none, faultLine := true
             fallback := c.latchedAction == some .fallback } := by
  unfold lapsedClock
  rw [h, Bool.false_or]

/-- Settles O52: the SERVICE values by the monitor's table, and the countdown's end. -/
theorem monitorByItsTable : Obligations.MonitorByItsTable := by
  refine ⟨fun h c s hc hnext hw => ?_, fun h c s hc hnext hout => ?_, fun s hcalm hclear hpart hdue =>
    ⟨_, exec_monitorCountdown_due hdue, ?_⟩, fun s hearly => exec_monitorCountdown_early hearly⟩
  · obtain ⟨t, hexec, hclock⟩ := clock_serviceCommand hc hnext hw
    refine ⟨t, hexec, ?_⟩
    rw [hclock]
    refine ⟨servedClock_idle, fun hm => ⟨fun hs => ?_, (servedClock_primed hm).2⟩, fun hm => (servedClock_armed hm).1,
      fun hm => (servedClock_armed hm).2.1, fun code hm hs hcode => ?_, fun hcase => ?_, servedClock_lapsed⟩
    · rw [(servedClock_primed hm).1 hs]
      exact ⟨rfl, rfl, rfl, rfl⟩
    · rw [(servedClock_armedPrimed hm).1 hs]
      exact reloadedClock_of_latched hcode
    · rcases hcase with ⟨hm, hother⟩ | ⟨hm, hother⟩
      · exact (servedClock_armed hm).2.2 hother
      · exact (servedClock_armedPrimed hm).2 hother
  · rw [exec_serviceCommand hc hnext]
    exact congrArg _ (if_neg (by rw [show working (dropHanded h s) = false from hout]; simp))
  · have hw : worksOn s := hpart.imp_right fun ⟨hstopping, hvisit⟩ => ⟨hstopping, hcalm, hvisit⟩
    have hclock := (served_countdown s).concluded hw
    refine ⟨hclock.trans (lapsedClock_of_clear hclear), fun hno => ?_, fun hfall hcalling hwaiting => ?_⟩
    · have ha := alike_conclude_lapse hcalm hw hno
      exact ⟨ha.ports, ha.gate, ha.yard, ha.bays, ha.water, ha.table, ha.tally⟩
    · obtain ⟨hwindow, hidle⟩ := conclude_lapse_fallback hcalm hw hfall
      exact ⟨hwindow, fun b => hidle b ⟨hcalling b, hwaiting b⟩⟩

end Sys2Proof.Machine
